-- ==== Sys2Proof/Word.lean ====
section
/-! DEFINITION. The word types of the two serial links. -/

namespace Sys2Proof

/-- A byte of a frame on the host line or on a field line. -/
abbrev Byte := BitVec 8

/-- The check word of a frame: 16 bits (R178, R163). -/
abbrev CrcWord := BitVec 16

/-- The number of a field port, 0 to 15 (R133). -/
abbrev PortNo := Fin 16

/-- The number of a grout line, 0 to 5 (R73). -/
abbrev LineNo := Fin 6

end Sys2Proof
end

