-- ==== Sys2Proof/Config.lean ====
section
/-! DEFINITION. What is fixed for the machine (the port plan, the owners of the output points, the capacities)
and the one free value, the order in which the tellings of one event reach their receivers. -/

namespace Sys2Proof

/-- The class of a field port (R133). -/
inductive PortClass where
  | thrustValve | strokeSense | chamberSense | cutterDrive | screwDrive | beltScale
  | groutPump | erector | segmentFeeder | auxiliary | pendant
  deriving DecidableEq, Repr

/-- The owner of an output point (R158). -/
inductive PointOwner where
  | advance | pressure | free
  deriving DecidableEq, Repr

/-- The four strap lines of a port's connector (R134). -/
inductive StrapLine where
  | d1 | d2 | s1 | s2
  deriving DecidableEq, Repr

/-- The levels of the four strap lines: a detect line made, a sense line at ground (R134, R135). -/
structure Straps where
  d1 : Bool
  d2 : Bool
  s1 : Bool
  s2 : Bool
  deriving DecidableEq, Repr

/-- All four strap lines open. -/
def Straps.open : Straps := ⟨false, false, false, false⟩

namespace Config

/-- The class of each port in the port plan (R133). -/
def portClass (p : PortNo) : PortClass :=
  match p.val with
  | 0 | 1 => .thrustValve
  | 2 => .strokeSense
  | 3 => .chamberSense
  | 4 => .cutterDrive
  | 5 => .screwDrive
  | 6 => .beltScale
  | 7 | 8 | 9 => .groutPump
  | 10 => .erector
  | 11 => .segmentFeeder
  | 12 | 13 => .auxiliary
  | _ => .pendant

/-- Whether the port's supply is 48 V; the others are 24 V (R133). -/
def supply48 (c : PortClass) : Bool :=
  match c with
  | .thrustValve | .cutterDrive | .screwDrive | .groutPump | .erector => true
  | .strokeSense | .chamberSense | .beltScale | .segmentFeeder | .auxiliary | .pendant => false

/-- Whether a port may be bypassed (R133). -/
def bypassable (c : PortClass) : Bool :=
  match c with
  | .beltScale | .groutPump | .auxiliary | .pendant => true
  | .thrustValve | .strokeSense | .chamberSense | .cutterDrive | .screwDrive | .erector
  | .segmentFeeder => false

/-- The report period of a class, in ms (R133). -/
def reportPeriod (c : PortClass) : Nat :=
  match c with
  | .strokeSense | .chamberSense => 100
  | .cutterDrive | .beltScale => 200
  | .thrustValve | .screwDrive | .groutPump | .erector | .segmentFeeder | .auxiliary
  | .pendant => 500

/-- The least point count a station of the class may declare (R138). -/
def minPoints (c : PortClass) : Nat :=
  match c with
  | .thrustValve => 9
  | .cutterDrive | .screwDrive => 1
  | .strokeSense | .chamberSense | .beltScale | .groutPump | .erector | .segmentFeeder
  | .auxiliary | .pendant => 0

/-- The channel count a station of the class must declare, where one is given (R138). -/
def channels (c : PortClass) : Option Nat :=
  match c with
  | .strokeSense => some 4
  | .chamberSense => some 5
  | .cutterDrive => some 1
  | .beltScale | .groutPump => some 2
  | .thrustValve | .screwDrive | .erector | .segmentFeeder | .auxiliary | .pendant => none

/-- The fixed owner of each output point (R158). -/
def pointOwner (p : PortNo) (point : Nat) : PointOwner :=
  match p.val with
  | 0 | 1 => if point ≤ 8 then .advance else .free
  | 4 => if point = 0 then .advance else .free
  | 5 => if point = 0 then .pressure else .free
  | _ => .free

/-- Capacity of the Report Queue (R184). -/
def reportCap : Nat := 32
/-- Capacity of the Reply List (R181). -/
def replyCap : Nat := 4
/-- Capacity of the Request Table (R148). -/
def tableCap : Nat := 32
/-- Most host-origin entries of the Request Table (R148). -/
def hostCap : Nat := 24
/-- Capacity of the Transit Queue (R55). -/
def transitCap : Nat := 64
/-- Capacity of the Ring History (R107). -/
def historyCap : Nat := 16
/-- Capacity of the Segment Queue (R109). -/
def segmentCap : Nat := 8
/-- Capacity of the Fault List (R173). -/
def faultCap : Nat := 8

/-- The limit at which 16-bit counts are held. -/
def max16 : Nat := 65535
/-- The limit at which 32-bit totals are held. -/
def max32 : Nat := 4294967295

/-- FREE VALUE (log 2). The order in which the tellings of one event reach their receivers, where the spec lets
any of them be taken first (R96, R143, R169, R171, R172). It is applied to the counter State.tick, which rises at
every use; nothing constrains it, so every statement holds for every order. -/
opaque tellingOrder : Nat → Nat

end Config

end Sys2Proof
end

