-- ==== Sys2Proof/Syntax.lean ====
section
/-! DEFINITION. The commands of the block: one constructor per row of spec/opcode_table.json, with its operands.
The rows of the host's commands carry the tag of their frame and the fields of the catalogue (R182's chapter);
the rows of field frames carry the port they arrive on and, for an event, the station's sequence byte. -/

namespace Sys2Proof

/-- One command to the block: a row of the opcode table with its operands. -/
inductive Instr where
  /-- POWER_ON (R177): the level of the emergency-stop line and of each port's strap lines. -/
  | powerOn (estop : Bool) (straps : Vector Straps 16)
  /-- HOST_BYTE_RECEIVED (R179): the byte, and the time since the byte before it in µs. -/
  | hostByteReceived (byte : Byte) (gapUs : Nat)
  /-- HELD_COMMAND_HANDED_ON (R180). -/
  | heldCommandHandedOn
  /-- HOST_FRAME_SENT (R183). -/
  | hostFrameSent
  /-- ADVANCE_START (R15): rate. -/
  | advanceStart (tag : Byte) (rate : Nat)
  /-- ADVANCE_STOP (R16). -/
  | advanceStop (tag : Byte)
  /-- CUTTER_SET (R21): speed. -/
  | cutterSet (tag : Byte) (speed : Nat)
  /-- SET_GEOMETRY (R23): A_f, A_a, ring width, clearance, cylinder stroke limit. -/
  | setGeometry (tag : Byte) (aF aA width clearance strokeLimit : Nat)
  /-- SET_GROUND (R24): density, fill factor, void cap. -/
  | setGround (tag : Byte) (rho fill voidCap : Nat)
  /-- SET_LIMITS (R25): F_red, T_warn. -/
  | setLimits (tag : Byte) (fRed tWarn : Nat)
  /-- SET_PRESSURE (R51): P_set, b_s, b_h, G, R, s_min, s_max, D_ovx. -/
  | setPressure (tag : Byte) (pSet bS bH gain rate sMin sMax dOvx : Nat)
  /-- SET_BALANCE (R68): L_t, L_ovx. -/
  | setBalance (tag : Byte) (lT lOvx : Nat)
  /-- LINE_RUN (R83): line, mode byte. -/
  | lineRun (tag : Byte) (line mode : Nat)
  /-- LINE_PRIME (R85): line. -/
  | linePrime (tag : Byte) (line : Nat)
  /-- LINE_STOP (R86): line. -/
  | lineStop (tag : Byte) (line : Nat)
  /-- LINE_CLEAR (R87): line. -/
  | lineClear (tag : Byte) (line : Nat)
  /-- SET_LINE (R88): line, weight, V_s, pressure limit, L_g, t_p, t_s, t_w. -/
  | setLine (tag : Byte) (line weight vs pLimit lag tP tS tW : Nat)
  /-- RING_OPEN (R98, R99): ring number, key slot. -/
  | ringOpen (tag : Byte) (number key : Nat)
  /-- BUILD_START (R101). -/
  | buildStart (tag : Byte)
  /-- RING_CLOSE (R102). -/
  | ringClose (tag : Byte)
  /-- RING_ABANDON (R103). -/
  | ringAbandon (tag : Byte)
  /-- PIECE_DISCARD (R112). -/
  | pieceDiscard (tag : Byte)
  /-- GET_RING (R108): ring number. -/
  | getRing (tag : Byte) (number : Nat)
  /-- PLACE_NEXT (R119). -/
  | placeNext (tag : Byte)
  /-- PLACE_RETRY (R126). -/
  | placeRetry (tag : Byte)
  /-- PLACE_BACKOUT (R127). -/
  | placeBackout (tag : Byte)
  /-- PORT_BYPASS (R145): port. -/
  | portBypass (tag : Byte) (port : Nat)
  /-- PORT_RESTORE (R145): port. -/
  | portRestore (tag : Byte) (port : Nat)
  /-- STATION_READ (R149): port, points. -/
  | stationRead (tag : Byte) (port : Nat) (points : List Nat)
  /-- STATION_WRITE (R149): port, point and value pairs. -/
  | stationWrite (tag : Byte) (port : Nat) (pairs : List (Nat × Nat))
  /-- SAMPLE_OUTPUTS (R162): port. -/
  | sampleOutputs (tag : Byte) (port : Nat)
  /-- CLAMP (R168). -/
  | clamp (tag : Byte)
  /-- UNCLAMP (R168, R172). -/
  | unclamp (tag : Byte)
  /-- RELEASE (R168, R171). -/
  | release (tag : Byte)
  /-- RESUME (R168). -/
  | resume (tag : Byte)
  /-- SET_SAFE (R166): port, point and value pairs. -/
  | setSafe (tag : Byte) (port : Nat) (pairs : List (Nat × Nat))
  /-- GET_FAULTS (R175). -/
  | getFaults (tag : Byte)
  /-- ACK_FAULT (R175). -/
  | ackFault (tag : Byte)
  /-- RESET_PART (R176). -/
  | resetPart (tag : Byte)
  /-- GET_STATUS (R185). -/
  | getStatus (tag : Byte)
  /-- GET_RESTRICTIONS (R38). -/
  | getRestrictions (tag : Byte)
  /-- GET_QUEUES (R186). -/
  | getQueues (tag : Byte)
  /-- ESTOP_ASSERTED (R167). -/
  | estopAsserted
  /-- ESTOP_DEASSERTED (R167). -/
  | estopDeasserted
  /-- STRAP_LINE_CHANGE (R134, R142): the line of the port that changes, and its new level (made / ground). -/
  | strapLineChange (port : PortNo) (line : StrapLine) (level : Bool)
  /-- DEBOUNCE_TIMER_EXPIRY (R134). -/
  | debounceTimerExpiry (port : PortNo)
  /-- PARTIAL_TIMER_EXPIRY (R134). -/
  | partialTimerExpiry (port : PortNo)
  /-- SETTLE_TIMER_EXPIRY (R136). -/
  | settleTimerExpiry (port : PortNo)
  /-- STALE_TIMER_EXPIRY (R140). -/
  | staleTimerExpiry (port : PortNo)
  /-- FIELD_FRAME_DISCARD (R164): the bytes that stood for a frame on the port's line. -/
  | fieldFrameDiscard (port : PortNo) (bytes : List Byte)
  /-- SAMPLE_FRAME (R139): the body of a SAMPLE frame. -/
  | sampleFrame (port : PortNo) (body : List Byte)
  /-- ANSWER_FRAME (R154): the sequence byte and the body of an ANSWER frame. -/
  | answerFrame (port : PortNo) (seq : Byte) (body : List Byte)
  /-- ANSWER_TIMER_EXPIRY (R154). -/
  | answerTimerExpiry (port : PortNo)
  /-- RETRY_WAIT_EXPIRY (R154): the place in the Request Table, oldest first, of the entry whose wait ends. -/
  | retryWaitExpiry (place : Nat)
  /-- TABLE_FILL (R151). -/
  | tableFill
  /-- REQUEST_DISPATCH (R153). -/
  | requestDispatch (port : PortNo)
  /-- STROKE_DONE (R80): line, delivered volume, peak pressure. -/
  | strokeDone (port : PortNo) (seq : Byte) (line delivered peak : Nat)
  /-- STROKE_TIMER_EXPIRY (R82). -/
  | strokeTimerExpiry (line : LineNo)
  /-- PULSE_DELIVERY_TIMER_EXPIRY (R84). -/
  | pulseDeliveryTimerExpiry (line : LineNo)
  /-- PULSE_PAUSE_TIMER_EXPIRY (R84). -/
  | pulsePauseTimerExpiry (line : LineNo)
  /-- PRIME_TIMER_EXPIRY (R85). -/
  | primeTimerExpiry (line : LineNo)
  /-- RETRACTED (R122): sector. -/
  | retracted (port : PortNo) (seq : Byte) (sector : Nat)
  /-- PLACED (R122): serial. -/
  | placed (port : PortNo) (seq : Byte) (serial : Nat)
  /-- RETURNED (R122). -/
  | returned (port : PortNo) (seq : Byte)
  /-- HOLDING (R122): sector. -/
  | holding (port : PortNo) (seq : Byte) (sector : Nat)
  /-- PHASE_TIMER_EXPIRY (R123). -/
  | phaseTimerExpiry
  /-- PIECE_ARRIVED (R110): kind byte, serial. -/
  | pieceArrived (port : PortNo) (seq : Byte) (kind serial : Nat)
  /-- LOCAL_REQUEST (R128). -/
  | localRequest (port : PortNo) (seq : Byte)
  /-- LOCAL_RELEASE (R130). -/
  | localRelease (port : PortNo) (seq : Byte)
  /-- PLACE_REQUEST (R129). -/
  | placeRequest (port : PortNo) (seq : Byte)
  /-- RETRY_REQUEST (R129). -/
  | retryRequest (port : PortNo) (seq : Byte)
  /-- BACKOUT_REQUEST (R129). -/
  | backoutRequest (port : PortNo) (seq : Byte)
  deriving DecidableEq, Repr

end Sys2Proof
end

