-- ==== Sys2Proof/Machine/State.lean ====
section
/-! DEFINITION. The state of the part: every table, queue, record and register the spec names, as plain data, one
structure per unit, and the state right after power-on. -/

namespace Sys2Proof.Machine

/-! ## Values by name -/

/-- Restriction levels, in rising order (00 "Terms", R27). -/
inductive Level where
  | clear | reduced | hold | stop
  deriving DecidableEq, Repr

/-- The sources of the Restriction Table, in entry order (R27). -/
inductive Source where
  | chamber | torque | grout | muck | strokeRef | station | faultBacklog | output
  deriving DecidableEq, Repr

/-- The causes a restriction entry can carry; which source carries which is in R27. -/
inductive RCause where
  | none | softHigh | softLow | hardHigh | hardLow | blind
  | warn | over | lag | blocked | faulted | noLine
  | overWarn | under | oneInvalid | twoInvalid
  | port (p : Fin 6) | listFull
  | host | estop | reset | resume | release
  deriving DecidableEq, Repr

/-- The advance state (R14). -/
inductive AdvState where
  | idle | boring | held | strokeComplete
  deriving DecidableEq, Repr

/-- The cutter state; TURNING carries its speed (R21). -/
inductive Cutter where
  | stopped
  | turning (speed : Nat)
  deriving DecidableEq, Repr

/-- The ring state (R96). -/
inductive RingState where
  | none | boring | building
  deriving DecidableEq, Repr

/-- The state of a Ring Record (R105). -/
inductive RecordState where
  | boring | building | closed | abandoned
  deriving DecidableEq, Repr

/-- The kinds of lining piece: standard, counter-key, key (R100). -/
inductive PieceKind where
  | a | c | k
  deriving DecidableEq, Repr

/-- The mode of a grout line (R73). -/
inductive LineMode where
  | none | track | pulse
  deriving DecidableEq, Repr

/-- The state of a grout line (R73). -/
inductive LineState where
  | stopped | primeWait | primeStroke | tracking | pulseDeliver | pulsePause | blocked | faulted
  deriving DecidableEq, Repr

/-- The stroke phase of a line (R74). REQUESTED names, by its sequence number, the entry of the stroke. -/
inductive StrokePhase where
  | none | pending
  | requested (seqNo : Nat)
  | running | overdue
  deriving DecidableEq, Repr

/-- The timers of a line other than the stroke timer (R84, R85). -/
inductive LineTimerKind where
  | delivery | pause | prime
  deriving DecidableEq, Repr

/-- The cause of a LINE report (R94). -/
inductive LineCause where
  | none | overpressure | strokeTimeout | portLost | refused | busyExhausted | noAnswer
  deriving DecidableEq, Repr

/-- The state of a thrust group (R116). -/
inductive GroupState where
  | push | hold | retracting | retracted | extending
  deriving DecidableEq, Repr

/-- The owner of a sector (R116). -/
inductive SectorOwner where
  | none | build
  deriving DecidableEq, Repr

/-- The states of an active placement step; IDLE is the absence of a step record (R118). -/
inductive StepState where
  | retracting | placing | returning | extending | stepFault
  deriving DecidableEq, Repr

/-- The direction of a step (R118). -/
inductive Direction where
  | forward | backout
  deriving DecidableEq, Repr

/-- Who started a step (R118). -/
inductive StartedBy where
  | host | port14 | port15
  deriving DecidableEq, Repr

/-- The state of a phase's action (R118). REQUESTED names, by its sequence number, the action's entry. -/
inductive StepAction where
  | none | pending
  | requested (seqNo : Nat)
  | accepted
  deriving DecidableEq, Repr

/-- The phase in which a step faulted (R118). -/
inductive FaultedPhase where
  | retracting | placing | extending | backout
  deriving DecidableEq, Repr

/-- The running state in which a backout faulted (R118). -/
inductive BackoutState where
  | returning | extending
  deriving DecidableEq, Repr

/-- The cause of a step fault (R118), with the station's reason byte for REFUSED (R173). -/
inductive StepCause where
  | timeout
  | refused (reason : Byte)
  | busyExhausted | noAnswer | portLost | cancelled | clamped | released
  deriving DecidableEq, Repr

/-- The local-control grant (R128). -/
inductive Grant where
  | free | port14 | port15
  deriving DecidableEq, Repr

/-- The state of a field port (R133). -/
inductive PortState where
  | empty | settling | refused | powering | identifying | ready | stale | faulted | bypassed
  deriving DecidableEq, Repr

/-- How an entry of the Request Table ends (R155). DONE carries the values of the answer's data (the values read,
or the four numbers of an identity record); REFUSED carries the station's reason byte. -/
inductive ReqOutcome where
  | done (values : List Nat)
  | refused (reason : Byte)
  | busyExhausted | noAnswer | portLost | cancelled
  deriving DecidableEq, Repr

/-- The cause of a port's last change of state (R146). -/
inductive PortCause where
  | none | inserted | removed | partialInsertion | supplyMismatch | reservedCode | accepted | settled
  | identified | classMismatch | identityMismatch
  | identifyFailed
  | noSample | sample | noAnswer | bypass | restore
  deriving DecidableEq, Repr

/-- The origin of a request (R148). -/
inductive Origin where
  | host | advance | pressure | grout | build | port | safe
  deriving DecidableEq, Repr

/-- The actions, each with the arguments its owner gives (R137, R78, R118, R171). -/
inductive Action where
  | identify (period : Nat)
  | stroke (line : LineNo) (volume : Nat)
  | retract (sector : Fin 8)
  | place (serial : Nat) (slot : Fin 8)
  | return
  | extend (sector : Fin 8)
  | relinquish
  deriving DecidableEq, Repr

/-- The kind of a request (R148). -/
inductive ReqKind where
  | read (points : List Nat)
  | write (pairs : List (Nat × Nat))
  | action (a : Action)
  deriving DecidableEq, Repr

/-- The state of an entry (R148). IN_FLIGHT carries the sequence byte of its latest attempt (R153, R154). -/
inductive EntryState where
  | queued
  | inFlight (seq : Byte)
  | retryWait
  deriving DecidableEq, Repr

/-- The state of an output point (R158). -/
inductive PointState where
  | clean | pending | dirty | failed
  deriving DecidableEq, Repr

/-- The output mode (R168). -/
inductive OutMode where
  | normal | clamping | clamped | released
  deriving DecidableEq, Repr

/-- The cause with which the output mode stands (R27, R168). -/
inductive OutCause where
  | none | host | estop | reset | resume | release
  deriving DecidableEq, Repr

/-- The format of a fault record (R173). -/
inductive FaultFormat where
  | writeFailed | actionFailed | stepFault | lineFault | portLost | safeFailed
  deriving DecidableEq, Repr

/-- The outcome or cause of a fault record (R173). OVERPRESSURE carries the peak pressure (R81, log 13). -/
inductive FaultCause where
  | refused (reason : Byte)
  | busyExhausted | noAnswer | portLost | cancelled | timeout | clamped | released
  | overpressure (peak : Nat)
  | strokeTimeout | removed
  | identifyFailed (outcome : ReqOutcome)
  deriving DecidableEq, Repr

/-- The status codes of replies (R182). -/
inductive Status where
  | ok | okClamped | unknownCommand | badLength | badValue | wrongState | notConfigured | already
  | tableFull | duplicateTag | portNotReady | pointOwned | queueEmpty | pieceMismatch
  | localControl | inUse | estopActive | strokeRange | notFound
  deriving DecidableEq, Repr

/-- The status of an event answer: a reply status, or one of the four of R163. -/
inductive EventStatus where
  | status (s : Status)
  | notExpected | badKind | duplicateSerial | queueFull
  deriving DecidableEq, Repr

/-! ## Records -/

/-- A sensor reading with its validity (R1, R41). -/
structure Reading where
  value : Nat
  valid : Bool
  deriving DecidableEq, Repr

/-- One entry of the Restriction Table (R27). -/
structure REntry where
  level : Level
  cause : RCause
  ring : Nat
  x : Nat
  raises : Nat
  deriving DecidableEq, Repr

/-- The geometry configuration (R23). -/
structure Geometry where
  aF : Nat
  aA : Nat
  width : Nat
  clearance : Nat
  strokeLimit : Nat
  deriving DecidableEq, Repr

/-- The ground configuration (R24). -/
structure Ground where
  rho : Nat
  fill : Nat
  voidCap : Nat
  deriving DecidableEq, Repr

/-- The eight pressure settings (R51). -/
structure PSettings where
  pSet : Nat
  bS : Nat
  bH : Nat
  gain : Nat
  rate : Nat
  sMin : Nat
  sMax : Nat
  dOvx : Nat
  deriving DecidableEq, Repr

/-- A parcel of expected mass in transit (R55). -/
structure Parcel where
  mass : Nat
  due : Nat
  ring : Nat
  deriving DecidableEq, Repr

/-- The balance settings (R68). -/
structure Balance where
  lT : Nat
  lOvx : Nat
  deriving DecidableEq, Repr

/-- The timings of a grout line, in s (R73). -/
structure Timings where
  tP : Nat
  tS : Nat
  tW : Nat
  deriving DecidableEq, Repr

/-- A Grout Line record (R73). -/
structure Line where
  mode : LineMode
  state : LineState
  weight : Nat
  vs : Nat
  pLimit : Nat
  lag : Nat
  backlog : Nat
  rem : Nat
  phase : StrokePhase
  ringDelivered : Nat
  lifetime : Nat
  timings : Timings
  staged : Option Timings
  timer : Option (LineTimerKind × Nat)
  deriving DecidableEq, Repr

/-- An entry of the Build Plan (R100). -/
structure PlanEntry where
  slot : Fin 8
  kind : PieceKind
  deriving DecidableEq, Repr

/-- An entry of a placed list (R105). -/
structure Placed where
  slot : Fin 8
  kind : PieceKind
  serial : Nat
  deriving DecidableEq, Repr

/-- A piece of the Segment Queue (R109). -/
structure Piece where
  kind : PieceKind
  serial : Nat
  deriving DecidableEq, Repr

/-- A Ring Record (R105). -/
structure Record where
  number : Nat
  key : Fin 8
  state : RecordState
  startStroke : Vector (Option Nat) 4
  endStroke : Option (Vector (Option Nat) 4)
  x : Nat
  volume : Nat
  mass : Nat
  demand : Nat
  unassigned : Nat
  unmet : Nat
  delivered : Vector Nat 6
  vApplied : Nat
  measured : Nat
  releasedExp : Nat
  finalE : Int
  pMinMax : Option (Nat × Nat)
  peakTorque : Nat
  holdCount : Nat
  placed : List Placed
  deriving DecidableEq, Repr

/-- The step record of an active step (R118). -/
structure Step where
  state : StepState
  direction : Direction
  sector : Fin 8
  position : Nat
  kind : PieceKind
  serial : Nat
  startedBy : StartedBy
  action : StepAction
  faultedPhase : Option FaultedPhase
  backoutState : Option BackoutState
  cause : Option StepCause
  timer : Option Nat
  deriving DecidableEq, Repr

/-- The identity record of a station (R133, R138). -/
structure Identity where
  cls : PortClass
  revision : Nat
  points : Nat
  channels : Nat
  deriving DecidableEq, Repr

/-- An entry of the Port Table (R133), with the levels the connector's strap lines stand at (R134). A timer that
runs holds the duration in ms it was started with. -/
structure Port where
  state : PortState
  cause : PortCause
  supply : Bool
  strapRead : Straps
  identity : Option Identity
  noAnswer : Nat
  debounce : Option Nat
  partialTimer : Option Nat
  settle : Option Nat
  stale : Option Nat
  straps : Straps
  deriving DecidableEq, Repr

/-- An entry of the Request Table (R148). -/
structure Entry where
  origin : Origin
  tag : Option Byte
  port : PortNo
  kind : ReqKind
  state : EntryState
  attempts : Nat
  seqNo : Nat
  deriving DecidableEq, Repr

/-- An item of the Action Wait List (R150). -/
structure WaitItem where
  origin : Origin
  port : PortNo
  kind : ReqKind
  deriving DecidableEq, Repr

/-- A point of the Output Image (R158); its owner is Config.pointOwner. -/
structure Point where
  commanded : Option Nat
  confirmed : Option Nat
  state : PointState
  deriving DecidableEq, Repr

/-- A fault record (R173). -/
structure FaultRec where
  format : FaultFormat
  origin : Origin
  tag : Option Byte
  port : Option PortNo
  pointOrLine : Option Nat
  cause : FaultCause
  ring : Nat
  x : Nat
  deriving DecidableEq, Repr

/-! ## Replies and reports -/

/-- The event of a PIECE report (R113). -/
inductive PieceEvent where
  | arrived | refused | discarded
  deriving DecidableEq, Repr

/-- The reason of a PIECE report (R113). -/
inductive PieceReason where
  | badKind | badValue | duplicateSerial | queueFull | none
  deriving DecidableEq, Repr

/-- The outcome of a PLACEMENT report (R122). -/
inductive PlacementOutcome where
  | placed | backedOut
  deriving DecidableEq, Repr

/-- The event of a LOCAL_CONTROL report (R128, R130). -/
inductive GrantEvent where
  | granted | ended
  deriving DecidableEq, Repr

/-- The cause of a LOCAL_CONTROL report (R128, R130). -/
inductive GrantCause where
  | none | released | port | ring | output
  deriving DecidableEq, Repr

/-- The reports, each with the fields its rule lists (R184). -/
inductive Report where
  /-- PERMIT (R31). -/
  | permit (old new : Level) (deciding : Source) (cause : RCause) (ring x : Nat)
  /-- PORT (R146). -/
  | port (port : PortNo) (old new : PortState) (cause : PortCause) (supply : Bool)
      (identity : Option Identity) (outcome : Option ReqOutcome)
  /-- REQUEST_DONE (R162). -/
  | requestDone (tag : Byte) (seqNo : Nat) (port : PortNo) (kind : ReqKind) (outcome : ReqOutcome)
      (attempts : Nat)
  /-- STROKE_COMPLETE (R10). -/
  | strokeComplete (ring x wR volume mass demand : Nat)
  /-- STROKE_JUMP (R5). -/
  | strokeJump (ring m aBefore d : Nat)
  /-- PLACEMENT (R122). -/
  | placement (ring position : Nat) (sector : Fin 8) (kind : PieceKind) (serial : Nat)
      (outcome : PlacementOutcome) (startedBy : StartedBy)
  /-- STEP_FAULT (R124). -/
  | stepFault (ring position : Nat) (sector : Fin 8) (serial : Nat) (phase : FaultedPhase)
      (cause : StepCause) (direction : Direction)
  /-- RING_CLOSED (R104): the record as it entered the history. -/
  | ringClosed (record : Record)
  /-- PIECE (R113); the kind is the byte the event gave. -/
  | piece (event : PieceEvent) (kind serial : Nat) (reason : PieceReason) (queueLength : Nat)
      (next : Option (Nat × PlanEntry))
  /-- LOCAL_CONTROL (R128, R130). -/
  | localControl (event : GrantEvent) (port : PortNo) (ring : Nat) (cause : GrantCause)
  /-- LINE (R94). -/
  | line (line : LineNo) (old new : LineState) (mode : LineMode) (cause : LineCause) (backlog : Nat)
      (phase : StrokePhase) (ring : Nat)
  /-- FAULT (R174): the record and the length of the list after it. -/
  | fault (record : FaultRec) (length : Nat)
  /-- OUTPUT_MODE (R168). -/
  | outputMode (old new : OutMode) (cause : OutCause) (estop : Bool) (outstanding : Nat)
  deriving DecidableEq, Repr

/-- A formed reply (R181): its result data is the bytes of R178. -/
structure Reply where
  tag : Byte
  code : Byte
  status : Status
  data : List Byte
  deriving DecidableEq, Repr

/-- A complete host frame (R179): kind, tag and body. -/
structure HostFrame where
  kind : Byte
  tag : Byte
  body : List Byte
  deriving DecidableEq, Repr

/-- The receiver (R179): in FRAME, the bytes that followed the start byte. -/
inductive Rx where
  | hunt
  | frame (bytes : List Byte)
  deriving DecidableEq, Repr

/-! ## The units -/

/-- The Link Unit (R187). -/
structure Link where
  rx : Rx
  held : Option HostFrame
  replies : List Reply
  reports : List Report
  overflow : Bool
  lengthErrors : Nat
  gapDiscards : Nat
  crcErrors : Nat
  overruns : Nat
  deriving DecidableEq, Repr

/-- The Advance Unit (R26). -/
structure Advance where
  readings : Vector Reading 4
  m : Nat
  a : Nat
  x : Nat
  c1 : Nat
  c2 : Nat
  c3 : Nat
  state : AdvState
  rReq : Nat
  cutter : Cutter
  torque : Nat
  permitCopy : Level
  geometry : Geometry
  ground : Ground
  fRed : Nat
  tWarn : Nat
  deriving DecidableEq, Repr

/-- The Permit Unit (R39). -/
structure Permit where
  table : Vector REntry 8
  level : Level
  deciding : Source
  deriving DecidableEq, Repr

/-- The Pressure Unit (R54). -/
structure Pressure where
  readings : Vector Reading 5
  p : Nat
  held : Bool
  active : PSettings
  waiting : Option PSettings
  setpoint : Nat
  sOld : Nat
  muckTold : Level
  deriving DecidableEq, Repr

/-- The Muck Balance Unit (R72). The last field is the model's own: a belt sample that had reached the unit before port
6 was lost may still be taken (R70, log 25). -/
structure Muck where
  queue : List Parcel
  odometer : Nat
  generated : Nat
  released : Nat
  measured : Nat
  releasedExp : Nat
  e : Int
  vApplied : Nat
  active : Balance
  waiting : Option Balance
  blind : Bool
  late : Bool
  deriving DecidableEq, Repr

/-- The Ring Unit (R115). -/
structure Ring where
  state : RingState
  current : Option Record
  plan : List PlanEntry
  lastNumber : Nat
  history : List Record
  queue : List Piece
  deriving DecidableEq, Repr

/-- The Build Sequencer (R131). -/
structure Build where
  owners : Vector SectorOwner 8
  groups : Vector GroupState 16
  step : Option Step
  grant : Grant
  deriving DecidableEq, Repr

/-- The Request Unit (R165). -/
structure Requests where
  table : List Entry
  waits : List WaitItem
  counter : Nat
  seqBytes : Vector Byte 16
  image : Vector (Vector Point 16) 16
  deriving DecidableEq, Repr

/-- The Output Unit (R177). -/
structure Output where
  mode : OutMode
  cause : OutCause
  estop : Bool
  safe : Vector (List (Nat × Nat)) 16
  outstanding : Vector Bool 16
  faults : List FaultRec
  deriving DecidableEq, Repr

/-- The state of the part. The last four fields are the model's own: the queue of commands, the counter of the
free value (log 2), and the frames the part has put on its lines (log 6); so is the last field of Muck (log 25). -/
structure State where
  link : Link
  adv : Advance
  permit : Permit
  pres : Pressure
  muck : Muck
  lines : Vector Line 6
  ring : Ring
  build : Build
  ports : Vector Port 16
  req : Requests
  out : Output
  hostLine : List (List Byte)
  fieldLine : List (PortNo × List Byte)
  tick : Nat
  pending : List Instr
  deriving DecidableEq, Repr

namespace State

/-! One setter per unit: the only ways a meaning changes State. -/

/-- s with the Link Unit replaced. -/
def setLink (s : State) (v : Link) : State := { s with link := v }
/-- s with the Advance Unit replaced. -/
def setAdv (s : State) (v : Advance) : State := { s with adv := v }
/-- s with the Permit Unit replaced. -/
def setPermit (s : State) (v : Permit) : State := { s with permit := v }
/-- s with the Pressure Unit replaced. -/
def setPres (s : State) (v : Pressure) : State := { s with pres := v }
/-- s with the Muck Balance Unit replaced. -/
def setMuck (s : State) (v : Muck) : State := { s with muck := v }
/-- s with the Grout Unit's lines replaced. -/
def setLines (s : State) (v : Vector Line 6) : State := { s with lines := v }
/-- s with the Ring Unit replaced. -/
def setRing (s : State) (v : Ring) : State := { s with ring := v }
/-- s with the Build Sequencer replaced. -/
def setBuild (s : State) (v : Build) : State := { s with build := v }
/-- s with the Port Table replaced. -/
def setPorts (s : State) (v : Vector Port 16) : State := { s with ports := v }
/-- s with the Request Unit replaced. -/
def setReq (s : State) (v : Requests) : State := { s with req := v }
/-- s with the Output Unit replaced. -/
def setOut (s : State) (v : Output) : State := { s with out := v }
/-- s with the frames sent on the host line replaced. -/
def setHostLine (s : State) (v : List (List Byte)) : State := { s with hostLine := v }
/-- s with the frames sent on the field lines replaced. -/
def setFieldLine (s : State) (v : List (PortNo × List Byte)) : State := { s with fieldLine := v }
/-- s with the free value's counter replaced. -/
def setTick (s : State) (v : Nat) : State := { s with tick := v }
/-- s with the queue of commands replaced. -/
def setPending (s : State) (v : List Instr) : State := { s with pending := v }

end State

/-! ## Power-on values -/

/-- The Link Unit at power-on (R187). -/
def Link.reset : Link := ⟨.hunt, none, [], [], false, 0, 0, 0, 0⟩

/-- The Advance Unit at power-on (R26); the copy of the permit is the permit the table then gives (R30). -/
def Advance.reset (permit : Level) : Advance :=
  { readings := Vector.replicate 4 ⟨0, false⟩, m := 0, a := 0, x := 0, c1 := 0, c2 := 0, c3 := 0
    state := .idle, rReq := 0, cutter := .stopped, torque := 0, permitCopy := permit
    geometry := ⟨0, 0, 0, 0, 32000⟩, ground := ⟨2000, 1100, 200⟩, fRed := 500, tWarn := 850 }

/-- The Restriction Table at power-on, for the level of the emergency-stop line (R39). -/
def Permit.reset (estop : Bool) : Permit :=
  let quiet : REntry := ⟨.clear, .none, 0, 0, 0⟩
  { table := #v[⟨.hold, .blind, 0, 0, 0⟩, quiet, quiet, quiet, ⟨.hold, .blind, 0, 0, 0⟩,
      ⟨.hold, .port 0, 0, 0, 0⟩, quiet,
      if estop then ⟨.stop, .estop, 0, 0, 0⟩ else quiet]
    level := if estop then .stop else .hold
    deciding := if estop then .output else .chamber }

/-- The Pressure Unit at power-on (R54). -/
def Pressure.reset : Pressure :=
  { readings := Vector.replicate 5 ⟨0, false⟩, p := 0, held := true
    active := ⟨2000, 200, 500, 32, 5, 10, 150, 700⟩, waiting := none
    setpoint := 0, sOld := 0, muckTold := .clear }

/-- The Muck Balance Unit at power-on (R72). -/
def Muck.reset : Muck :=
  { queue := [], odometer := 0, generated := 0, released := 0, measured := 0, releasedExp := 0
    e := 0, vApplied := 0, active := ⟨4000, 2000⟩, waiting := none, blind := true, late := false }

/-- A grout line at power-on (R95, SET_LINE's power-on values). -/
def Line.reset : Line :=
  { mode := .none, state := .stopped, weight := 0, vs := 5000, pLimit := 8000, lag := 15000
    backlog := 0, rem := 0, phase := .none, ringDelivered := 0, lifetime := 0
    timings := ⟨20, 60, 5⟩, staged := none, timer := none }

/-- The Ring Unit at power-on (R115). -/
def Ring.reset : Ring := ⟨.none, none, [], 0, [], []⟩

/-- The Build Sequencer at power-on (R131). -/
def Build.reset : Build := ⟨Vector.replicate 8 .none, Vector.replicate 16 .hold, none, .free⟩

/-- A port at power-on, before its detect lines are read (R147), with its strap lines at the levels given. -/
def Port.reset (straps : Straps) : Port :=
  { state := .empty, cause := .none, supply := false, strapRead := Straps.open, identity := none
    noAnswer := 0, debounce := none, partialTimer := none, settle := none, stale := none
    straps := straps }

/-- The Request Unit at power-on (R165). -/
def Requests.reset : Requests :=
  { table := [], waits := [], counter := 0, seqBytes := Vector.replicate 16 0
    image := Vector.replicate 16 (Vector.replicate 16 ⟨some 0, none, .clean⟩) }

/-- The Safe Table at power-on (R166). -/
def safeReset : Vector (List (Nat × Nat)) 16 :=
  let thrust := [(1, 0), (2, 0), (3, 0), (4, 0), (5, 0), (6, 0), (7, 0), (8, 0)]
  #v[thrust, thrust, [], [], [(0, 0)], [(0, 0)], [], [], [], [], [], [], [], [], [], []]

/-- The Output Unit at power-on, for the level of the emergency-stop line (R177). -/
def Output.reset (estop : Bool) : Output :=
  { mode := if estop then .clamped else .normal
    cause := if estop then .estop else .none
    estop := estop, safe := safeReset, outstanding := Vector.replicate 16 false, faults := [] }

/-- The part right after power-on, before the detect lines of its ports are read, with its input lines at the
levels given. -/
def State.powered (estop : Bool) (straps : Vector Straps 16) : State :=
  { link := Link.reset
    adv := Advance.reset (if estop then .stop else .hold)
    permit := Permit.reset estop
    pres := Pressure.reset
    muck := Muck.reset
    lines := Vector.replicate 6 Line.reset
    ring := Ring.reset
    build := Build.reset
    ports := straps.map Port.reset
    req := Requests.reset
    out := Output.reset estop
    hostLine := [], fieldLine := [], tick := 0, pending := [] }

/-- The part right after power-on with the emergency stop deasserted and nothing plugged in. The levels of the
input lines are DESIGN CHOICE, unsafe (log 1): the spec reads them from the lines. -/
def State.reset : State := State.powered false (Vector.replicate 16 Straps.open)

/-! ## How a step can stop -/

/-- Faults. The spec names no condition that stops the part, so no meaning of this model raises one. -/
inductive Fault where
  /-- Raised by no meaning; it stands for a stop the spec does not have. Safe: nothing answers it. -/
  | stopped
  deriving DecidableEq, Repr

/-- Refusals. -/
inductive Refusal where
  /-- Raised by an arm of exec whose command has no meaning yet. Safe: the model stops. -/
  | notModelled (mnemonic : String)
  deriving DecidableEq, Repr

end Sys2Proof.Machine
end

