-- ==== Sys2Proof/Machine/Flags.lean ====
section
/-! DEFINITION. Every level, setpoint and figure the units compute from what they hold: the restriction levels and
the permit, the stroke mean, the controlled pressure, the screw law, the thrust setpoints. -/

namespace Sys2Proof.Machine

/-! ## Tables of a fixed number of entries -/

/-- v with entry i replaced. -/
def put {α : Type} {n : Nat} (v : Vector α n) (i : Fin n) (x : α) : Vector α n := v.set i.val x i.isLt

/-- a + b, held at the limit of a 32-bit total (R61, R73, R105). -/
def sat32 (a b : Nat) : Nat := min (a + b) Config.max32

/-- n + 1, held at 65,535 (R27, R36, R179). -/
def count16 (n : Nat) : Nat := min (n + 1) Config.max16

/-- A value brought to the nearer end of a range it lies outside (00 "Arithmetic"). -/
def clampNat (lo hi n : Nat) : Nat := if n < lo then lo else if hi < n then hi else n

/-- n lies in the range lo to hi. -/
def inRange (lo hi n : Nat) : Bool := lo ≤ n && n ≤ hi

/-! ## Levels and the permit (R27 to R29) -/

/-- The place of a level in the rising order. -/
def Level.rank : Level → Nat
  | .clear => 0 | .reduced => 1 | .hold => 2 | .stop => 3

/-- The higher of two levels. -/
def Level.max (a b : Level) : Level := if a.rank < b.rank then b else a

/-- The highest level held by any entry (R29). -/
def highest (t : Vector REntry 8) : Level := t.toList.foldl (fun l e => l.max e.level) .clear

/-- The entry number of a source, as an index of the table (R27). -/
def Source.idx : Source → Fin 8
  | .chamber => 0 | .torque => 1 | .grout => 2 | .muck => 3 | .strokeRef => 4 | .station => 5
  | .faultBacklog => 6 | .output => 7

/-- The sources in entry-number order (R27). -/
def Source.all : List Source :=
  [.chamber, .torque, .grout, .muck, .strokeRef, .station, .faultBacklog, .output]

/-- The entry of lowest number among those that hold level l (R29). -/
def decidingSource (t : Vector REntry 8) (l : Level) : Source :=
  (Source.all.find? fun src => (t.get src.idx).level == l).getD .chamber

/-- An entry after a write (R28): a rise records the ring and X and adds to the raise count. -/
def REntry.write (e : REntry) (level : Level) (cause : RCause) (ring x : Nat) : REntry :=
  if e.level.rank < level.rank then
    { level := level, cause := cause, ring := ring, x := x, raises := count16 e.raises }
  else { e with level := level, cause := cause }

/-! ## Stroke reference and torque (R1, R2, R22) -/

/-- A stroke reading as stored: marked invalid above 32,000 (R1). -/
def storeStroke (r : Reading) : Reading := { r with valid := r.valid && r.value ≤ 32000 }

/-- The values of the valid readings. -/
def validValues (rs : List Reading) : List Nat := (rs.filter (·.valid)).map (·.value)

/-- The mean of the valid readings, when at least two are valid (R2). -/
def strokeMean (rs : List Reading) : Option Nat :=
  let v := validValues rs
  if 2 ≤ v.length then some (v.sum / v.length) else none

/-- The STROKE_REF level and cause for n valid readings (R2). -/
def strokeRefLevel (n : Nat) : Level × RCause :=
  match n with
  | 0 | 1 => (.hold, .blind)
  | 2 => (.hold, .twoInvalid)
  | 3 => (.reduced, .oneInvalid)
  | _ => (.clear, .none)

/-- The TORQUE level and cause (R22). -/
def torqueLevel (tWarn torque : Nat) : Level × RCause :=
  if torque < tWarn then (.clear, .none)
  else if torque < 1000 then (.reduced, .warn)
  else (.hold, .over)

/-! ## Thrust setpoints (R10, R19) -/

/-- The stroke target of a ring (R10). -/
def Geometry.wR (g : Geometry) : Nat := g.width + g.clearance

/-- Whether the part is configured (R23). -/
def Geometry.configured (g : Geometry) : Bool := g.aF ≠ 0 && g.aA ≠ 0 && g.width ≠ 0

/-- The thrust-rate setpoint (R19). Under HOLD and STOP the advance is not BORING (R14), and the rate is 0. -/
def thrustRate (state : AdvState) (permit : Level) (rReq fRed : Nat) : Nat :=
  match state with
  | .boring =>
    match permit with
    | .clear => rReq
    | .reduced => rReq * fRed / 1000
    | .hold | .stop => 0
  | .idle | .held | .strokeComplete => 0

/-- The mode of the groups the Advance Unit commands (R19). -/
def groupMode (state : AdvState) : GroupState :=
  match state with
  | .boring => .push
  | .idle | .held | .strokeComplete => .hold

/-- A group mode as a point's value: HOLD 0, PUSH 1 (R158). -/
def groupValue (state : AdvState) : Nat :=
  match state with
  | .boring => 1
  | .idle | .held | .strokeComplete => 0

/-! ## Chamber pressure and the screw law (R42, R44, R46, R47) -/

/-- A chamber reading as stored: marked invalid above 10,000 (R41). -/
def storeChamber (r : Reading) : Reading := { r with valid := r.valid && r.value ≤ 10000 }

/-- The middle one of three values (R42). -/
def median3 (a b c : Nat) : Nat := max (min a b) (min (max a b) c)

/-- The controlled pressure measured from sensors 0, 1 and 2, or none when none of them is valid (R42). -/
def crownPressure (rs : List Reading) : Option Nat :=
  match validValues (rs.take 3) with
  | [a, b, c] => some (median3 a b c)
  | [a, b] => some ((a + b) / 2)
  | [a] => some a
  | _ => none

/-- The CHAMBER level and cause: the first row of R44 that applies. -/
def chamberLevel (st : PSettings) (p : Nat) (held : Bool) : Level × RCause :=
  if held then (.hold, .blind)
  else if p > st.pSet + st.bH then (.hold, .hardHigh)
  else if p + st.bH < st.pSet then (.hold, .hardLow)
  else if p > st.pSet + st.bS then (.reduced, .softHigh)
  else if p + st.bS < st.pSet then (.reduced, .softLow)
  else (.clear, .none)

/-- The screw ceiling for the last MUCK level told (R47). -/
def screwCeil (st : PSettings) (muck : Level) : Nat :=
  st.sMax * (if muck = .clear then 1000 else st.dOvx) / 1000

/-- The screw speed law's new setpoint (R46). -/
def screwLaw (st : PSettings) (muck : Level) (p sOld : Nat) : Nat :=
  let e : Int := (p : Int) - (st.pSet : Int)
  let step := (e * st.gain).tdiv 256
  let step := max (-(st.rate : Int)) (min (st.rate : Int) step)
  let ceil := screwCeil st muck
  let moved := (sOld : Int) + step
  if ceil < st.sMin then ceil
  else (max (st.sMin : Int) (min (ceil : Int) moved)).toNat

/-! ## Muck balance (R62, R64) -/

/-- The MUCK level and cause: the first row of R62 that applies. -/
def muckLevel (lOvx : Nat) (e : Int) : Level × RCause :=
  if e ≥ lOvx then (.hold, .over)
  else if e ≥ (lOvx / 2 : Nat) then (.reduced, .overWarn)
  else if e ≤ -(lOvx : Int) then (.reduced, .under)
  else (.clear, .none)

/-- The cap of the void allowance, one floor over the whole product (R64). -/
def voidCap (g : Geometry) (d : Ground) : Nat := g.aA * g.wR * d.voidCap / 100000

/-- The void allowance for a positive excess (R64). -/
def voidAllowance (g : Geometry) (d : Ground) (e : Nat) : Nat :=
  min (e * 1000000 / d.rho) (voidCap g d)

/-! ## Grout (R73, R75, R91) -/

/-- The running states of a line (R73). -/
def LineState.running : LineState → Bool
  | .primeWait | .primeStroke | .tracking | .pulseDeliver | .pulsePause => true
  | .stopped | .blocked | .faulted => false

/-- The sum of the weights of the lines whose mode is TRACK (R75). -/
def trackWeight (lines : Vector Line 6) : Nat :=
  ((lines.toList.filter (·.mode == .track)).map (·.weight)).sum

/-- The sum of all six remainders (R77). -/
def remSum (lines : Vector Line 6) : Nat := (lines.toList.map (·.rem)).sum

/-- The GROUT level and cause: the first row of R91 that applies. -/
def groutLevel (ring : RingState) (lines : Vector Line 6) : Level × RCause :=
  let track := lines.toList.filter (·.mode == .track)
  if ring = .boring ∧ trackWeight lines = 0 then (.hold, .noLine)
  else if track.any (·.state == .blocked) then (.hold, .blocked)
  else if track.any (·.state == .faulted) then (.hold, .faulted)
  else if track.any (fun l => 2 * l.lag ≤ l.backlog) then (.hold, .lag)
  else if track.any (fun l => l.lag ≤ l.backlog) then (.reduced, .lag)
  else (.clear, .none)

/-- The saturation limit of a line's backlog (R76). -/
def Line.limit (l : Line) : Nat := 16 * l.vs

/-! ## Ports and output (R33, R34, R133, R135) -/

/-- A port in service: READY or STALE (R133). -/
def PortState.inService : PortState → Bool
  | .ready | .stale => true
  | .empty | .settling | .refused | .powering | .identifying | .faulted | .bypassed => false

/-- A port state in which the supply is ON (R133). -/
def PortState.powered : PortState → Bool
  | .powering | .identifying | .ready | .stale => true
  | .empty | .settling | .refused | .faulted | .bypassed => false

/-- A port state in which the Request Unit completes the port's entries PORT_LOST (R143, R156). -/
def PortState.lost : PortState → Bool
  | .empty | .refused | .faulted | .bypassed => true
  | .settling | .powering | .identifying | .ready | .stale => false

/-- The STATION level and cause: the lowest-numbered of ports 0 to 5 that is not READY (R33). -/
def stationLevel (ports : Vector Port 16) : Level × RCause :=
  match (List.finRange 6).find? fun p => (ports.get (Fin.castLE (by decide) p)).state != .ready with
  | none => (.clear, .none)
  | some p => (.hold, .port p)

/-- The cause the OUTPUT entry takes from the cause of the mode (R34). -/
def OutCause.restriction : OutCause → RCause
  | .none => .none | .host => .host | .estop => .estop | .reset => .reset | .resume => .resume
  | .release => .release

/-- The OUTPUT level and cause (R34). -/
def outputLevel (mode : OutMode) (cause : OutCause) : Level × RCause :=
  match mode with
  | .normal => (.clear, .none)
  | .clamping | .clamped | .released => (.stop, cause.restriction)

/-- What the sense decode finds (R135). -/
inductive SenseResult where
  | accepted | supplyMismatch | reservedCode
  deriving DecidableEq, Repr

/-- The sense decode of S1 and S2 (true: ground) on a port of the given supply (R135). -/
def senseDecode (is48 : Bool) (s1 s2 : Bool) : SenseResult :=
  match s1, s2 with
  | true, true => .reservedCode
  | true, false => .accepted
  | false, true => if is48 then .accepted else .supplyMismatch
  | false, false => if is48 then .supplyMismatch else .accepted

/-- Exactly one detect line is made (R134). -/
def partialMade (s : Straps) : Bool := s.d1 != s.d2
/-- Both detect lines are made (R134). -/
def bothMade (s : Straps) : Bool := s.d1 && s.d2
/-- Either detect line is made (R134). -/
def anyMade (s : Straps) : Bool := s.d1 || s.d2

/-- The duration of the stale timer: three report periods, in ms (R140). -/
def staleTime (p : PortNo) : Nat := 3 * Config.reportPeriod (Config.portClass p)

/-! ## The Build Plan (R100) -/

/-- The eight entries of the Build Plan for key slot k, in position order (R100). -/
def buildPlan (k : Fin 8) : List PlanEntry :=
  [⟨k + 4, .a⟩, ⟨k + 3, .a⟩, ⟨k + 5, .a⟩, ⟨k + 2, .a⟩, ⟨k + 6, .a⟩, ⟨k + 1, .c⟩, ⟨k + 7, .c⟩, ⟨k, .k⟩]

/-- The next plan entry, with its position: at the number of placed entries; absent while no ring is open and when
eight pieces have been placed (R100). -/
def Ring.next (r : Ring) : Option (Nat × PlanEntry) :=
  match r.current with
  | none => none
  | some rec => (r.plan[rec.placed.length]?).map fun e => (rec.placed.length, e)

/-- The current ring number, 0 when there is none (R28, R31). -/
def Ring.number (r : Ring) : Nat :=
  match r.current with
  | none => 0
  | some rec => rec.number

/-! ## Sectors (R116) -/

/-- The thrust port of a sector (R116). -/
def thrustPort (s : Fin 8) : PortNo := if s.val < 4 then 0 else 1

/-- The two thrust groups of a sector (R116). -/
def sectorGroups (s : Fin 8) : Fin 16 × Fin 16 :=
  (⟨2 * s.val, by omega⟩, ⟨2 * s.val + 1, by omega⟩)

/-- The sector of a thrust group (R116). -/
def sectorOf (g : Fin 16) : Fin 8 := ⟨g.val / 2, by omega⟩

/-- The pump port of a grout line (R73). -/
def pumpPort (l : LineNo) : PortNo := ⟨7 + l.val / 2, by omega⟩

end Sys2Proof.Machine
end

