-- ==== Sys2Proof/Machine/Operands.lean ====
section
/-! DEFINITION. Every form in which an operand crosses a line: the encoding of fields (R178, R163), the check word,
the bodies of the host's commands, of field requests, answers, samples and events, and both frame layouts. -/

namespace Sys2Proof.Machine

/-! ## Fields (R178) -/

/-- The k-byte field of n, most significant byte first (R178). -/
def be : Nat → Nat → List Byte
  | 0, _ => []
  | k + 1, n => BitVec.ofNat 8 (n / 256 ^ k) :: be k n

/-- A field of one byte. -/
def u8 (n : Nat) : List Byte := be 1 n
/-- A field of two bytes. -/
def u16 (n : Nat) : List Byte := be 2 n
/-- A field of four bytes. -/
def u32 (n : Nat) : List Byte := be 4 n
/-- A field of six bytes. -/
def u48 (n : Nat) : List Byte := be 6 n
/-- A signed field of six bytes, in two's complement (R178). -/
def s48 (z : Int) : List Byte := be 6 (z % (256 ^ 6 : Nat)).toNat
/-- A flag: 1 when set (DESIGN CHOICE, log 8). -/
def flag (b : Bool) : List Byte := u8 (if b then 1 else 0)
/-- An optional field, preceded by its presence byte (R178). -/
def opt {α : Type} (f : α → List Byte) : Option α → List Byte
  | none => u8 0
  | some a => u8 1 ++ f a
/-- A list, preceded by its count byte (R178). -/
def listOf {α : Type} (f : α → List Byte) (xs : List α) : List Byte :=
  u8 xs.length ++ xs.flatMap f
/-- A fixed number of values, one after another with no count byte (DESIGN CHOICE, log 8). -/
def group {α : Type} {n : Nat} (f : α → List Byte) (v : Vector α n) : List Byte :=
  v.toList.flatMap f

/-- The number a field's bytes hold, most significant byte first. -/
def rd (bytes : List Byte) : Nat := bytes.foldl (fun n b => n * 256 + b.toNat) 0
/-- The number held by the len bytes of body from offset off. -/
def fld (body : List Byte) (off len : Nat) : Nat := rd ((body.drop off).take len)

/-! ## The check word -/

/-- One bit of the CRC-16 with polynomial 0x1021. -/
def crcBit (c : CrcWord) : CrcWord :=
  if c.msb then (c <<< 1) ^^^ 0x1021#16 else c <<< 1

/-- One byte of the CRC-16. -/
def crcByte (c : CrcWord) (b : Byte) : CrcWord :=
  let c := c ^^^ (b.zeroExtend 16 <<< 8)
  crcBit (crcBit (crcBit (crcBit (crcBit (crcBit (crcBit (crcBit c)))))))

/-- CRC-16, polynomial 0x1021, initial value 0xFFFF (R178, R163). -/
def crc16 (bytes : List Byte) : CrcWord := bytes.foldl crcByte 0xFFFF#16

/-- A frame of either link: start byte, length, kind, tag or sequence byte, body, CRC over length through body. -/
def frameBytes (start kind seq : Byte) (body : List Byte) : List Byte :=
  let core := u8 body.length ++ [kind, seq] ++ body
  start :: (core ++ u16 (crc16 core).toNat)

/-! ## Named values: the position in the list that first gives the set (R178; log 7) -/

/-- The byte of a level. -/
def Level.code : Level → Nat
  | .clear => 0 | .reduced => 1 | .hold => 2 | .stop => 3
/-- The entry number of a source (R27). -/
def Source.code : Source → Nat
  | .chamber => 0 | .torque => 1 | .grout => 2 | .muck => 3 | .strokeRef => 4 | .station => 5
  | .faultBacklog => 6 | .output => 7
/-- The byte of a cause within the set of its source (R27). -/
def RCause.code (src : Source) : RCause → Nat
  | .none => 0
  | .softHigh => 1 | .softLow => 2 | .hardHigh => 3 | .hardLow => 4
  | .blind => match src with | .chamber => 5 | .muck => 4 | _ => 3
  | .warn => 1 | .over => 2
  | .lag => 1 | .blocked => 2 | .faulted => 3 | .noLine => 4
  | .overWarn => 1 | .under => 3
  | .oneInvalid => 1 | .twoInvalid => 2
  | .port p => 1 + p.val
  | .listFull => 1
  | .host => 1 | .estop => 2 | .reset => 3 | .resume => 4 | .release => 5
/-- The byte of an advance state. -/
def AdvState.code : AdvState → Nat
  | .idle => 0 | .boring => 1 | .held => 2 | .strokeComplete => 3
/-- The byte of a cutter state. -/
def Cutter.code : Cutter → Nat
  | .stopped => 0 | .turning _ => 1
/-- The speed of the cutter, 0 when stopped. -/
def Cutter.speed : Cutter → Nat
  | .stopped => 0 | .turning v => v
/-- The byte of a ring state. -/
def RingState.code : RingState → Nat
  | .none => 0 | .boring => 1 | .building => 2
/-- The byte of a record state: its position in R105's list of all four, also in the RING_CLOSED report, whose rule R104
lists CLOSED or ABANDONED alone (DESIGN CHOICE, log 7). -/
def RecordState.code : RecordState → Nat
  | .boring => 0 | .building => 1 | .closed => 2 | .abandoned => 3
/-- The byte of a kind of piece. -/
def PieceKind.code : PieceKind → Nat
  | .a => 0 | .c => 1 | .k => 2
/-- The kind of piece a byte names, if any. -/
def PieceKind.ofCode : Nat → Option PieceKind
  | 0 => some .a | 1 => some .c | 2 => some .k | _ => none
/-- The byte of a line mode. -/
def LineMode.code : LineMode → Nat
  | .none => 0 | .track => 1 | .pulse => 2
/-- The byte of a line state. -/
def LineState.code : LineState → Nat
  | .stopped => 0 | .primeWait => 1 | .primeStroke => 2 | .tracking => 3 | .pulseDeliver => 4
  | .pulsePause => 5 | .blocked => 6 | .faulted => 7
/-- The byte of a stroke phase. -/
def StrokePhase.code : StrokePhase → Nat
  | .none => 0 | .pending => 1 | .requested _ => 2 | .running => 3 | .overdue => 4
/-- The byte of a LINE report's cause. -/
def LineCause.code : LineCause → Nat
  | .none => 0 | .overpressure => 1 | .strokeTimeout => 2 | .portLost => 3 | .refused => 4
  | .busyExhausted => 5 | .noAnswer => 6
/-- The byte of a group state. -/
def GroupState.code : GroupState → Nat
  | .push => 0 | .hold => 1 | .retracting => 2 | .retracted => 3 | .extending => 4
/-- The byte of a sector owner. -/
def SectorOwner.code : SectorOwner → Nat
  | .none => 0 | .build => 1
/-- The byte of an active step's state; IDLE is 0. -/
def StepState.code : StepState → Nat
  | .retracting => 1 | .placing => 2 | .returning => 3 | .extending => 4 | .stepFault => 5
/-- The byte of a direction. -/
def Direction.code : Direction → Nat
  | .forward => 0 | .backout => 1
/-- The byte of a starter. -/
def StartedBy.code : StartedBy → Nat
  | .host => 0 | .port14 => 1 | .port15 => 2
/-- The byte of an action state. -/
def StepAction.code : StepAction → Nat
  | .none => 0 | .pending => 1 | .requested _ => 2 | .accepted => 3
/-- The byte of a faulted phase. -/
def FaultedPhase.code : FaultedPhase → Nat
  | .retracting => 0 | .placing => 1 | .extending => 2 | .backout => 3
/-- The byte of a backout state. -/
def BackoutState.code : BackoutState → Nat
  | .returning => 0 | .extending => 1
/-- The byte of a step cause. -/
def StepCause.code : StepCause → Nat
  | .timeout => 0 | .refused _ => 1 | .busyExhausted => 2 | .noAnswer => 3 | .portLost => 4
  | .cancelled => 5 | .clamped => 6 | .released => 7
/-- The byte of a grant holder. -/
def Grant.code : Grant → Nat
  | .free => 0 | .port14 => 1 | .port15 => 2
/-- The byte of a port state. -/
def PortState.code : PortState → Nat
  | .empty => 0 | .settling => 1 | .refused => 2 | .powering => 3 | .identifying => 4 | .ready => 5
  | .stale => 6 | .faulted => 7 | .bypassed => 8
/-- The byte of a port cause. -/
def PortCause.code : PortCause → Nat
  | .none => 0 | .inserted => 1 | .removed => 2 | .partialInsertion => 3 | .supplyMismatch => 4
  | .reservedCode => 5 | .accepted => 6 | .settled => 7 | .identified => 8 | .classMismatch => 9
  | .identityMismatch => 10 | .identifyFailed => 11 | .noSample => 12 | .sample => 13 | .noAnswer => 14
  | .bypass => 15 | .restore => 16
end Sys2Proof.Machine

namespace Sys2Proof

/-- The byte of a port class (R133). -/
def PortClass.code : PortClass → Nat
  | .thrustValve => 0 | .strokeSense => 1 | .chamberSense => 2 | .cutterDrive => 3 | .screwDrive => 4
  | .beltScale => 5 | .groutPump => 6 | .erector => 7 | .segmentFeeder => 8 | .auxiliary => 9
  | .pendant => 10
/-- The byte of a point owner (R158). -/
def PointOwner.code : PointOwner → Nat
  | .advance => 0 | .pressure => 1 | .free => 2

end Sys2Proof

namespace Sys2Proof.Machine

/-- The byte of a request's outcome: its position in R155's list; R79 has CANCELLED before PORT_LOST (DESIGN CHOICE,
log 7). -/
def ReqOutcome.code : ReqOutcome → Nat
  | .done _ => 0 | .refused _ => 1 | .busyExhausted => 2 | .noAnswer => 3 | .portLost => 4
  | .cancelled => 5
/-- The reason byte of an outcome, for REFUSED. -/
def ReqOutcome.reason : ReqOutcome → Option Byte
  | .refused r => some r
  | .done _ | .busyExhausted | .noAnswer | .portLost | .cancelled => none
/-- The byte of an origin. -/
def Origin.code : Origin → Nat
  | .host => 0 | .advance => 1 | .pressure => 2 | .grout => 3 | .build => 4 | .port => 5 | .safe => 6
/-- The byte of a request kind in a host body. -/
def ReqKind.code : ReqKind → Nat
  | .read _ => 0 | .write _ => 1 | .action _ => 2
/-- The byte of an entry state. -/
def EntryState.code : EntryState → Nat
  | .queued => 0 | .inFlight _ => 1 | .retryWait => 2
/-- The byte of a point state. -/
def PointState.code : PointState → Nat
  | .clean => 0 | .pending => 1 | .dirty => 2 | .failed => 3
/-- The byte of an output mode. -/
def OutMode.code : OutMode → Nat
  | .normal => 0 | .clamping => 1 | .clamped => 2 | .released => 3
/-- The byte of an output cause. -/
def OutCause.code : OutCause → Nat
  | .none => 0 | .host => 1 | .estop => 2 | .reset => 3 | .resume => 4 | .release => 5
/-- The byte of a fault format. -/
def FaultFormat.code : FaultFormat → Nat
  | .writeFailed => 0 | .actionFailed => 1 | .stepFault => 2 | .lineFault => 3 | .portLost => 4
  | .safeFailed => 5
/-- The byte of a fault cause. -/
def FaultCause.code : FaultCause → Nat
  | .refused _ => 0 | .busyExhausted => 1 | .noAnswer => 2 | .portLost => 3 | .cancelled => 4
  | .timeout => 5 | .clamped => 6 | .released => 7 | .overpressure _ => 8 | .strokeTimeout => 9
  | .removed => 10 | .identifyFailed _ => 11
/-- The reason byte of a fault cause, for REFUSED. -/
def FaultCause.reason : FaultCause → Option Byte
  | .refused r => some r
  | _ => none
/-- The outcome of the IDENTIFY a fault cause carries, for IDENTIFY_FAILED. -/
def FaultCause.outcome : FaultCause → Option ReqOutcome
  | .identifyFailed o => some o
  | _ => none
/-- The status byte of a reply (R182). -/
def Status.code : Status → Nat
  | .ok => 0x00 | .okClamped => 0x01 | .unknownCommand => 0x02 | .badLength => 0x03 | .badValue => 0x04
  | .wrongState => 0x05 | .notConfigured => 0x06 | .already => 0x07 | .tableFull => 0x08
  | .duplicateTag => 0x09 | .portNotReady => 0x0A | .pointOwned => 0x0B | .queueEmpty => 0x0C
  | .pieceMismatch => 0x0D | .localControl => 0x0E | .inUse => 0x0F | .estopActive => 0x10
  | .strokeRange => 0x11 | .notFound => 0x12
/-- The status byte of an event answer (R163). -/
def EventStatus.code : EventStatus → Nat
  | .status s => s.code
  | .notExpected => 0x20 | .badKind => 0x21 | .duplicateSerial => 0x22 | .queueFull => 0x23
/-- The byte of a PIECE report's event. -/
def PieceEvent.code : PieceEvent → Nat
  | .arrived => 0 | .refused => 1 | .discarded => 2
/-- The byte of a PIECE report's reason. -/
def PieceReason.code : PieceReason → Nat
  | .badKind => 0 | .badValue => 1 | .duplicateSerial => 2 | .queueFull => 3 | .none => 4
/-- The byte of a PLACEMENT report's outcome. -/
def PlacementOutcome.code : PlacementOutcome → Nat
  | .placed => 0 | .backedOut => 1
/-- The byte of a LOCAL_CONTROL report's event. -/
def GrantEvent.code : GrantEvent → Nat
  | .granted => 0 | .ended => 1
/-- The byte of a LOCAL_CONTROL report's cause. -/
def GrantCause.code : GrantCause → Nat
  | .none => 0 | .released => 1 | .port => 2 | .ring => 3 | .output => 4
/-- A line that is asserted or deasserted (R167). -/
def estopByte (asserted : Bool) : List Byte := u8 (if asserted then 0 else 1)
/-- A supply that is ON or OFF (R133). -/
def supplyByte (on : Bool) : List Byte := u8 (if on then 0 else 1)
/-- The strap readings: detect lines made or open, sense lines open or ground (R133). -/
def strapBytes (r : Straps) : List Byte :=
  u8 (if r.d1 then 0 else 1) ++ u8 (if r.d2 then 0 else 1)
    ++ u8 (if r.s1 then 1 else 0) ++ u8 (if r.s2 then 1 else 0)

/-! ## Records in host bodies -/

/-- A point and value pair. -/
def pairBytes (pv : Nat × Nat) : List Byte := u8 pv.1 ++ u16 pv.2

/-- A plan entry: slot and kind. -/
def planBytes (e : PlanEntry) : List Byte := u8 e.slot.val ++ u8 e.kind.code

/-- The next plan entry: position, slot and kind, or its absence (R113). -/
def nextBytes (n : Option (Nat × PlanEntry)) : List Byte :=
  opt (fun e => u8 e.1 ++ planBytes e.2) n

/-- An identity record (R138). -/
def identityBytes (i : Identity) : List Byte :=
  u8 i.cls.code ++ u8 i.revision ++ u8 i.points ++ u8 i.channels

/-- The reason byte of a refusal, or its absence. -/
def reasonBytes (r : Option Byte) : List Byte := opt (fun b => [b]) r

/-- A fault record, every field of R173 in order; the peak pressure of OVERPRESSURE is no field of R173 (log 13). -/
def faultBytes (f : FaultRec) : List Byte :=
  u8 f.format.code ++ u8 f.origin.code ++ opt (fun t => [t]) f.tag ++ opt (fun p => u8 p.val) f.port
    ++ opt u8 f.pointOrLine ++ u8 f.cause.code ++ reasonBytes f.cause.reason
    ++ opt (fun o => u8 o.code) f.cause.outcome ++ u16 f.ring ++ u16 f.x

/-- A stroke: four readings, each or its absence. -/
def strokeBytes (v : Vector (Option Nat) 4) : List Byte := group (opt u16) v

/-- The advance, grout, muck, pressure, torque and hold figures of a record, in the order of R104. -/
def recordFigures (r : Record) : List Byte :=
  u16 r.x ++ u32 r.volume ++ u32 r.mass ++ u32 r.demand ++ u32 r.unassigned ++ u32 r.unmet
    ++ group u32 r.delivered ++ u32 r.vApplied ++ u32 r.measured ++ u32 r.releasedExp ++ s48 r.finalE
    ++ opt (fun p => u16 p.1) r.pMinMax ++ opt (fun p => u16 p.2) r.pMinMax ++ u16 r.peakTorque
    ++ u16 r.holdCount

/-- The body of a report: its code and its fields (R178, R184). -/
def Report.body : Report → List Byte
  | .permit old new deciding cause ring x =>
    u8 0x01 ++ u8 old.code ++ u8 new.code ++ u8 deciding.code ++ u8 (cause.code deciding) ++ u16 ring
      ++ u16 x
  | .port p old new cause supply identity outcome =>
    u8 0x02 ++ u8 p.val ++ u8 old.code ++ u8 new.code ++ u8 cause.code ++ supplyByte supply
      ++ opt identityBytes identity ++ opt (fun o => u8 o.code) outcome
  | .requestDone tag seqNo p kind outcome attempts =>
    u8 0x03 ++ [tag] ++ u32 seqNo ++ u8 p.val ++ u8 kind.code ++ u8 outcome.code
      ++ reasonBytes outcome.reason ++ u8 attempts
      ++ (match kind, outcome with
          | .read _, .done values => opt (listOf u16) (some values)
          | _, _ => u8 0)
  | .strokeComplete ring x wR volume mass demand =>
    u8 0x04 ++ u16 ring ++ u16 x ++ u16 wR ++ u32 volume ++ u32 mass ++ u32 demand
  | .strokeJump ring m aBefore d => u8 0x05 ++ u16 ring ++ u16 m ++ u16 aBefore ++ u16 d
  | .placement ring position sector kind serial outcome startedBy =>
    u8 0x06 ++ u16 ring ++ u8 position ++ u8 sector.val ++ u8 kind.code ++ u32 serial ++ u8 outcome.code
      ++ u8 startedBy.code
  | .stepFault ring position sector serial phase cause direction =>
    u8 0x07 ++ u16 ring ++ u8 position ++ u8 sector.val ++ u32 serial ++ u8 phase.code ++ u8 cause.code
      ++ u8 direction.code
  | .ringClosed r =>
    u8 0x08 ++ u16 r.number ++ u8 r.key.val ++ u8 r.state.code ++ recordFigures r ++ u8 r.placed.length
  | .piece event kind serial reason queueLength next =>
    u8 0x09 ++ u8 event.code ++ u8 kind ++ u32 serial ++ u8 reason.code ++ u8 queueLength ++ nextBytes next
  | .localControl event p ring cause =>
    u8 0x0A ++ u8 event.code ++ u8 p.val ++ u16 ring ++ u8 cause.code
  | .line l old new mode cause backlog phase ring =>
    u8 0x0B ++ u8 l.val ++ u8 old.code ++ u8 new.code ++ u8 mode.code ++ u8 cause.code ++ u32 backlog
      ++ u8 phase.code ++ u16 ring
  | .fault record length => u8 0x0C ++ faultBytes record ++ u8 length
  | .outputMode old new cause estop outstanding =>
    u8 0x0D ++ u8 old.code ++ u8 new.code ++ u8 cause.code ++ estopByte estop ++ u8 outstanding

/-- The frame of a report on the host line: kind REPORT, tag 0 (R178). -/
def Report.frame (r : Report) : List Byte := frameBytes 0xA5 0x02 0 r.body

/-- data cut into pieces of up to 246 bytes, at least one piece; fuel bounds the number of pieces (R178). -/
def segments : Nat → List Byte → List (List Byte)
  | 0, data => [data]
  | fuel + 1, data =>
    if data.length ≤ 246 then [data] else data.take 246 :: segments fuel (data.drop 246)

/-- The frames of a reply: one per segment, each with the command code, the status, the segment number and the
number of segments before its data (R178, R181). -/
def Reply.frames (r : Reply) : List (List Byte) :=
  let segs := segments r.data.length r.data
  segs.zipIdx.map fun (seg, i) =>
    frameBytes 0xA5 0x01 r.tag ([r.code] ++ u8 r.status.code ++ u8 i ++ u8 segs.length ++ seg)

/-! ## The host's commands (R180, R182's catalogue) -/

/-- A host command with its fields. -/
inductive HostCmd where
  | advanceStart (rate : Nat)
  | advanceStop
  | cutterSet (speed : Nat)
  | setGeometry (g : Geometry)
  | setGround (g : Ground)
  | setLimits (fRed tWarn : Nat)
  | setPressure (p : PSettings)
  | setBalance (b : Balance)
  | lineRun (line mode : Nat)
  | linePrime (line : Nat)
  | lineStop (line : Nat)
  | lineClear (line : Nat)
  | setLine (line weight vs pLimit lag tP tS tW : Nat)
  | ringOpen (number key : Nat)
  | buildStart
  | ringClose
  | ringAbandon
  | pieceDiscard
  | getRing (number : Nat)
  | placeNext
  | placeRetry
  | placeBackout
  | portBypass (port : Nat)
  | portRestore (port : Nat)
  | stationRead (port : Nat) (points : List Nat)
  | stationWrite (port : Nat) (pairs : List (Nat × Nat))
  | sampleOutputs (port : Nat)
  | clamp
  | unclamp
  | release
  | resume
  | setSafe (port : Nat) (pairs : List (Nat × Nat))
  | getFaults
  | ackFault
  | resetPart
  | getStatus
  | getRestrictions
  | getQueues
  deriving DecidableEq, Repr

/-- The command code of the catalogue. -/
def HostCmd.code : HostCmd → Byte
  | .advanceStart _ => 0x10 | .advanceStop => 0x11 | .cutterSet _ => 0x12 | .setGeometry _ => 0x13
  | .setGround _ => 0x14 | .setLimits _ _ => 0x15 | .setPressure _ => 0x18 | .setBalance _ => 0x1C
  | .lineRun _ _ => 0x20 | .linePrime _ => 0x21 | .lineStop _ => 0x22 | .lineClear _ => 0x23
  | .setLine _ _ _ _ _ _ _ _ => 0x24
  | .ringOpen _ _ => 0x28 | .buildStart => 0x29 | .ringClose => 0x2A | .ringAbandon => 0x2B
  | .pieceDiscard => 0x2C | .getRing _ => 0x2D
  | .placeNext => 0x30 | .placeRetry => 0x31 | .placeBackout => 0x32
  | .portBypass _ => 0x38 | .portRestore _ => 0x39
  | .stationRead _ _ => 0x40 | .stationWrite _ _ => 0x41 | .sampleOutputs _ => 0x42
  | .clamp => 0x48 | .unclamp => 0x49 | .release => 0x4A | .resume => 0x4B | .setSafe _ _ => 0x4C
  | .getFaults => 0x4D | .ackFault => 0x4E | .resetPart => 0x4F
  | .getStatus => 0x50 | .getRestrictions => 0x51 | .getQueues => 0x52

/-- The body of a host command: its fields in the order of the catalogue. -/
def HostCmd.body : HostCmd → List Byte
  | .advanceStart rate => u16 rate
  | .cutterSet speed => u16 speed
  | .setGeometry g => u32 g.aF ++ u16 g.aA ++ u16 g.width ++ u16 g.clearance ++ u16 g.strokeLimit
  | .setGround g => u16 g.rho ++ u16 g.fill ++ u16 g.voidCap
  | .setLimits fRed tWarn => u16 fRed ++ u16 tWarn
  | .setPressure p =>
    u16 p.pSet ++ u16 p.bS ++ u16 p.bH ++ u16 p.gain ++ u8 p.rate ++ u8 p.sMin ++ u8 p.sMax ++ u16 p.dOvx
  | .setBalance b => u16 b.lT ++ u16 b.lOvx
  | .lineRun line mode => u8 line ++ u8 mode
  | .linePrime line | .lineStop line | .lineClear line => u8 line
  | .setLine line weight vs pLimit lag tP tS tW =>
    u8 line ++ u8 weight ++ u16 vs ++ u16 pLimit ++ u32 lag ++ u16 tP ++ u16 tS ++ u16 tW
  | .ringOpen number key => u16 number ++ u8 key
  | .getRing number => u16 number
  | .portBypass port | .portRestore port | .sampleOutputs port => u8 port
  | .stationRead port points => u8 port ++ listOf u8 points
  | .stationWrite port pairs | .setSafe port pairs => u8 port ++ listOf pairBytes pairs
  | .advanceStop | .buildStart | .ringClose | .ringAbandon | .pieceDiscard | .placeNext | .placeRetry
  | .placeBackout | .clamp | .unclamp | .release | .resume | .getFaults | .ackFault | .resetPart
  | .getStatus | .getRestrictions | .getQueues => []

/-- The frame in which the host sends a command. -/
def HostCmd.frame (c : HostCmd) (tag : Byte) : HostFrame := ⟨c.code, tag, c.body⟩

/-- What the Link Unit finds in a complete frame (R180). -/
inductive HostParse where
  | command (c : HostCmd)
  | unknown
  | badLength
  deriving DecidableEq, Repr

/-- A command whose body is of the stated length, or BAD_LENGTH. -/
def fixedBody (n : Nat) (body : List Byte) (c : HostCmd) : HostParse :=
  if body.length = n then .command c else .badLength

/-- A command with a list: its body is 2 + count × size bytes, or BAD_LENGTH (R180). -/
def listBody (size : Nat) (body : List Byte) (c : HostCmd) : HostParse :=
  if 2 ≤ body.length ∧ body.length = 2 + fld body 1 1 * size then .command c else .badLength

/-- The single-byte items of a list field. -/
def byteItems (bytes : List Byte) : List Nat := bytes.map (·.toNat)

/-- The point and value pairs of a list field, three bytes each. -/
def pairItems : List Byte → List (Nat × Nat)
  | p :: hi :: lo :: rest => (p.toNat, rd [hi, lo]) :: pairItems rest
  | _ => []

/-- The command a frame spells by the catalogue (R180). -/
def hostParse (kind : Byte) (b : List Byte) : HostParse :=
  match kind.toNat with
  | 0x10 => fixedBody 2 b (.advanceStart (fld b 0 2))
  | 0x11 => fixedBody 0 b .advanceStop
  | 0x12 => fixedBody 2 b (.cutterSet (fld b 0 2))
  | 0x13 => fixedBody 12 b
      (.setGeometry ⟨fld b 0 4, fld b 4 2, fld b 6 2, fld b 8 2, fld b 10 2⟩)
  | 0x14 => fixedBody 6 b (.setGround ⟨fld b 0 2, fld b 2 2, fld b 4 2⟩)
  | 0x15 => fixedBody 4 b (.setLimits (fld b 0 2) (fld b 2 2))
  | 0x18 => fixedBody 13 b
      (.setPressure ⟨fld b 0 2, fld b 2 2, fld b 4 2, fld b 6 2, fld b 8 1, fld b 9 1, fld b 10 1, fld b 11 2⟩)
  | 0x1C => fixedBody 4 b (.setBalance ⟨fld b 0 2, fld b 2 2⟩)
  | 0x20 => fixedBody 2 b (.lineRun (fld b 0 1) (fld b 1 1))
  | 0x21 => fixedBody 1 b (.linePrime (fld b 0 1))
  | 0x22 => fixedBody 1 b (.lineStop (fld b 0 1))
  | 0x23 => fixedBody 1 b (.lineClear (fld b 0 1))
  | 0x24 => fixedBody 16 b
      (.setLine (fld b 0 1) (fld b 1 1) (fld b 2 2) (fld b 4 2) (fld b 6 4) (fld b 10 2) (fld b 12 2)
        (fld b 14 2))
  | 0x28 => fixedBody 3 b (.ringOpen (fld b 0 2) (fld b 2 1))
  | 0x29 => fixedBody 0 b .buildStart
  | 0x2A => fixedBody 0 b .ringClose
  | 0x2B => fixedBody 0 b .ringAbandon
  | 0x2C => fixedBody 0 b .pieceDiscard
  | 0x2D => fixedBody 2 b (.getRing (fld b 0 2))
  | 0x30 => fixedBody 0 b .placeNext
  | 0x31 => fixedBody 0 b .placeRetry
  | 0x32 => fixedBody 0 b .placeBackout
  | 0x38 => fixedBody 1 b (.portBypass (fld b 0 1))
  | 0x39 => fixedBody 1 b (.portRestore (fld b 0 1))
  | 0x40 => listBody 1 b (.stationRead (fld b 0 1) (byteItems (b.drop 2)))
  | 0x41 => listBody 3 b (.stationWrite (fld b 0 1) (pairItems (b.drop 2)))
  | 0x42 => fixedBody 1 b (.sampleOutputs (fld b 0 1))
  | 0x48 => fixedBody 0 b .clamp
  | 0x49 => fixedBody 0 b .unclamp
  | 0x4A => fixedBody 0 b .release
  | 0x4B => fixedBody 0 b .resume
  | 0x4C => listBody 3 b (.setSafe (fld b 0 1) (pairItems (b.drop 2)))
  | 0x4D => fixedBody 0 b .getFaults
  | 0x4E => fixedBody 0 b .ackFault
  | 0x4F => fixedBody 0 b .resetPart
  | 0x50 => fixedBody 0 b .getStatus
  | 0x51 => fixedBody 0 b .getRestrictions
  | 0x52 => fixedBody 0 b .getQueues
  | _ => .unknown

/-! ## Field bodies (R163) -/

/-- An action's code and arguments (R163). -/
def Action.bytes : Action → List Byte
  | .identify period => u8 0x01 ++ u16 period
  | .stroke line volume => u8 0x02 ++ u8 line.val ++ u16 volume
  | .retract sector => u8 0x03 ++ u8 sector.val
  | .place serial slot => u8 0x04 ++ u32 serial ++ u8 slot.val
  | .return => u8 0x05
  | .extend sector => u8 0x06 ++ u8 sector.val
  | .relinquish => u8 0x07

/-- The body of a REQUEST frame (R163). -/
def ReqKind.bytes : ReqKind → List Byte
  | .read points => u8 0x01 ++ listOf u8 points
  | .write pairs => u8 0x02 ++ listOf pairBytes pairs
  | .action a => u8 0x03 ++ a.bytes

/-- A REQUEST frame (R153, R163). -/
def requestFrame (seq : Byte) (k : ReqKind) : List Byte := frameBytes 0x5A 0x01 seq k.bytes

/-- An EVENT_ANSWER frame, repeating the event's sequence byte (R163, R164). -/
def eventAnswerFrame (seq : Byte) (st : EventStatus) : List Byte := frameBytes 0x5A 0x05 seq (u8 st.code)

/-- What an ANSWER body says (R154, R163). -/
inductive AnswerBody where
  | done (data : List Byte)
  | refused (reason : Byte)
  | busy
  | misfit
  deriving DecidableEq, Repr

/-- The result of an ANSWER body; a result code outside the three, and a REFUSED or BUSY body of another length, do
not fit (R154). -/
def answerBody : List Byte → AnswerBody
  | [] => .misfit
  | r :: rest =>
    match r.toNat, rest with
    | 0x00, data => .done data
    | 0x01, [reason] => .refused reason
    | 0x02, [] => .busy
    | _, _ => .misfit

/-- The values of n two-byte fields. -/
def wordItems : List Byte → List Nat
  | hi :: lo :: rest => rd [hi, lo] :: wordItems rest
  | _ => []

/-- The data a DONE answer carries for a request of kind k, when it fits (R154, R163). -/
def answerData (k : ReqKind) (data : List Byte) : Option (List Nat) :=
  match k with
  | .read points =>
    if data.length = 1 + 2 * points.length ∧ fld data 0 1 = points.length
    then some (wordItems (data.drop 1)) else none
  | .action (.identify _) => if data.length = 4 then some (byteItems data) else none
  | _ => if data = [] then some [] else none

/-- The channels of a SAMPLE body after its count byte: a two-byte value and a validity byte each (R163). A validity
byte other than 1 marks a reading invalid (DESIGN CHOICE, log 10). -/
def sampleItems : List Byte → List Reading
  | hi :: lo :: v :: rest => ⟨rd [hi, lo], v.toNat == 1⟩ :: sampleItems rest
  | _ => []

/-- The readings of a SAMPLE body, when it holds the number of channels the identity declares (R139, R163). -/
def sampleReadings (channels : Nat) (body : List Byte) : Option (List Reading) :=
  if body.length = 1 + 3 * channels ∧ fld body 0 1 = channels then some (sampleItems (body.drop 1))
  else none

/-- The events of stations (R139), with the fields their receiving rules list. -/
inductive StationEvent where
  | retracted (sector : Nat)
  | holding (sector : Nat)
  | placed (serial : Nat)
  | returned
  | strokeDone (line delivered peak : Nat)
  | pieceArrived (kind serial : Nat)
  | localRequest
  | localRelease
  | placeRequest
  | retryRequest
  | backoutRequest
  deriving DecidableEq, Repr

/-- The classes that send an event (R139). -/
def StationEvent.sentBy : StationEvent → PortClass
  | .retracted _ | .holding _ => .thrustValve
  | .placed _ | .returned => .erector
  | .strokeDone _ _ _ => .groutPump
  | .pieceArrived _ _ => .segmentFeeder
  | .localRequest | .localRelease | .placeRequest | .retryRequest | .backoutRequest => .pendant

/-- What an EVENT body says: an event; a kind no class sends, or no kind at all; or a body that does not fit its kind, with
the class that sends the kind (log 23). -/
inductive EventBody where
  | event (e : StationEvent)
  | unknownKind
  | misfit (sentBy : PortClass)
  deriving DecidableEq, Repr

/-- An event whose fields take n bytes. -/
def eventOf (n : Nat) (fields : List Byte) (e : StationEvent) : EventBody :=
  if fields.length = n then .event e else .misfit e.sentBy

/-- The event an EVENT body spells (R163). -/
def eventBody : List Byte → EventBody
  | [] => .unknownKind
  | k :: f =>
    match k.toNat with
    | 0x01 => eventOf 1 f (.retracted (fld f 0 1))
    | 0x02 => eventOf 1 f (.holding (fld f 0 1))
    | 0x03 => eventOf 4 f (.placed (fld f 0 4))
    | 0x04 => eventOf 0 f .returned
    | 0x05 => eventOf 5 f (.strokeDone (fld f 0 1) (fld f 1 2) (fld f 3 2))
    | 0x06 => eventOf 5 f (.pieceArrived (fld f 0 1) (fld f 1 4))
    | 0x07 => eventOf 0 f .localRequest
    | 0x08 => eventOf 0 f .localRelease
    | 0x09 => eventOf 0 f .placeRequest
    | 0x0A => eventOf 0 f .retryRequest
    | 0x0B => eventOf 0 f .backoutRequest
    | _ => .unknownKind

/-- A frame the part takes from a station (R164). -/
inductive FieldMsg where
  | answer (seq : Byte) (body : List Byte)
  | sample (body : List Byte)
  | event (seq : Byte) (body : List Byte)
  deriving DecidableEq, Repr

/-- The frame the bytes spell, or none for a bad frame: a wrong start byte, a length above 250 or not that of the
bytes, a bad CRC, or a kind the part does not take (R164). -/
def fieldFrame : List Byte → Option FieldMsg
  | start :: len :: kind :: seq :: rest =>
    let n := len.toNat
    let body := rest.take n
    if start.toNat = 0x5A ∧ n ≤ 250 ∧ rest.length = n + 2
        ∧ rd (rest.drop n) = (crc16 ([len, kind, seq] ++ body)).toNat then
      match kind.toNat with
      | 0x02 => some (.answer seq body)
      | 0x03 => some (.sample body)
      | 0x04 => some (.event seq body)
      | _ => none
    else none
  | _ => none

end Sys2Proof.Machine
end

