-- ==== Sys2Proof/Machine/Ops.lean ====
section
/-! DEFINITION. The operations the units share: reports and replies, frames on the lines, registration of requests,
the setpoint writes of the Advance and Pressure units, a write to the Restriction Table with all it causes, the
Fault List, and the free order of tellings. -/

namespace Sys2Proof.Machine

/-! ## The order of tellings (log 2) -/

/-- Apply each of the functions once, in the order the number picks: the first is that at place order modulo their
number, the rest are ordered by the quotient. -/
def applyInOrder : Nat → Nat → List (State → State) → State → State
  | 0, _, _, s => s
  | _ + 1, _, [], s => s
  | _ + 1, _, [f], s => f s
  | fuel + 1, order, f :: g :: fs, s =>
    let all := f :: g :: fs
    let place := order % all.length
    applyInOrder fuel (order / all.length) (all.eraseIdx place) ((all.getD place id) s)

/-- Tell each receiver, in an order nothing fixes (R96, R143, R169): the free value at the present tick. -/
def tellAll (tellings : List (State → State)) (s : State) : State :=
  applyInOrder tellings.length (Config.tellingOrder s.tick) tellings (s.setTick (s.tick + 1))

/-! ## Link Unit: reports, replies, frames -/

/-- The Report Queue after a report is handed to it: appended, or with 32 queued the overflow flag set (R184). -/
def Link.queueReport (l : Link) (r : Report) : Link :=
  if l.reports.length < Config.reportCap then { l with reports := l.reports ++ [r] }
  else { l with overflow := true }

/-- Hand a report to the Link Unit (R184). -/
def report (r : Report) (s : State) : State := s.setLink (s.link.queueReport r)

/-- A formed reply joins the Reply List (R181). -/
def addReply (r : Reply) (s : State) : State :=
  s.setLink { s.link with replies := s.link.replies ++ [r] }

/-- Put a frame on a field line. -/
def sendField (p : PortNo) (bytes : List Byte) (s : State) : State :=
  s.setFieldLine (s.fieldLine ++ [(p, bytes)])

/-- A contribution to the current Ring Record; dropped when there is none (R106). -/
def contribute (f : Record → Record) (s : State) : State :=
  s.setRing { s.ring with current := s.ring.current.map f }

/-- The port is in service (R133). -/
def State.portUp (s : State) (p : PortNo) : Bool := (s.ports.get p).state.inService

/-! ## Request Unit: the Output Image and registration -/

/-- A point of the Output Image (R158). -/
def Requests.point (r : Requests) (p : PortNo) (i : Fin 16) : Point := (r.image.get p).get i

/-- The image with one point changed. -/
def Requests.setPoint (r : Requests) (p : PortNo) (i : Fin 16) (pt : Point) : Requests :=
  { r with image := put r.image p (put (r.image.get p) i pt) }

/-- The image with the point of the given number changed; a number above 15 names no point. -/
def Requests.modPoint (r : Requests) (p : PortNo) (i : Nat) (f : Point → Point) : Requests :=
  if h : i < 16 then r.setPoint p ⟨i, h⟩ (f (r.point p ⟨i, h⟩)) else r

/-- A write of the point asked and registered, or folded: the new commanded value, PENDING (row 1 of R159). -/
def Point.asked (v : Nat) (pt : Point) : Point := { pt with commanded := some v, state := .pending }

/-- A write of the point asked and not registered: the new commanded value, DIRTY (row 2 of R159). -/
def Point.deferred (v : Nat) (pt : Point) : Point := { pt with commanded := some v, state := .dirty }

/-- The image with each point that a request writes changed by f of its number and its value; other requests leave the
image (R159). -/
def Requests.modWritten (r : Requests) (p : PortNo) (k : ReqKind) (f : Nat → Nat → Point → Point) : Requests :=
  match k with
  | .write pairs => pairs.foldl (fun r pv => r.modPoint p pv.1 (f pv.1 pv.2)) r
  | .read _ | .action _ => r

/-- The next value of the registration counter (R148). -/
def Requests.nextSeq (r : Requests) : Nat := if r.counter = Config.max32 then 1 else r.counter + 1

/-- Register an entry: QUEUED, attempts 1, the next sequence number, as the newest (R148). -/
def Requests.register (r : Requests) (origin : Origin) (tag : Option Byte) (p : PortNo) (k : ReqKind) :
    Requests :=
  { r with
    counter := r.nextSeq
    table := r.table ++ [⟨origin, tag, p, k, .queued, 1, r.nextSeq⟩] }

/-- Register an entry, and ask the points that it writes (R148, row 1 of R159). -/
def Requests.enter (r : Requests) (origin : Origin) (tag : Option Byte) (p : PortNo) (k : ReqKind) : Requests :=
  (r.register origin tag p k).modWritten p k fun _ => Point.asked

/-- The table has room for an entry (R148). -/
def Requests.room (r : Requests) : Bool := r.table.length < Config.tableCap

/-- QUEUED or RETRY_WAIT: not on the line (R150, R152). -/
def EntryState.offLine : EntryState → Bool
  | .queued | .retryWait => true
  | .inFlight _ => false

/-- On the line (R153). -/
def EntryState.onLine : EntryState → Bool
  | .inFlight _ => true
  | .queued | .retryWait => false

/-- The entry is a write of this one point by this origin, not on the line (R150). -/
def Entry.foldable (origin : Origin) (p : PortNo) (i : Nat) (e : Entry) : Bool :=
  e.origin == origin && e.port == p && e.state.offLine &&
    (match e.kind with
      | .write [(j, _)] => j == i
      | _ => false)

/-- The list with the last element that satisfies q changed by f, if there is one. -/
def replaceLast {α : Type} (q : α → Bool) (f : α → α) : List α → Option (List α)
  | [] => none
  | x :: xs =>
    match replaceLast q f xs with
    | some ys => some (x :: ys)
    | none => if q x then some (f x :: xs) else none

/-- A write asked by a job (R150): folded into the newest waiting entry of the point (DEDUCED, log 11), or not
registered and the point DIRTY, or registered. open_ says that the output mode is NORMAL and the port in service. -/
def Requests.jobWrite (r : Requests) (open_ : Bool) (origin : Origin) (p : PortNo) (i : Fin 16) (v : Nat) :
    Requests :=
  let pt := r.point p i
  match replaceLast (Entry.foldable origin p i.val) (fun e => { e with kind := .write [(i.val, v)] })
      r.table with
  | some table => ({ r with table := table }).setPoint p i (pt.asked v)
  | none =>
    if open_ && r.room then
      (r.register origin none p (.write [(i.val, v)])).setPoint p i (pt.asked v)
    else r.setPoint p i (pt.deferred v)

/-- What may register in each output mode (R157). -/
def OutMode.admits (m : OutMode) (o : Origin) : Bool :=
  match m, o with
  | .normal, _ => true
  | .clamping, .host | .clamping, .safe | .clamping, .port => true
  | .clamped, .host | .clamped, .safe | .clamped, .port => true
  | .released, .host | .released, .safe => true
  | _, _ => false

/-- A PORT-origin IDENTIFY. -/
def isIdentify (o : Origin) (k : ReqKind) : Bool :=
  match o, k with
  | .port, .action (.identify _) => true
  | _, _ => false

/-- The port takes a request: in service, or IDENTIFYING for the IDENTIFY (R150). -/
def PortState.takes (st : PortState) (o : Origin) (k : ReqKind) : Bool :=
  st.inService || (st == .identifying && isIdentify o k)

/-- Where an internal action or a safe write was placed (R150). -/
inductive Placement where
  | registered (seqNo : Nat)
  | waiting
  | portLost
  deriving DecidableEq, Repr

/-- Place an internal action or a safe write (R150): completed PORT_LOST at once, registered, or at the tail of the
Action Wait List, where the points of a safe write are DIRTY with its values until it registers (R159). The tail stands
also behind a waiting RELINQUISH, where R169 has a safe write go ahead of every other item (DESIGN CHOICE, log 35). -/
def Requests.placeItem (r : Requests) (mode : OutMode) (portState : PortState) (w : WaitItem) :
    Requests × Placement :=
  if !portState.takes w.origin w.kind then (r, .portLost)
  else if r.room && mode.admits w.origin then
    (r.enter w.origin none w.port w.kind, .registered r.nextSeq)
  else (({ r with waits := r.waits ++ [w] } : Requests).modWritten w.port w.kind fun _ => Point.deferred, .waiting)

/-- Place an internal action or a safe write in the present state (R150). -/
def placeItem (w : WaitItem) (s : State) : State × Placement :=
  let r := s.req.placeItem s.out.mode (s.ports.get w.port).state w
  (s.setReq r.1, r.2)

/-- Remove what of an item stands in the Action Wait List (R152). -/
def Requests.dropWaits (r : Requests) (q : WaitItem → Bool) : Requests :=
  { r with waits := r.waits.filter fun w => !q w }

/-- Withdraw the entry of the given sequence number unless it is IN_FLIGHT (R152). -/
def Requests.withdrawEntry (r : Requests) (seqNo : Nat) : Requests :=
  { r with table := r.table.filter fun e => !(e.seqNo == seqNo && e.state.offLine) }

/-- The entry of the given sequence number stands IN_FLIGHT (R80, R122). -/
def Requests.onLine (r : Requests) (seqNo : Nat) : Bool :=
  r.table.any fun e => e.seqNo == seqNo && e.state.onLine

/-! ## Pressure Unit: the screw setpoint -/

/-- Write the screw setpoint when it differs from the commanded value, or whatever the commanded value when forced,
while the mode is NORMAL and port 5 in service (R50). -/
def screwRequests (force : Bool) (s : State) : Requests :=
  if s.out.mode = .normal && s.portUp 5
      && (force || (s.req.point 5 0).commanded ≠ some s.pres.setpoint) then
    s.req.jobWrite true .pressure 5 0 s.pres.setpoint
  else s.req

/-- Write the screw setpoint through the Output Image (R50). -/
def writeScrew (force : Bool) (s : State) : State := s.setReq (screwRequests force s)

/-- The screw setpoint and s_old take a value, and the setpoint is written (R46, R48, R49). -/
def setScrew (v : Nat) (s : State) : State :=
  writeScrew false (s.setPres { s.pres with setpoint := v, sOld := v })

/-- The telling of a change of the MUCK level (R35, R48). -/
def tellMuckLevel (l : Level) (s : State) : State :=
  let s := s.setPres { s.pres with muckTold := l }
  let ceil := screwCeil s.pres.active l
  if ceil < s.pres.setpoint then setScrew ceil s else s

/-! ## Advance Unit: setpoints and state -/

/-- One point the Advance Unit commands: its port, its number, its value, and the thrust group it is the mode of. -/
structure Target where
  port : PortNo
  point : Fin 16
  value : Nat
  groupOf : Option (Fin 16)
  deriving DecidableEq, Repr

/-- The thrust groups of a thrust port: 0 to 7 on port 0, 8 to 15 on port 1 (R19). -/
def groupTargets (p : PortNo) (base : Nat) (value : Nat) : List Target :=
  (List.finRange 8).map fun k =>
    ⟨p, ⟨k.val + 1, by omega⟩, value, some (Fin.ofNat 16 (base + k.val))⟩

/-- The Advance Unit's setpoints (R19), in the order they are written: ports, then points, ascending (R20 gives no order:
DESIGN CHOICE, log 29). -/
def targets (a : Advance) : List Target :=
  let rate := thrustRate a.state a.permitCopy a.rReq a.fRed
  let mode := groupValue a.state
  ⟨0, 0, rate, none⟩ :: groupTargets 0 0 mode ++ (⟨1, 0, rate, none⟩ :: groupTargets 1 8 mode)
    ++ [⟨4, 0, a.cutter.speed, none⟩]

/-- Write one setpoint when it differs from the commanded value; the group of a sector owned by BUILD is left alone,
and the mode written is handed to the Build Sequencer (R19, R20, R117). -/
def writeTarget (s : State) (acc : Requests × Vector GroupState 16) (t : Target) :
    Requests × Vector GroupState 16 :=
  let owned := match t.groupOf with
    | some g => s.build.owners.get (sectorOf g) == .build
    | none => false
  if owned || (acc.1.point t.port t.point).commanded = some t.value then acc
  else
    (acc.1.jobWrite (s.portUp t.port) .advance t.port t.point t.value,
      match t.groupOf with
      | some g => put acc.2 g (groupMode s.adv.state)
      | none => acc.2)

/-- The Request Table and image, and the group states, after the Advance Unit has compared each of its points with
its setpoint; it writes only while the mode is NORMAL (R20). -/
def setpoints (s : State) : Requests × Vector GroupState 16 :=
  if s.out.mode = .normal then (targets s.adv).foldl (writeTarget s) (s.req, s.build.groups)
  else (s.req, s.build.groups)

/-- The Advance Unit recomputes its setpoints and writes those that differ (R20). -/
def refresh (s : State) : State :=
  (s.setReq (setpoints s).1).setBuild { s.build with groups := (setpoints s).2 }

/-- The telling that the advance has left BORING: the screw stops (R49). -/
def pressureLeave (s : State) : State := setScrew 0 s

/-- An entry of the advance into HELD is counted in the current record (R36). -/
def countHold (s : State) : State := contribute (fun r => { r with holdCount := count16 r.holdCount }) s

/-- The advance state changes: an entry into HELD is counted (R36), leaving BORING stops the screw (R49), and the
setpoints follow (R20). That the screw's 0 is asked before the setpoints is DESIGN CHOICE (log 30). -/
def moveAdvance (new : AdvState) (s : State) : State :=
  let old := s.adv.state
  let s := s.setAdv { s.adv with state := new }
  let s := if new = .held ∧ old ≠ .held then countHold s else s
  let s := if old = .boring ∧ new ≠ .boring then pressureLeave s else s
  refresh s

/-- An advance in BORING or HELD becomes IDLE; the other states are kept (R17, R18). -/
def stopAdvance (s : State) : State :=
  match s.adv.state with
  | .boring | .held => moveAdvance .idle s
  | .idle | .strokeComplete => s

/-- The cutter becomes STOPPED, whatever the cause, and with it an advance in BORING or HELD IDLE (R18, R21). -/
def stopCutter (s : State) : State :=
  match s.adv.cutter with
  | .stopped => s
  | .turning _ => refresh (stopAdvance (s.setAdv { s.adv with cutter := .stopped }))

/-- The conditions every move into BORING tests besides the permit (R14). -/
def mayBore (s : State) : Bool :=
  s.ring.state = .boring && s.out.mode = .normal && s.adv.cutter ≠ .stopped

/-- The telling of a changed permit (R17, R30). A HELD advance returns to BORING only under R14's conditions
(DEDUCED, log 18). -/
def tellPermit (l : Level) (s : State) : State :=
  let s := s.setAdv { s.adv with permitCopy := l }
  match l with
  | .clear | .reduced =>
    if s.adv.state = .held && mayBore s then moveAdvance .boring s else refresh s
  | .hold => if s.adv.state = .boring then moveAdvance .held s else refresh s
  | .stop => refresh (stopCutter (stopAdvance s))

/-! ## Permit Unit: a write to the Restriction Table -/

/-- The table after a write to an entry, and the permit and deciding source derived from it (R28, R29). -/
def Permit.write (p : Permit) (src : Source) (level : Level) (cause : RCause) (ring x : Nat) : Permit :=
  let table := put p.table src.idx ((p.table.get src.idx).write level cause ring x)
  { table := table, level := highest table, deciding := decidingSource table (highest table) }

/-- A write to an entry of the Restriction Table: the entry (R28), the permit (R29), and when the permit has changed
the Advance Unit told (R30) and then a PERMIT report queued (R31). A change of the MUCK level is told to the Pressure
Unit (R35). -/
def writeEntry (src : Source) (level : Level) (cause : RCause) (s : State) : State :=
  let old := s.permit
  let new := old.write src level cause s.ring.number s.adv.x
  let s := s.setPermit new
  let s :=
    if new.level ≠ old.level then
      report (.permit old.level new.level new.deciding (new.table.get new.deciding.idx).cause s.ring.number
        s.adv.x) (tellPermit new.level s)
    else s
  if src = .muck ∧ (old.table.get src.idx).level ≠ level then tellMuckLevel level s else s

/-- writeEntry with level and cause as a pair. -/
def writeLevel (src : Source) (lc : Level × RCause) (s : State) : State := writeEntry src lc.1 lc.2 s

/-! ## Output Unit: the Fault List -/

/-- A fault record handed to the Output Unit: stored and reported, or with the list full FAULT_BACKLOG written HOLD
(R174). -/
def handFault (f : FaultRec) (s : State) : State :=
  if s.out.faults.length < Config.faultCap then
    report (.fault f (s.out.faults.length + 1)) (s.setOut { s.out with faults := s.out.faults ++ [f] })
  else writeEntry .faultBacklog .hold .listFull s

/-! ## Commands -/

/-- What taking a host command gives: the state, the status and the result data of its reply (R181). -/
abbrev Taken := State × Status × List Byte

/-- A refusal: nothing changes and the result data is empty (R182). -/
def refuse (st : Status) (s : State) : Taken := (s, st, [])

end Sys2Proof.Machine
end

