-- ==== Sys2Proof/Machine/Build.lean ====
section
/-! DEFINITION. The Build Sequencer (07): placement steps, their faults and recovery, sector holds, local control. -/

namespace Sys2Proof.Machine

/-! ## The step record (R118) -/

/-- Replace the step record. -/
def setStep (st : Option Step) (s : State) : State := s.setBuild { s.build with step := st }

/-- A running state of the step (R118). -/
def StepState.running : StepState → Bool
  | .retracting | .placing | .returning | .extending => true
  | .stepFault => false

/-- The phase port of a state (R118). -/
def phasePort (state : StepState) (sector : Fin 8) : PortNo :=
  match state with
  | .retracting | .extending => thrustPort sector
  | .placing | .returning => 10
  | .stepFault => thrustPort sector

/-- The action of a running state (R118). -/
def phaseAction (st : Step) : Action :=
  match st.state with
  | .retracting => .retract st.sector
  | .placing => .place st.serial st.sector
  | .returning => .return
  | .extending | .stepFault => .extend st.sector

/-- The duration of a phase timer, in ms (R118). -/
def phaseTime : StepState → Nat
  | .retracting | .extending => 30000
  | .placing | .returning => 120000
  | .stepFault => 0

/-- The two groups of a sector take a state (R116). -/
def setGroups (sector : Fin 8) (g : GroupState) (s : State) : State :=
  let pr := sectorGroups sector
  s.setBuild { s.build with groups := put (put s.build.groups pr.1 g) pr.2 g }

/-- A sector's owner changes and the Advance Unit is told (R117). -/
def setOwner (sector : Fin 8) (o : SectorOwner) (s : State) : State :=
  refresh (s.setBuild { s.build with owners := put s.build.owners sector o })

/-! ## Faults (R124) -/

/-- The phase a running step faults in (R124). -/
def faultedIn (d : Direction) (state : StepState) : FaultedPhase :=
  match d with
  | .backout => .backout
  | .forward =>
    match state with
    | .retracting => .retracting
    | .placing => .placing
    | .returning | .extending | .stepFault => .extending

/-- The backout state of a step that faults during a backout (R124). -/
def faultedBackout (d : Direction) (state : StepState) : Option BackoutState :=
  match d with
  | .forward => none
  | .backout =>
    match state with
    | .returning => some .returning
    | .retracting | .placing | .extending | .stepFault => some .extending

/-- A step cause as the fault record names it (R173). -/
def StepCause.record : StepCause → FaultCause
  | .timeout => .timeout | .refused r => .refused r | .busyExhausted => .busyExhausted
  | .noAnswer => .noAnswer | .portLost => .portLost | .cancelled => .cancelled | .clamped => .clamped
  | .released => .released

/-- The step's action entry, when not on the line, is withdrawn (R124, R131, R152). -/
def withdrawStep (st : Step) (s : State) : State :=
  match st.action with
  | .pending => s.setReq (s.req.dropWaits fun w => w.origin == .build)
  | .requested n => s.setReq (s.req.withdrawEntry n)
  | .none | .accepted => s

/-- The step record after a fault (steps 1 to 3 of R124). -/
def Step.faulted (st : Step) (cause : StepCause) : Step :=
  { st with
    state := .stepFault, action := .none, timer := none
    faultedPhase := some (faultedIn st.direction st.state)
    backoutState := faultedBackout st.direction st.state
    cause := some cause }

/-- A fault of the step; a step already in STEP_FAULT, or no step, changes nothing (R124). -/
def stepFault (cause : StepCause) (s : State) : State :=
  match s.build.step with
  | none => s
  | some st =>
    if st.state.running then
      let s := setStep (some (st.faulted cause)) (withdrawStep st s)
      let s := handFault
        { format := .stepFault, origin := .build, tag := none, port := some (phasePort st.state st.sector)
          pointOrLine := none, cause := cause.record, ring := s.ring.number, x := s.adv.x } s
      report (.stepFault s.ring.number st.position st.sector st.serial
        (faultedIn st.direction st.state) cause st.direction) s
    else s

/-! ## Phases (R120 to R123) -/

/-- Issue the action of the phase the step is in (R120). -/
def issuePhase (s : State) : State :=
  match s.build.step with
  | none => s
  | some st =>
    let p := phasePort st.state st.sector
    if !s.portUp p then stepFault .portLost s
    else
      let (s, placed) := placeItem ⟨.build, p, .action (phaseAction st)⟩ s
      match placed with
      | .registered n =>
        setStep (some { st with action := .requested n, timer := some (phaseTime st.state) }) s
      | .waiting => setStep (some { st with action := .pending, timer := none }) s
      | .portLost => stepFault .portLost s

/-- Enter a running state: its groups, no action yet, and then its action issued (R119, R122, R126, R127). -/
def enterPhase (st : Step) (state : StepState) (groups : GroupState) (s : State) : State :=
  issuePhase (setStep (some { st with state := state, action := .none, timer := none })
    (setGroups st.sector groups s))

/-- The Request Unit has registered the step's waiting action (R120, R151). -/
def stepRegistered (seqNo : Nat) (s : State) : State :=
  match s.build.step with
  | none => s
  | some st =>
    if st.action = .pending then
      setStep (some { st with action := .requested seqNo, timer := some (phaseTime st.state) }) s
    else s

/-- The action stands for the entry of this sequence number, or for the item waiting for room (log 14). -/
def StepAction.names (a : StepAction) (seqNo : Option Nat) : Bool :=
  match a, seqNo with
  | .requested n, some m => n == m
  | .pending, Option.none => true
  | _, _ => false

/-- A failed outcome as a step cause (R121). -/
def outcomeCause : ReqOutcome → StepCause
  | .refused r => .refused r
  | .busyExhausted => .busyExhausted
  | .noAnswer => .noAnswer
  | .portLost => .portLost
  | .done _ | .cancelled => .cancelled

/-- The outcome of the step's action (R121); an outcome of an action the step no longer waits for is ignored. -/
def stepOutcome (seqNo : Option Nat) (o : ReqOutcome) (s : State) : State :=
  match s.build.step with
  | none => s
  | some st =>
    if st.state.running && st.action.names seqNo then
      match o with
      | .done _ => setStep (some { st with action := .accepted }) s
      | .refused _ | .busyExhausted | .noAnswer | .portLost | .cancelled => stepFault (outcomeCause o) s
    else s

/-- Expiry of the phase timer (R123). -/
def phaseTimeout (s : State) : State :=
  match s.build.step with
  | none => s
  | some st => if st.timer.isSome then stepFault .timeout s else s

/-! ## Events of the thrust valves and the erector (R122) -/

/-- The step awaits, in this state and from this port, an event for an action the station has been sent (R122). -/
def awaits (state : StepState) (p : PortNo) (s : State) (st : Step) : Bool :=
  st.state == state && phasePort state st.sector == p &&
    (match st.action with
      | .accepted => true
      | .requested n => s.req.onLine n
      | .none | .pending => false)

/-- The move of the head piece into the ring (R111). -/
def movePiece (s : State) : State :=
  match s.ring.current, s.ring.next, s.ring.queue with
  | some r, some (_, e), piece :: rest =>
    s.setRing { s.ring with
      current := some { r with placed := r.placed ++ [⟨e.slot, e.kind, piece.serial⟩] }
      queue := rest }
  | _, _, _ => s

/-- RETRACTED (R122). -/
def takeRetracted (p : PortNo) (sector : Nat) (s : State) : State × EventStatus :=
  match s.build.step with
  | none => (s, .notExpected)
  | some st =>
    if awaits .retracting p s st && st.sector.val == sector then
      (enterPhase st .placing .retracted s, .status .ok)
    else (s, .notExpected)

/-- PLACED (R122). -/
def takePlaced (p : PortNo) (serial : Nat) (s : State) : State × EventStatus :=
  match s.build.step with
  | none => (s, .notExpected)
  | some st =>
    if awaits .placing p s st && st.serial == serial then
      (enterPhase st .extending .extending (movePiece s), .status .ok)
    else (s, .notExpected)

/-- RETURNED (R122). -/
def takeReturned (p : PortNo) (s : State) : State × EventStatus :=
  match s.build.step with
  | none => (s, .notExpected)
  | some st =>
    if awaits .returning p s st then (enterPhase st .extending .extending s, .status .ok)
    else (s, .notExpected)

/-- HOLDING ends the step (R122). -/
def takeHolding (p : PortNo) (sector : Nat) (s : State) : State × EventStatus :=
  match s.build.step with
  | none => (s, .notExpected)
  | some st =>
    if awaits .extending p s st && st.sector.val == sector then
      let s := setOwner st.sector .none (setGroups st.sector .hold s)
      let s := setStep none s
      let outcome := match st.direction with
        | .forward => PlacementOutcome.placed
        | .backout => PlacementOutcome.backedOut
      (report (.placement s.ring.number st.position st.sector st.kind st.serial outcome st.startedBy) s,
        .status .ok)
    else (s, .notExpected)

/-! ## Starting, retrying and backing out a step (R119, R126, R127) -/

/-- PLACE_NEXT, or PLACE_REQUEST of the holder; granted says that the grant condition holds (R119, R129). -/
def startStep (starter : StartedBy) (granted : Bool) (s : State) : Taken :=
  if s.ring.state ≠ .building ∨ s.build.step ≠ none ∨ s.out.mode ≠ .normal then refuse .wrongState s
  else if !granted then refuse .localControl s
  else
    match s.ring.next, s.ring.queue with
    | none, _ => refuse .wrongState s
    | some _, [] => refuse .queueEmpty s
    | some (position, e), piece :: _ =>
      if piece.kind ≠ e.kind then refuse .pieceMismatch s
      else if (s.ports.get 10).state ≠ .ready ∨ (s.ports.get (thrustPort e.slot)).state ≠ .ready then
        refuse .portNotReady s
      else
        let st : Step :=
          { state := .retracting, direction := .forward, sector := e.slot, position := position
            kind := piece.kind, serial := piece.serial, startedBy := starter, action := .none
            faultedPhase := none, backoutState := none, cause := none, timer := none }
        let s := setOwner e.slot .build (setStep (some st) s)
        (enterPhase st .retracting .retracting s, .ok,
          u8 position ++ u8 e.slot.val ++ u8 piece.kind.code ++ u32 piece.serial)

/-- The state a faulted step re-enters, and the state its groups then take (R126). -/
def reentry (st : Step) : StepState × GroupState :=
  match st.faultedPhase with
  | some .retracting => (.retracting, .retracting)
  | some .placing => (.placing, .retracted)
  | some .backout =>
    match st.backoutState with
    | some .returning => (.returning, .retracted)
    | some .extending | none => (.extending, .extending)
  | some .extending | none => (.extending, .extending)

/-- The step record with its fault cleared (R126, R127). -/
def Step.cleared (st : Step) : Step :=
  { st with faultedPhase := none, backoutState := none, cause := none }

/-- PLACE_RETRY, or RETRY_REQUEST of the holder (R126, R129). -/
def retryStep (granted : Bool) (s : State) : Taken :=
  match s.build.step with
  | none => refuse .wrongState s
  | some st =>
    if st.state ≠ .stepFault ∨ s.out.mode ≠ .normal then refuse .wrongState s
    else if !granted then refuse .localControl s
    else if !s.portUp (phasePort (reentry st).1 st.sector) then refuse .portNotReady s
    else
      (enterPhase st.cleared (reentry st).1 (reentry st).2 s, .ok, u8 (reentry st).1.code)

/-- The state a backout enters from a faulted phase, and the state its groups then take (R127). -/
def backoutEntry (ph : Option FaultedPhase) : Option (StepState × GroupState) :=
  match ph with
  | some .placing => some (.returning, .retracted)
  | some .retracting => some (.extending, .extending)
  | some .extending | some .backout | none => none

/-- PLACE_BACKOUT, or BACKOUT_REQUEST of the holder (R127, R129). -/
def backoutStep (granted : Bool) (s : State) : Taken :=
  match s.build.step with
  | none => refuse .wrongState s
  | some st =>
    if st.state ≠ .stepFault ∨ s.out.mode ≠ .normal then refuse .wrongState s
    else if !granted then refuse .localControl s
    else if !s.portUp (phasePort (reentry st).1 st.sector) then refuse .portNotReady s
    else
      match backoutEntry st.faultedPhase with
      | none => refuse .wrongState s
      | some (state, groups) =>
        (enterPhase { st.cleared with direction := .backout } state groups s, .ok, u8 state.code)

/-- The host may drive placement: no pendant holds the grant (R119, R129). -/
def hostGranted (s : State) : Bool := s.build.grant = .free

/-! ## Local control (R128 to R130) -/

/-- The grant as held by a port, if it is a pendant port (R128). -/
def Grant.ofPort (p : PortNo) : Grant :=
  if p = 14 then .port14 else if p = 15 then .port15 else .free

/-- The port that holds the grant (R128). -/
def Grant.holder : Grant → Option PortNo
  | .free => none | .port14 => some 14 | .port15 => some 15

/-- Who a step is started by, for a pendant port (R129). -/
def StartedBy.ofPort (p : PortNo) : StartedBy :=
  if p = 14 then .port14 else if p = 15 then .port15 else .host

/-- The grant ends, if held (R130). The report's ring number is that of the current record at the ending: 0 when the ring
has just become NONE (DESIGN CHOICE, log 31). -/
def endGrant (cause : GrantCause) (s : State) : State :=
  match s.build.grant.holder with
  | none => s
  | some p =>
    report (.localControl .ended p s.ring.number cause) (s.setBuild { s.build with grant := .free })

/-- LOCAL_REQUEST (R128). -/
def takeLocalRequest (p : PortNo) (s : State) : State × EventStatus :=
  if s.build.grant.holder = some p then (s, .status .already)
  else if s.build.grant ≠ .free then (s, .status .inUse)
  else if s.ring.state ≠ .building ∨ s.build.step ≠ none ∨ s.out.mode ≠ .normal then (s, .notExpected)
  else if (s.ports.get p).state ≠ .ready then (s, .notExpected)
  else
    (report (.localControl .granted p s.ring.number .none)
      (s.setBuild { s.build with grant := Grant.ofPort p }), .status .ok)

/-- LOCAL_RELEASE (R130). -/
def takeLocalRelease (p : PortNo) (s : State) : State × EventStatus :=
  if s.build.grant.holder = some p then (endGrant .released s, .status .ok) else (s, .notExpected)

/-- A pendant's request for a step: from the holder alone, with the status of the command it acts as (R129). -/
def pendantStep (p : PortNo) (perform : State → Taken) (s : State) : State × EventStatus :=
  if s.build.grant.holder = some p then ((perform s).1, .status (perform s).2.1) else (s, .notExpected)

/-! ## Tellings (R117, R125, R130, R131) -/

/-- The groups of sectors no placement holds take HOLD (R117). -/
def holdUnowned (s : State) : State :=
  let groups := Vector.ofFn fun g =>
    if s.build.owners.get (sectorOf g) = .none then GroupState.hold else s.build.groups.get g
  s.setBuild { s.build with groups := groups }

/-- Entry of the output mode into CLAMPING or RELEASED, but for the end of the grant, which is a telling of its own
(R117, R125, R130). -/
def clampBuild (cause : StepCause) (s : State) : State := holdUnowned (stepFault cause s)

/-- The ring state has become NONE (R131); a grant ends with ring number 0 in its report (log 31). -/
def restBuild (s : State) : State :=
  let s := endGrant .ring s
  let s := match s.build.step with
    | none => s
    | some st => withdrawStep st s
  refresh (s.setBuild { s.build with
    step := none, owners := Vector.replicate 8 .none, groups := Vector.replicate 16 .hold })

/-- A port has entered a state other than READY or STALE (R125). -/
def loseStepPort (p : PortNo) (s : State) : State :=
  match s.build.step with
  | none => s
  | some st =>
    if st.state.running && phasePort st.state st.sector == p then stepFault .portLost s else s

/-- A port has left READY: a grant it holds ends (R130). -/
def loseGrantPort (p : PortNo) (s : State) : State :=
  if s.build.grant.holder = some p then endGrant .port s else s

end Sys2Proof.Machine
end

