-- ==== Sys2Proof/Machine/Grout.lean ====
section
/-! DEFINITION. The Grout Unit (05): distribution of demand, strokes, the line modes, faults and lost pumps. -/

namespace Sys2Proof.Machine

/-! ## The line records -/

/-- A line record (R73). -/
def State.line (s : State) (i : LineNo) : Line := s.lines.get i

/-- Replace a line record. -/
def setLine (i : LineNo) (l : Line) (s : State) : State := s.setLines (put s.lines i l)

/-- A line that leaves its timed state: its timer is cancelled and staged timings become active (R84). -/
def Line.rest (l : Line) : Line :=
  { l with timer := none, timings := l.staged.getD l.timings, staged := none }

/-- The write of the GROUT entry from its present inputs (R91). -/
def writeGrout (s : State) : State := writeLevel .grout (groutLevel s.ring.state s.lines) s

/-- A line's state and mode change; a change of the state queues a LINE report (R94). -/
def moveLine (i : LineNo) (state : LineState) (mode : LineMode) (cause : LineCause) (s : State) : State :=
  let l := s.line i
  let s' := setLine i { l with state := state, mode := mode } s
  if l.state = state then s'
  else report (.line i l.state state mode cause l.backlog l.phase s.ring.number) s'

/-- A line's timer starts with a duration in s (R84, R85). -/
def startTimer (i : LineNo) (kind : LineTimerKind) (duration : Nat) (s : State) : State :=
  setLine i { s.line i with timer := some (kind, duration) } s

/-- A fault record of the Grout Unit (R89). -/
def lineRecord (format : FaultFormat) (i : LineNo) (cause : FaultCause) (s : State) : FaultRec :=
  { format := format, origin := .grout, tag := none, port := some (pumpPort i)
    pointOrLine := some i.val, cause := cause, ring := s.ring.number, x := s.adv.x }

/-- The remainders are cleared, and the undistributed volume goes to the current record's unassigned grout (R77). -/
def clearRemainders (s : State) : State :=
  let volume := remSum s.lines / trackWeight s.lines
  contribute (fun r => { r with unassigned := sat32 r.unassigned volume })
    (s.setLines (s.lines.map fun l => { l with rem := 0 }))

/-- A fault of a line: the record is handed in, the timer cancelled, and the line enters FAULTED with its mode kept
(R79, R82, R90). -/
def faultLine (i : LineNo) (format : FaultFormat) (cause : FaultCause) (told : LineCause) (s : State) :
    State :=
  let s := handFault (lineRecord format i cause s) s
  moveLine i .faulted (s.line i).mode told (setLine i (s.line i).rest s)

/-! ## Lost pumps (R90) -/

/-- One line of a lost pump: its stroke is discarded, and unless it is STOPPED it stands FAULTED (R90). -/
def loseLine (i : LineNo) (s : State) : State :=
  let l := s.line i
  let s := setLine i { l with phase := .none } s
  match l.state with
  | .stopped => s
  | .faulted => setLine i (s.line i).rest s
  | .primeWait | .primeStroke | .tracking | .pulseDeliver | .pulsePause | .blocked =>
    faultLine i .lineFault .portLost .portLost s

/-- The lines fed by a pump port (R73). -/
def linesOf (p : PortNo) : List LineNo := (List.finRange 6).filter fun i => pumpPort i == p

/-- The loss of a pump port, by telling or by a PORT_LOST outcome (R90); the lower line first (DESIGN CHOICE, log 29). -/
def losePump (p : PortNo) (s : State) : State :=
  writeGrout ((linesOf p).foldl (fun s i => loseLine i s) s)

/-! ## Strokes (R78 to R82) -/

/-- Issue a stroke: registered, waiting for room, or ended by the loss of the pump port (R78, R150). -/
def issueStroke (i : LineNo) (s : State) : State :=
  let (s, placed) := placeItem ⟨.grout, pumpPort i, .action (.stroke i (s.line i).vs)⟩ s
  match placed with
  | .registered n => setLine i { s.line i with phase := .requested n } s
  | .waiting => setLine i { s.line i with phase := .pending } s
  | .portLost => losePump (pumpPort i) s

/-- A stroke is due: no stroke in flight, and the line tracking a backlog of at least one stroke, or delivering
pulses (R78). Entry into PRIME_STROKE issues its one stroke itself. -/
def Line.due (l : Line) : Bool :=
  l.phase == .none && ((l.state == .tracking && l.vs ≤ l.backlog) || l.state == .pulseDeliver)

/-- The check for a stroke to issue (R78). -/
def checkStroke (i : LineNo) (s : State) : State := if (s.line i).due then issueStroke i s else s

/-- The failure of a stroke request, as the fault record and the LINE report name it (R79, R89). -/
def strokeFailure : ReqOutcome → Option (FaultCause × LineCause)
  | .refused r => some (.refused r, .refused)
  | .busyExhausted => some (.busyExhausted, .busyExhausted)
  | .noAnswer => some (.noAnswer, .noAnswer)
  | .done _ | .portLost | .cancelled => none

/-- The phase stands for the entry of this sequence number, or for the item waiting for room (log 14). -/
def StrokePhase.names (ph : StrokePhase) (seqNo : Option Nat) : Bool :=
  match ph, seqNo with
  | .requested n, some m => n == m
  | .pending, Option.none => true
  | _, _ => false

/-- The outcome of a line's stroke request; a completion that finds the stroke ended is ignored (R79). -/
def strokeOutcome (i : LineNo) (seqNo : Option Nat) (o : ReqOutcome) (s : State) : State :=
  let l := s.line i
  if !l.phase.names seqNo then s
  else
    match o with
    | .done _ => setLine i { l with phase := .running } s
    | .portLost => losePump (pumpPort i) s
    | .cancelled => checkStroke i (setLine i { l with phase := .none } s)
    | .refused _ | .busyExhausted | .noAnswer =>
      let s := setLine i { l with phase := .none } s
      match strokeFailure o with
      | some (cause, told) =>
        if l.state.running then writeGrout (faultLine i .actionFailed cause told s) else s
      | none => s

/-- The Request Unit has registered a waiting stroke (R78, R151). -/
def strokeRegistered (i : LineNo) (seqNo : Nat) (s : State) : State :=
  if (s.line i).phase = .pending then setLine i { s.line i with phase := .requested seqNo } s else s

/-- A STROKE_DONE is expected of the line from this port (R80). -/
def strokeExpected (p : PortNo) (i : LineNo) (s : State) : Bool :=
  pumpPort i == p &&
    (match (s.line i).phase with
      | .running | .overdue => true
      | .requested n => s.req.onLine n
      | .none | .pending => false)

/-- The line after the accounting of a stroke: steps 1 to 3 of R80. -/
def Line.delivered (l : Line) (volume : Nat) (open_ : Bool) : Line :=
  { l with
    phase := .none
    backlog := l.backlog - volume
    lifetime := sat32 l.lifetime volume
    ringDelivered := if open_ then sat32 l.ringDelivered volume else l.ringDelivered }

/-- The line's state after an accounted stroke: a peak above the limit is recorded with its pressure (R81). -/
def settleLine (i : LineNo) (peak : Nat) (s : State) : State :=
  let l := s.line i
  if l.pLimit < peak then
    let s := handFault (lineRecord .lineFault i (.overpressure peak) s) s
    match l.state with
    | .faulted | .blocked => s
    | .stopped | .primeWait | .primeStroke | .tracking | .pulseDeliver | .pulsePause =>
      moveLine i .blocked l.mode .overpressure (setLine i (s.line i).rest s)
  else
    match l.state with
    | .primeStroke => moveLine i .stopped .none .none (setLine i l.rest s)
    | .stopped | .primeWait | .tracking | .pulseDeliver | .pulsePause | .faulted | .blocked => s

/-- An accepted STROKE_DONE (R80, R81). -/
def accountStroke (i : LineNo) (volume peak : Nat) (s : State) : State :=
  let open_ := s.ring.state != .none
  let l := (s.line i).delivered volume open_
  let s := setLine i l s
  let s := if open_ then
      contribute (fun r => { r with delivered := put r.delivered i l.ringDelivered }) s
    else s
  writeGrout (checkStroke i (settleLine i peak s))

/-- STROKE_DONE at the Grout Unit (R80). -/
def takeStrokeDone (p : PortNo) (line volume peak : Nat) (s : State) : State × EventStatus :=
  if h : line < 6 then
    if strokeExpected p ⟨line, h⟩ s then (accountStroke ⟨line, h⟩ volume peak s, .status .ok)
    else (s, .notExpected)
  else (s, .notExpected)

/-- Expiry of the stroke timer (R82). -/
def strokeTimeout (i : LineNo) (s : State) : State :=
  match (s.line i).phase with
  | .running =>
    writeGrout (faultLine i .lineFault .strokeTimeout .strokeTimeout
      (setLine i { s.line i with phase := .overdue } s))
  | .none | .pending | .requested _ | .overdue => s

/-! ## Distribution of demand (R75, R76) -/

/-- The share of one line: its backlog bounded by the saturation limit, the rest unmet (R75, R76). -/
def shareLine (q w : Nat) (i : LineNo) (s : State) : State :=
  let l := s.line i
  if l.mode = .track then
    let t := q * l.weight + l.rem
    let b := l.backlog + t / w
    contribute (fun r => { r with unmet := sat32 r.unmet (b - min b l.limit) })
      (setLine i { l with rem := t % w, backlog := min b l.limit } s)
  else s

/-- A demand reaches the Grout Unit: distributed over the tracking lines, or with W = 0 unassigned; then strokes are
issued, lines ascending (DESIGN CHOICE, log 29), and the GROUT entry written (R75). -/
def takeDemand (q : Nat) (s : State) : State :=
  let w := trackWeight s.lines
  let s :=
    if w = 0 then contribute (fun r => { r with unassigned := sat32 r.unassigned q }) s
    else (List.finRange 6).foldl (fun s i => shareLine q w i s) s
  writeGrout ((List.finRange 6).foldl
    (fun s i => if (s.line i).mode = .track then checkStroke i s else s) s)

/-! ## Running and stopping a line (R83 to R87) -/

/-- The result data of a line command: mode, state and B (R83). -/
def lineData (l : Line) : List Byte := u8 l.mode.code ++ u8 l.state.code ++ u32 l.backlog

/-- A stroke not yet sent is dropped or withdrawn (steps 2 to 4 of R86). -/
def dropStroke (i : LineNo) (s : State) : State :=
  match (s.line i).phase with
  | .pending =>
    setLine i { s.line i with phase := .none } (s.setReq (s.req.dropWaits fun w =>
      w.origin == .grout && (match w.kind with | .action (.stroke j _) => j == i | _ => false)))
  | .requested n =>
    if s.req.onLine n then s
    else setLine i { s.line i with phase := .none } (s.setReq (s.req.withdrawEntry n))
  | .none | .running | .overdue => s

/-- A line taken out of TRACK clears the remainders of the lines (R77). -/
def leaveTrack (i : LineNo) (s : State) : State :=
  if (s.line i).mode = .track then clearRemainders s else s

/-- The stopping of a line (steps 1 to 5 of R86). -/
def stopLine (i : LineNo) (s : State) : State :=
  let s := setLine i (s.line i).rest s
  moveLine i .stopped .none .none (leaveTrack i (dropStroke i s))

/-- LINE_RUN for a line of the six (R83). -/
def runLine (i : LineNo) (mode : LineMode) (s : State) : Taken :=
  let l := s.line i
  if s.out.mode ≠ .normal then refuse .wrongState s
  else if mode = .track ∧ l.state = .tracking then refuse .already s
  else if mode = .pulse ∧ (l.state = .pulseDeliver ∨ l.state = .pulsePause) then refuse .already s
  else if l.state ≠ .stopped then refuse .wrongState s
  else if !s.portUp (pumpPort i) then refuse .portNotReady s
  else
    let s :=
      if mode = .track then moveLine i .tracking .track .none (clearRemainders s)
      else startTimer i .delivery l.timings.tP (moveLine i .pulseDeliver .pulse .none s)
    let s := writeGrout (checkStroke i s)
    (s, .ok, lineData (s.line i))

/-- LINE_RUN (R83). The mode byte names TRACK or PULSE by its place in the set of R73 (log 7). -/
def takeLineRun (line mode : Nat) (s : State) : Taken :=
  if h : line < 6 then
    if mode = 1 then runLine ⟨line, h⟩ .track s
    else if mode = 2 then runLine ⟨line, h⟩ .pulse s
    else refuse .badValue s
  else refuse .badValue s

/-- Entry into PRIME_STROKE and its one stroke (R78, R85). -/
def primeStroke (i : LineNo) (s : State) : State :=
  let s := moveLine i .primeStroke (s.line i).mode .none (setLine i (s.line i).rest s)
  if (s.line i).phase = .none then issueStroke i s else s

/-- LINE_PRIME for a line of the six (R85). -/
def primeLine (i : LineNo) (s : State) : Taken :=
  let l := s.line i
  if s.out.mode ≠ .normal then refuse .wrongState s
  else if l.state = .primeWait ∨ l.state = .primeStroke then refuse .already s
  else if l.state ≠ .stopped then refuse .wrongState s
  else if l.phase ≠ .none then refuse .wrongState s
  else if !s.portUp (pumpPort i) then refuse .portNotReady s
  else
    let s := startTimer i .prime l.timings.tW (moveLine i .primeWait l.mode .none s)
    let s := if l.timings.tW = 0 then primeStroke i s else s
    (writeGrout s, .ok, [])

/-- LINE_PRIME (R85). -/
def takeLinePrime (line : Nat) (s : State) : Taken :=
  if h : line < 6 then primeLine ⟨line, h⟩ s else refuse .badValue s

/-- LINE_STOP (R86). -/
def takeLineStop (line : Nat) (s : State) : Taken :=
  if h : line < 6 then
    let i : LineNo := ⟨line, h⟩
    if (s.line i).state = .stopped then refuse .already s
    else
      let s := writeGrout (stopLine i s)
      (s, .ok, lineData (s.line i) ++ u8 (s.line i).phase.code)
  else refuse .badValue s

/-- LINE_CLEAR (R87). -/
def takeLineClear (line : Nat) (s : State) : Taken :=
  if h : line < 6 then
    let i : LineNo := ⟨line, h⟩
    if (s.line i).state = .blocked ∨ (s.line i).state = .faulted then
      (writeGrout (moveLine i .stopped .none .none (leaveTrack i s)), .ok, [])
    else refuse .wrongState s
  else refuse .badValue s

/-- Expiry of the delivery timer (R84). -/
def pulsePause (i : LineNo) (s : State) : State :=
  let l := s.line i
  match l.timer with
  | some (.delivery, _) =>
    writeGrout (startTimer i .pause l.timings.tS (moveLine i .pulsePause l.mode .none s))
  | _ => s

/-- Expiry of the pause timer: staged timings become active, and delivery starts (R84). -/
def pulseDeliver (i : LineNo) (s : State) : State :=
  let l := s.line i
  match l.timer with
  | some (.pause, _) =>
    writeGrout (checkStroke i (startTimer i .delivery l.rest.timings.tP
      (moveLine i .pulseDeliver l.mode .none (setLine i l.rest s))))
  | _ => s

/-- Expiry of the prime timer (R85). -/
def primeExpiry (i : LineNo) (s : State) : State :=
  match (s.line i).timer with
  | some (.prime, _) => writeGrout (primeStroke i s)
  | _ => s

/-! ## Setting a line (R88) -/

/-- The settings of SET_LINE lie in their ranges (R88). -/
def lineRanges (weight vs pLimit lag tP tS tW : Nat) : Bool :=
  inRange 0 100 weight && inRange 500 20000 vs && inRange 1000 15000 pLimit
    && (lag == 0 || inRange 1000 100000 lag) && inRange 1 600 tP && inRange 1 3600 tS && inRange 0 600 tW

/-- The line with new settings: the backlog trimmed to the new limit, the timings staged while it pulses (R76, R88). -/
def Line.set (l : Line) (weight vs pLimit lag : Nat) (t : Timings) : Line :=
  let pulsing := l.state = .pulseDeliver ∨ l.state = .pulsePause
  { l with
    weight := weight, vs := vs, pLimit := pLimit
    lag := if lag = 0 then 3 * vs else lag
    backlog := min l.backlog (16 * vs)
    timings := if pulsing then l.timings else t
    staged := if pulsing then some t else l.staged }

/-- The result data of SET_LINE: the settings, whether timings are staged, the volume trimmed (R88, log 28). -/
def settingsData (l : Line) (trimmed : Nat) : List Byte :=
  u8 l.weight ++ u16 l.vs ++ u16 l.pLimit ++ u32 l.lag ++ u16 l.timings.tP ++ u16 l.timings.tS
    ++ u16 l.timings.tW ++ flag l.staged.isSome ++ u32 trimmed

/-- SET_LINE (R88). -/
def takeSetLine (line weight vs pLimit lag tP tS tW : Nat) (s : State) : Taken :=
  if h : line < 6 then
    let i : LineNo := ⟨line, h⟩
    let l := s.line i
    if !lineRanges weight vs pLimit lag tP tS tW then refuse .badValue s
    else if l.state ≠ .stopped ∧ (weight ≠ l.weight ∨ vs ≠ l.vs) then refuse .wrongState s
    else
      let trimmed := l.backlog - 16 * vs
      let s := clearRemainders s
      let s := setLine i ((s.line i).set weight vs pLimit lag ⟨tP, tS, tW⟩) s
      let s := contribute (fun r => { r with unmet := sat32 r.unmet trimmed }) s
      let s := writeGrout s
      (s, .ok, settingsData (s.line i) trimmed)
  else refuse .badValue s

/-! ## Tellings (R92, R93, R95) -/

/-- Entry of the output mode into CLAMPING or RELEASED: every running line is stopped, lines ascending (R92; DESIGN
CHOICE, log 29). -/
def clampGrout (s : State) : State :=
  writeGrout ((List.finRange 6).foldl
    (fun s i => if (s.line i).state.running then stopLine i s else s) s)

/-- A new ring opens: the ring's delivered figures start at 0 (R93). -/
def openGrout (s : State) : State :=
  writeGrout (s.setLines (s.lines.map fun l => { l with ringDelivered := 0 }))

/-- The ring state has changed otherwise: only the GROUT entry is written (R93). -/
def ringGrout (s : State) : State := writeGrout s

/-- One line at RESET_PART: NONE, STOPPED, nothing owed, no stroke (R95). -/
def resetLine (i : LineNo) (s : State) : State :=
  moveLine i .stopped .none .none
    (setLine i { (s.line i).rest with backlog := 0, rem := 0, phase := .none } s)

/-- RESET_PART at the Grout Unit, lines ascending (R95; DESIGN CHOICE, log 29). -/
def resetGrout (s : State) : State :=
  writeGrout ((List.finRange 6).foldl (fun s i => resetLine i s) s)

end Sys2Proof.Machine
end

