-- ==== Sys2Proof/Machine/Requests.lean ====
section
/-! DEFINITION. The Request Unit (09): completion of entries and what their outcomes do at their owners, the port and
mode tellings, dispatch and the table fill. The part of the Output Unit that takes the outcomes of safe writes stands
here too. -/

namespace Sys2Proof.Machine

/-! ## The output mode as told to the Permit Unit and the host (R34, R168) -/

/-- The number of safe writes outstanding (R168). -/
def Output.outstandingCount (o : Output) : Nat := (o.outstanding.toList.filter id).length

/-- The telling of the output mode to the Permit Unit (R34). -/
def tellOutput (s : State) : State := writeLevel .output (outputLevel s.out.mode s.out.cause) s

/-- The OUTPUT_MODE report of a change from the mode given (R168). -/
def reportMode (old : OutMode) (s : State) : State :=
  report (.outputMode old s.out.mode s.out.cause s.out.estop s.out.outstandingCount) s

/-- The mode becomes CLAMPED with the same cause (R169, R170). -/
def enterClamped (s : State) : State :=
  reportMode .clamping (tellOutput (s.setOut { s.out with mode := .clamped }))

/-! ## Outcomes at the Output Unit (R170) -/

/-- A failed outcome as a fault record names it; DONE and CANCELLED write none (R160, R170). -/
def failureCause : ReqOutcome → Option FaultCause
  | .refused r => some (.refused r)
  | .busyExhausted => some .busyExhausted
  | .noAnswer => some .noAnswer
  | .portLost => some .portLost
  | .done _ | .cancelled => none

/-- The first point a request writes (R160, R170). -/
def ReqKind.firstPoint : ReqKind → Option Nat
  | .write ((i, _) :: _) => some i
  | .write [] | .read _ | .action _ => none

/-- The port leaves the set of safe writes outstanding; when the last leaves while CLAMPING, the mode becomes CLAMPED
(R170). -/
def leaveOutstanding (p : PortNo) (s : State) : State :=
  if s.out.outstanding.get p then
    let s := s.setOut { s.out with outstanding := put s.out.outstanding p false }
    if s.out.mode = .clamping ∧ s.out.outstandingCount = 0 then enterClamped s else s
  else s

/-- The outcome of a SAFE request, a safe write or a RELINQUISH: SAFE_FAILED for a failure other than a lost port, and the
port leaves the outstanding set (the table of R170; R171). -/
def safeOutcome (p : PortNo) (k : ReqKind) (o : ReqOutcome) (s : State) : State :=
  leaveOutstanding p <|
    match o, failureCause o with
    | .portLost, _ => s
    | _, some cause =>
      handFault
        { format := .safeFailed, origin := .safe, tag := none, port := some p, pointOrLine := k.firstPoint
          cause := cause, ring := s.ring.number, x := s.adv.x } s
    | _, none => s

/-! ## The IDENTIFY of a port (R137) -/

/-- An IDENTIFY of the port stands in the table or waits (R137). -/
def Requests.identifying (r : Requests) (p : PortNo) : Bool :=
  r.table.any (fun e => e.port == p && isIdentify e.origin e.kind)
    || r.waits.any (fun w => w.port == p && isIdentify w.origin w.kind)

/-- Ask for the IDENTIFY of a port in IDENTIFYING that has none (R137). -/
def askIdentify (p : PortNo) (s : State) : State :=
  if (s.ports.get p).state = .identifying ∧ !s.req.identifying p then
    (placeItem ⟨.port, p, .action (.identify (Config.reportPeriod (Config.portClass p)))⟩ s).1
  else s

/-! ## Completion (R155, R159, R160) -/

/-- A request that writes the point. -/
def ReqKind.writes (k : ReqKind) (i : Nat) : Bool :=
  match k with
  | .write pairs => pairs.any (·.1 == i)
  | .read _ | .action _ => false

/-- A write of the point stands in the table (R159, R161). -/
def Requests.writeStands (r : Requests) (p : PortNo) (i : Nat) : Bool :=
  r.table.any fun e => e.port == p && e.kind.writes i

/-- A point after a write of it has ended; stands says that another write of it stands (R159). -/
def Point.ended (pt : Point) (o : ReqOutcome) (v : Nat) (stands : Bool) : Point :=
  match o with
  | .done _ =>
    { pt with
      confirmed := some v
      state := if !stands && pt.state != .dirty then .clean else pt.state }
  | .refused _ | .busyExhausted | .noAnswer | .portLost =>
    { pt with state := if pt.state = .dirty then .dirty else .failed }
  | .cancelled =>
    if stands || pt.state == .dirty then pt
    else
      match pt.confirmed with
      | some c => { pt with commanded := some c, state := .clean }
      | none => { pt with state := .failed }

/-- The image after a request has ended (R159). Of a safe write that ends PORT_LOST while it waits, a DIRTY point stays
DIRTY (row 5 of R159; log 12). -/
def Requests.endWrite (r : Requests) (p : PortNo) (k : ReqKind) (o : ReqOutcome) : Requests :=
  r.modWritten p k fun i v pt => pt.ended o v (r.writeStands p i)

/-- The failure of a write of origin other than SAFE, as its deferred fault record names it (R160). -/
def recordedFailure (e : Entry) (o : ReqOutcome) : Option FaultCause :=
  match e.kind, e.origin with
  | .write _, .safe => none
  | .write _, _ => failureCause o
  | .read _, _ | .action _, _ => none

/-- The deferred fault record of a failed write of origin other than SAFE (R160). -/
def recordFailure (e : Entry) (o : ReqOutcome) (s : State) : State :=
  match recordedFailure e o with
  | none => s
  | some cause =>
    handFault
      { format := .writeFailed, origin := e.origin, tag := e.tag, port := some e.port
        pointOrLine := e.kind.firstPoint, cause := cause, ring := s.ring.number, x := s.adv.x } s

/-- The attempts made of an entry: its attempts field counts the attempt made, or the one next to be made (R148, R162). -/
def Entry.attemptsMade (e : Entry) : Nat := if e.state.offLine then e.attempts - 1 else e.attempts

/-- The outcome is handed to the party that asked (R155, R162). The Port Manager's own part, its no-answer count and
the DONE or failed outcome of an IDENTIFY, is told by the events that can bring it (R137, R141). -/
def handOutcome (e : Entry) (o : ReqOutcome) (s : State) : State :=
  match e.origin with
  | .host => report (.requestDone (e.tag.getD 0) e.seqNo e.port e.kind o e.attemptsMade) s
  | .advance | .pressure => s
  | .grout =>
    match e.kind with
    | .action (.stroke i _) => strokeOutcome i (some e.seqNo) o s
    | _ => s
  | .build => stepOutcome (some e.seqNo) o s
  | .port => if o = .cancelled then askIdentify e.port s else s
  | .safe => safeOutcome e.port e.kind o s

/-- The completion of an entry that has left the table (R155). -/
def endEntry (e : Entry) (o : ReqOutcome) (s : State) : State :=
  handOutcome e o (recordFailure e o (s.setReq (s.req.endWrite e.port e.kind o)))

/-- The first element that satisfies q, and the list without it. -/
def takeFirst {α : Type} (q : α → Bool) : List α → Option (α × List α)
  | [] => none
  | x :: xs =>
    if q x then some (x, xs)
    else
      match takeFirst q xs with
      | some (y, ys) => some (y, x :: ys)
      | none => none

/-- Complete the oldest entry that satisfies q (R155). -/
def completeFirst (q : Entry → Bool) (o : ReqOutcome) (s : State) : State :=
  match takeFirst q s.req.table with
  | none => s
  | some (e, rest) => endEntry e o (s.setReq { s.req with table := rest })

/-- Complete every entry that now satisfies q, oldest first (R156, R157). -/
def completeAll (q : Entry → Bool) (o : ReqOutcome) (s : State) : State :=
  ((s.req.table.filter q).map (·.seqNo)).foldl
    (fun s n => completeFirst (fun e => e.seqNo == n && q e) o s) s

/-- An item that has left the Action Wait List completes to its owner (R156, R157). -/
def endItem (w : WaitItem) (o : ReqOutcome) (s : State) : State :=
  match w.origin with
  | .grout =>
    match w.kind with
    | .action (.stroke i _) => strokeOutcome i none o s
    | _ => s
  | .build => stepOutcome none o s
  | .safe => safeOutcome w.port w.kind o (s.setReq (s.req.endWrite w.port w.kind o))
  | .host | .advance | .pressure | .port => s

/-- Complete every item of the Action Wait List that satisfies q, oldest first (R156, R157). -/
def completeWaits (q : WaitItem → Bool) (o : ReqOutcome) (s : State) : State :=
  (s.req.waits.filter q).foldl (fun s w => endItem w o s) (s.setReq (s.req.dropWaits q))

/-! ## Port tellings (R156, R161) -/

/-- Every point of a port's image changed by f. -/
def Requests.mapPort (r : Requests) (p : PortNo) (f : Point → Point) : Requests :=
  { r with image := put r.image p ((r.image.get p).map f) }

/-- A port has entered EMPTY, REFUSED, FAULTED or BYPASSED (R156). -/
def loseRequests (p : PortNo) (s : State) : State :=
  let s := completeAll (fun e => e.port == p) .portLost s
  let s := completeWaits (fun w => w.port == p) .portLost s
  s.setReq (s.req.mapPort p fun pt => { pt with confirmed := none })

/-- The refresh of one job-owned point of a newly identified port (R161). -/
def Requests.refreshPoint (r : Requests) (normal : Bool) (p : PortNo) (i : Fin 16) : Requests :=
  if Config.pointOwner p i.val = .free || r.writeStands p i.val then r
  else if normal then r.setPoint p i { r.point p i with state := .dirty }
  else r.setPoint p i { r.point p i with commanded := none, state := .clean }

/-- A port has entered READY from IDENTIFYING: its job-owned points are brought to the new station (R161). -/
def refreshIdentity (p : PortNo) (s : State) : State :=
  s.setReq ((List.finRange 16).foldl (fun r i => r.refreshPoint (s.out.mode = .normal) p i) s.req)

/-! ## Mode tellings (R157) -/

/-- A DIRTY point on entry into CLAMPING or RELEASED (R157). -/
def Point.cleaned (pt : Point) : Point :=
  if pt.state = .dirty then { pt with commanded := pt.confirmed, state := .clean } else pt

/-- Every DIRTY point of the image becomes CLEAN (R157). -/
def Requests.cleanPoints (r : Requests) : Requests :=
  { r with image := r.image.map fun port => port.map Point.cleaned }

/-- Entry of the output mode into CLAMPING or RELEASED (R157). -/
def clampRequests (s : State) : State :=
  let s := completeAll (fun e => e.origin != .safe && e.state.offLine) .cancelled s
  let s := completeWaits (fun w => w.origin == .grout || w.origin == .build) .cancelled s
  s.setReq s.req.cleanPoints

/-- RESET_PART at the Request Unit: the SAFE items leave the Action Wait List without an outcome, every DIRTY point becomes
CLEAN, from CLAMPING too (R165; DEDUCED, log 37), and every entry completes CANCELLED (R157, R176). -/
def resetRequests (s : State) : State :=
  completeAll (fun _ => true) .cancelled
    (s.setReq (s.req.dropWaits fun w => w.origin == .safe).cleanPoints)

/-! ## Dispatch (R153, R154) -/

/-- The port has an entry IN_FLIGHT (R153). -/
def Requests.busy (r : Requests) (p : PortNo) : Bool :=
  r.table.any fun e => e.port == p && e.state.onLine

/-- An entry of the port that waits to be sent. -/
def Entry.queuedOn (e : Entry) (p : PortNo) : Bool := e.port == p && e.state == .queued

/-- The entry to send on a port: the oldest QUEUED SAFE entry, else the oldest QUEUED entry, on a port in service; the
IDENTIFY alone on a port in IDENTIFYING (R153). -/
def Requests.choose (r : Requests) (st : PortState) (p : PortNo) : Option Entry :=
  if st.inService then
    (r.table.find? fun e => e.queuedOn p && e.origin == .safe).or (r.table.find? fun e => e.queuedOn p)
  else if st = .identifying then
    r.table.find? fun e => e.queuedOn p && isIdentify e.origin e.kind
  else none

/-- The first element that satisfies q changed by f. -/
def replaceFirst {α : Type} (q : α → Bool) (f : α → α) : List α → List α
  | [] => []
  | x :: xs => if q x then f x :: xs else x :: replaceFirst q f xs

/-- REQUEST_DISPATCH: with none IN_FLIGHT on the port, the chosen entry is sent with the next sequence byte (R153). -/
def dispatch (p : PortNo) (s : State) : State :=
  if s.req.busy p then s
  else
    match s.req.choose (s.ports.get p).state p with
    | none => s
    | some e =>
      let seq := s.req.seqBytes.get p + 1
      sendField p (requestFrame seq e.kind)
        (s.setReq { s.req with
          table := replaceFirst (fun d => d == e) (fun d => { d with state := .inFlight seq }) s.req.table
          seqBytes := put s.req.seqBytes p seq })

/-- The list with the element at a place changed by f. -/
def modifyAt {α : Type} (f : α → α) : Nat → List α → List α
  | _, [] => []
  | 0, x :: xs => f x :: xs
  | n + 1, x :: xs => x :: modifyAt f n xs

/-- RETRY_WAIT_EXPIRY: the entry returns to QUEUED in its old place (R154). -/
def retryExpiry (place : Nat) (s : State) : State :=
  s.setReq { s.req with
    table := modifyAt (fun e => if e.state = .retryWait then { e with state := .queued } else e) place
      s.req.table }

/-! ## The table fill (R151) -/

/-- A waiting item can register now, but for room (R150, R157). -/
def ableItem (s : State) (w : WaitItem) : Bool :=
  s.out.mode.admits w.origin && (s.ports.get w.port).state.takes w.origin w.kind

/-- The origin in which a job's point is written (R151). A FREE point has none, so the fill registers none (log 12). -/
def PointOwner.origin : PointOwner → Option Origin
  | .advance => some .advance
  | .pressure => some .pressure
  | .free => none

/-- A DIRTY point that can register now: its owner and its commanded value (R151; log 20). -/
def ablePoint (s : State) (p : PortNo) (i : Fin 16) : Option (Origin × Nat) :=
  let pt := s.req.point p i
  if pt.state = .dirty ∧ s.out.mode = .normal ∧ s.portUp p then
    match PointOwner.origin (Config.pointOwner p i.val), pt.commanded with
    | some o, some v => some (o, v)
    | _, _ => none
  else none

/-- The first DIRTY point that can register, ports and then points in ascending order (R151). -/
def firstPoint (s : State) : Option (PortNo × Fin 16 × Origin × Nat) :=
  (List.finRange 16).findSome? fun p =>
    (List.finRange 16).findSome? fun i => (ablePoint s p i).map fun (o, v) => (p, i, o, v)

/-- A waiting item registers, its points take the values it carries and PENDING, and its owner is told (R151; rows 1 and
3 of R159; log 12). A safe write registers the pairs it was asked with, also when SET_SAFE has replaced the record since
(R166; DESIGN CHOICE, log 36). -/
def registerItem (w : WaitItem) (s : State) : State :=
  let n := s.req.nextSeq
  let s := s.setReq (s.req.enter w.origin none w.port w.kind)
  match w.origin, w.kind with
  | .grout, .action (.stroke i _) => strokeRegistered i n s
  | .build, _ => stepRegistered n s
  | _, _ => s

/-- The first waiting request that can register is registered (R151). -/
def fillOne (s : State) : Option State :=
  match takeFirst (fun w => w.origin == .safe && ableItem s w) s.req.waits with
  | some (w, rest) => some (registerItem w (s.setReq { s.req with waits := rest }))
  | none =>
    match takeFirst (ableItem s) s.req.waits with
    | some (w, rest) => some (registerItem w (s.setReq { s.req with waits := rest }))
    | none =>
      match firstPoint s with
      | some (p, i, o, v) =>
        some (s.setReq ((s.req.register o none p (.write [(i.val, v)])).setPoint p i
          { s.req.point p i with state := .pending }))
      | none => none

/-- The table is filled while it has room and a waiting request can register; the fuel is the room (R151). -/
def fillTable : Nat → State → State
  | 0, s => s
  | fuel + 1, s =>
    match fillOne s with
    | some s' => fillTable fuel s'
    | none => s

/-- TABLE_FILL (R151). -/
def tableFill (s : State) : State := fillTable (Config.tableCap - s.req.table.length) s

end Sys2Proof.Machine
end

