-- ==== Sys2Proof/Machine/Muck.lean ====
section
/-! DEFINITION. The Muck Balance Unit (04): the Transit Queue, the belt sample, the balance window and the void
allowance. -/

namespace Sys2Proof.Machine

/-! ## The Transit Queue (R55 to R60) -/

/-- The queue with m added to its newest parcel (R56). -/
def addToNewest (m : Nat) : List Parcel → List Parcel
  | [] => []
  | [p] => [{ p with mass := p.mass + m }]
  | p :: q :: rest => p :: addToNewest m (q :: rest)

/-- The due of a new increment (R56). -/
def Muck.due (k : Muck) : Nat := min (k.odometer + k.active.lT) Config.max32

/-- The queue after an increment of m kg: merged into the newest parcel when the queue is full or the newest due is
the same, else appended (R56). -/
def Muck.enqueue (k : Muck) (m ring : Nat) : List Parcel :=
  match k.queue.getLast? with
  | none => [⟨m, k.due, ring⟩]
  | some newest =>
    if k.queue.length ≥ Config.transitCap ∨ newest.due = k.due then addToNewest m k.queue
    else k.queue ++ [⟨m, k.due, ring⟩]

/-- A mass increment handed by the Advance Unit (R56, R57). -/
def massIncrement (m : Nat) (s : State) : State :=
  s.setMuck { s.muck with
    queue := s.muck.enqueue m s.ring.number
    generated := s.muck.generated + m }

/-- The mass of the parcels in the queue (R57). -/
def queuedMass (q : List Parcel) : Nat := (q.map (·.mass)).sum

/-- The mass released from the head while the head is due, and the parcels that stay (R60). -/
def releaseDue (odometer : Nat) : List Parcel → Nat × List Parcel
  | [] => (0, [])
  | p :: ps =>
    if p.due ≤ odometer then
      let r := releaseDue odometer ps
      (p.mass + r.1, r.2)
    else (0, p :: ps)

/-! ## The belt sample (R58 to R65) -/

/-- Steps 1 to 5 of a belt sample: the settings, the blind flag, the odometer, the release, the window (R58). -/
def Muck.weigh (k : Muck) (dcm dkg : Nat) : Muck :=
  let active := k.waiting.getD k.active
  let odometer := sat32 k.odometer dcm
  let rel := releaseDue odometer k.queue
  let measured := sat32 k.measured dkg
  let releasedExp := sat32 k.releasedExp rel.1
  { k with
    active := active, waiting := none, blind := false, odometer := odometer
    queue := rel.2, released := k.released + rel.1
    measured := measured, releasedExp := releasedExp
    e := (measured : Int) - (releasedExp : Int) }

/-- Step 7 of a belt sample: the void allowance is updated and its growth handed to the Grout Unit (R64, R65). -/
def updateVoid (s : State) : State :=
  if s.ring.state ≠ .none ∧ 0 < s.muck.e then
    let allowance := voidAllowance s.adv.geometry s.adv.ground s.muck.e.toNat
    let applied := s.muck.vApplied
    if applied < allowance then
      let s := takeDemand (allowance - applied) s
      contribute (fun r => { r with vApplied := min allowance Config.max32 })
        (s.setMuck { s.muck with vApplied := allowance })
    else s
  else s

/-- Step 8 of a belt sample: the window figures are handed to the current record (R61). -/
def handWindow (s : State) : State :=
  let k := s.muck
  contribute (fun r =>
    { r with measured := k.measured, releasedExp := k.releasedExp, finalE := k.e }) s

/-- A BELT_SCALE sample, taken whole (R58). -/
def beltSample (dcm dkg : Nat) (s : State) : State :=
  let s := s.setMuck (s.muck.weigh dcm dkg)
  let s := writeLevel .muck (muckLevel s.muck.active.lOvx s.muck.e) s
  handWindow (updateVoid s)

/-! ## Port 6, rings and reset (R63, R66, R72) -/

/-- Port 6 has entered a state other than READY or STALE (R63). -/
def loseScale (s : State) : State :=
  writeEntry .muck .reduced .blind (s.setMuck { s.muck with blind := true })

/-- Whether a belt sample that reached the unit before port 6 was lost may still be taken, after a change of the port: from
the port's leaving service until its supply is on again (R70, log 25). -/
def markLate (old new : PortState) (s : State) : State :=
  s.setMuck { s.muck with late := (old.inService && !new.powered) || (s.muck.late && !new.powered) }

/-- The window cleared (R66, R72). -/
def Muck.clearWindow (k : Muck) : Muck := { k with measured := 0, releasedExp := 0, e := 0, vApplied := 0 }

/-- RING_OPEN at the Muck Balance Unit: a new window, and MUCK written from the blind flag (R66). -/
def openMuck (s : State) : State :=
  let s := s.setMuck s.muck.clearWindow
  if s.muck.blind then writeEntry .muck .reduced .blind s else writeEntry .muck .clear .none s

/-- RESET_PART at the Muck Balance Unit (R72). -/
def resetMuck (s : State) : State :=
  let s := s.setMuck { s.muck.clearWindow with queue := [], generated := 0, released := 0 }
  let s := writeEntry .muck .clear .none s
  if s.muck.blind then writeEntry .muck .reduced .blind s else s

/-! ## SET_BALANCE (R68) -/

/-- SET_BALANCE (R68). -/
def takeSetBalance (b : Balance) (s : State) : Taken :=
  if inRange 100 50000 b.lT && inRange 100 20000 b.lOvx then
    (s.setMuck { s.muck with waiting := some b }, .ok,
      u16 s.muck.active.lT ++ u16 s.muck.active.lOvx ++ u16 b.lT ++ u16 b.lOvx)
  else refuse .badValue s

end Sys2Proof.Machine
end

