-- ==== Sys2Proof/Machine/Advance.lean ====
section
/-! DEFINITION. The Advance Unit (01): stroke and cutter samples, the increments, the advance and cutter commands, the
geometry, ground and limits, and its answers to tellings. -/

namespace Sys2Proof.Machine

/-! ## The advance increment (R6 to R9) -/

/-- The three figures of an increment. -/
structure Increment where
  volume : Nat
  mass : Nat
  demand : Nat
  deriving DecidableEq, Repr

/-- The figures of a counted movement d, from the carries kept (R6, R7, R8). -/
def Advance.increment (a : Advance) (d : Nat) : Increment :=
  let v := (a.geometry.aF * d + a.c1) / 100
  { volume := v
    mass := (v * a.ground.rho + a.c2) / 1000000
    demand := (a.geometry.aA * d * a.ground.fill + a.c3) / 100000 }

/-- The Advance Unit after a counted movement d: the mark at M, X, and the carries (R4, R6, R7, R8). -/
def Advance.credit (a : Advance) (d : Nat) : Advance :=
  let v := (a.geometry.aF * d + a.c1) / 100
  { a with
    a := a.m
    x := a.x + d
    c1 := (a.geometry.aF * d + a.c1) % 100
    c2 := (v * a.ground.rho + a.c2) % 1000000
    c3 := (a.geometry.aA * d * a.ground.fill + a.c3) % 100000 }

/-- The record after an increment: the totals and the new X (R9). -/
def Record.advance (i : Increment) (x : Nat) (r : Record) : Record :=
  { r with
    x := x
    volume := sat32 r.volume i.volume
    mass := sat32 r.mass i.mass
    demand := sat32 r.demand i.demand }

/-- The stroke compare after an increment (R10). -/
def compareStroke (s : State) : State :=
  if s.adv.geometry.wR ≤ s.adv.x ∧ (s.adv.state = .boring ∨ s.adv.state = .held) then
    let s := moveAdvance .strokeComplete s
    match s.ring.current with
    | none => s
    | some r =>
      report (.strokeComplete r.number s.adv.x s.adv.geometry.wR r.volume r.mass r.demand) s
  else s

/-- A counted movement d: the increment is formed and handed on, then X compared with W_r (R9, R10). -/
def creditStroke (d : Nat) (s : State) : State :=
  let inc := s.adv.increment d
  let s := s.setAdv (s.adv.credit d)
  let s := contribute (Record.advance inc s.adv.x) s
  let s := if 0 < inc.mass then massIncrement inc.mass s else s
  let s := if 0 < inc.demand then takeDemand inc.demand s else s
  compareStroke s

/-! ## Samples (R1 to R5, R22) -/

/-- The readings of a sample as a fixed number of stored readings; a missing one is invalid. -/
def strokeReadings (rs : List Reading) : Vector Reading 4 :=
  Vector.ofFn fun i => storeStroke (rs.getD i.val ⟨0, false⟩)

/-- The Advance Unit after the readings of a sample are stored and M formed (R1, R2). -/
def Advance.sense (a : Advance) (rs : List Reading) : Advance :=
  let stored := strokeReadings rs
  { a with readings := stored, m := (strokeMean stored.toList).getD a.m }

/-- How many of the stored readings are valid (R2). -/
def Advance.validCount (a : Advance) : Nat := (validValues a.readings.toList).length

/-- Accounting is performed: the ring BORING, the advance BORING or HELD, at least two valid readings (R4). -/
def accounts (s : State) : Bool :=
  s.ring.state = .boring && (s.adv.state = .boring || s.adv.state = .held) && 2 ≤ s.adv.validCount

/-- The accounting of a stroke sample (R4, R5). -/
def accountSample (s : State) : State :=
  if accounts s then
    if s.adv.m ≤ s.adv.a then s
    else
      let d := s.adv.m - s.adv.a
      if d ≤ 500 then creditStroke d s
      else report (.strokeJump s.ring.number s.adv.m s.adv.a d) (s.setAdv { s.adv with a := s.adv.m })
  else s

/-- A STROKE_SENSE sample, taken whole (R1, R2, R4). -/
def strokeSample (rs : List Reading) (s : State) : State :=
  let s := s.setAdv (s.adv.sense rs)
  accountSample (writeLevel .strokeRef (strokeRefLevel s.adv.validCount) s)

/-- A CUTTER_DRIVE sample (R22). -/
def cutterSample (torque : Nat) (s : State) : State :=
  let t := min torque 2000
  let s := s.setAdv { s.adv with torque := t }
  let s := writeLevel .torque (torqueLevel s.adv.tWarn t) s
  if s.ring.state = .boring then contribute (fun r => { r with peakTorque := max r.peakTorque t }) s else s

/-! ## Lost ports (R3, R22) -/

/-- Port 2 has entered a state other than READY or STALE (R3). -/
def loseStroke (s : State) : State :=
  writeEntry .strokeRef .hold .blind
    (s.setAdv { s.adv with readings := s.adv.readings.map fun r => { r with valid := false } })

/-- Port 4 has entered a state other than READY or STALE (R22). -/
def loseCutter (s : State) : State :=
  let s := stopCutter s
  writeEntry .torque .clear .none (s.setAdv { s.adv with torque := 0 })

/-! ## Ring tellings (R11, R12, R13) -/

/-- The stored readings as a record's stroke: an invalid reading is absent (R11, R12). -/
def Advance.capture (a : Advance) : Vector (Option Nat) 4 :=
  a.readings.map fun r => if r.valid then some r.value else none

/-- The stroke range test of RING_OPEN passes (R11). -/
def Advance.strokeFits (a : Advance) : Bool := a.m + a.geometry.wR ≤ a.geometry.strokeLimit

/-- A becomes M, X and the carries 0 (R11, R13). -/
def Advance.rebase (a : Advance) : Advance := { a with a := a.m, x := 0, c1 := 0, c2 := 0, c3 := 0 }

/-- RING_OPEN accepted: the rebaseline, and the start stroke handed to the record (R11). -/
def openAdvance (s : State) : State :=
  contribute (fun r => { r with startStroke := s.adv.capture }) (s.setAdv s.adv.rebase)

/-- BUILD_START: the advance IDLE, the cutter STOPPED, the end stroke handed to the record (R12). -/
def buildAdvance (s : State) : State :=
  let s := if s.adv.state = .idle then s else moveAdvance .idle s
  let s := stopCutter s
  contribute (fun r => { r with endStroke := some s.adv.capture }) s

/-- The ring state has become NONE: the return to rest (R13). -/
def restAdvance (s : State) : State :=
  let s := if s.adv.state = .idle then s else moveAdvance .idle s
  s.setAdv s.adv.rebase

/-! ## Output tellings (R18) -/

/-- The output mode has entered CLAMPING or RELEASED (R18). -/
def clampAdvance (s : State) : State := stopCutter (stopAdvance s)

/-- The output mode has entered NORMAL: the setpoints that differ are written (R18, R20). -/
def normalAdvance (s : State) : State := refresh s

/-! ## Commands -/

/-- The first condition of ADVANCE_START that fails, as its unmet field (R15). -/
def advanceUnmet (s : State) : Option Nat :=
  if s.adv.state = .strokeComplete then some 0
  else if s.ring.state ≠ .boring then some 1
  else if s.out.mode ≠ .normal then some 2
  else if s.adv.cutter = .stopped then some 3
  else if s.adv.permitCopy = .stop then some 4
  else none

/-- The advance state an ADVANCE_START leads to (R15). -/
def startedState (s : State) : AdvState :=
  match s.adv.state with
  | .idle => if s.adv.permitCopy = .hold then .held else .boring
  | .held => .held
  | .boring => .boring
  | .strokeComplete => .strokeComplete

/-- ADVANCE_START (R15). -/
def takeAdvanceStart (rate : Nat) (s : State) : Taken :=
  match advanceUnmet s with
  | some unmet => (s, .wrongState, u8 unmet)
  | none =>
    let r := clampNat 1 120 rate
    let s := moveAdvance (startedState s) (s.setAdv { s.adv with rReq := r })
    (s, if r = rate then .ok else .okClamped, u8 s.adv.state.code ++ u8 s.adv.rReq)

/-- ADVANCE_STOP (R16). -/
def takeAdvanceStop (s : State) : Taken :=
  match s.adv.state with
  | .idle => refuse .already s
  | .boring | .held | .strokeComplete =>
    let s := stopAdvance s
    (s, .ok, u8 s.adv.state.code)

/-- The cutter a CUTTER_SET commands (R21). -/
def cutterFor (speed : Nat) : Cutter := if speed = 0 then .stopped else .turning (clampNat 50 400 speed)

/-- CUTTER_SET (R21). -/
def takeCutterSet (speed : Nat) (s : State) : Taken :=
  if s.ring.state = .building then refuse .wrongState s
  else if s.out.mode ≠ .normal ∧ speed ≠ 0 then refuse .wrongState s
  else
    let s := if speed = 0 then stopCutter s
      else refresh (s.setAdv { s.adv with cutter := cutterFor speed })
    (s, if speed = 0 ∨ inRange 50 400 speed then .ok else .okClamped,
      u8 s.adv.cutter.code ++ u16 s.adv.cutter.speed)

/-- The geometry fields lie in their ranges and a ring fits the stroke limit (R23). -/
def Geometry.inRanges (g : Geometry) : Bool :=
  inRange 100000 520000 g.aF && inRange 5000 60000 g.aA && inRange 8000 20000 g.width
    && inRange 0 3000 g.clearance && inRange 16000 32000 g.strokeLimit && g.wR ≤ g.strokeLimit

/-- SET_GEOMETRY (R23). -/
def takeSetGeometry (g : Geometry) (s : State) : Taken :=
  if s.ring.state ≠ .none then refuse .wrongState s
  else if g.inRanges then (s.setAdv { s.adv with geometry := g }, .ok, [])
  else refuse .badValue s

/-- The ground fields lie in their ranges (R24). -/
def Ground.inRanges (g : Ground) : Bool :=
  inRange 1200 2600 g.rho && inRange 1000 1600 g.fill && inRange 0 500 g.voidCap

/-- SET_GROUND (R24). -/
def takeSetGround (g : Ground) (s : State) : Taken :=
  if s.ring.state ≠ .none then refuse .wrongState s
  else if g.inRanges then (s.setAdv { s.adv with ground := g }, .ok, [])
  else refuse .badValue s

/-- SET_LIMITS: F_red acts at once, T_warn at the next cutter sample (R25). -/
def takeSetLimits (fRed tWarn : Nat) (s : State) : Taken :=
  if inRange 100 900 fRed && inRange 500 990 tWarn then
    (refresh (s.setAdv { s.adv with fRed := fRed, tWarn := tWarn }), .ok, [])
  else refuse .badValue s

end Sys2Proof.Machine
end

