-- ==== Sys2Proof/Machine/Ring.lean ====
section
/-! DEFINITION. The Ring Unit (06): the ring commands, the Ring Record and History, the Segment Queue. -/

namespace Sys2Proof.Machine

/-! ## Records (R99, R105, R107) -/

/-- A Ring Record as it is opened (R99, R105). -/
def Record.opened (number : Nat) (key : Fin 8) : Record :=
  { number := number, key := key, state := .boring
    startStroke := Vector.replicate 4 none, endStroke := none
    x := 0, volume := 0, mass := 0, demand := 0, unassigned := 0, unmet := 0
    delivered := Vector.replicate 6 0, vApplied := 0, measured := 0, releasedExp := 0, finalE := 0
    pMinMax := none, peakTorque := 0, holdCount := 0, placed := [] }

/-- The Ring History after a record enters it as the newest (R107). -/
def pushHistory (history : List Record) (r : Record) : List Record :=
  if history.length < Config.historyCap then history ++ [r] else history.drop 1 ++ [r]

/-- Every raise count becomes 0 (R37). -/
def clearRaises (s : State) : State :=
  s.setPermit { s.permit with table := s.permit.table.map fun e => { e with raises := 0 } }

/-- A current ring leaves BORING or BUILDING for NONE: its record takes its last state and enters the history, the
blocks are told, and RING_CLOSED is queued (R96, R97, R102, R103, R104, R115). -/
def finishRing (state : RecordState) (s : State) : State :=
  match s.ring.current with
  | none => s
  | some r =>
    let r := { r with state := state }
    let s := s.setRing { s.ring with
      state := .none, current := none, plan := [], lastNumber := r.number
      history := pushHistory s.ring.history r }
    report (.ringClosed r) (tellAll [restAdvance, ringGrout, restBuild] s)

/-! ## Ring commands -/

/-- The result data of RING_OPEN: the number, the key slot and the Build Plan (R99). -/
def openData (number : Nat) (key : Fin 8) : List Byte :=
  u16 number ++ u8 key.val ++ (buildPlan key).flatMap planBytes

/-- RING_OPEN accepted (R99). -/
def openRing (number : Nat) (key : Fin 8) (s : State) : State :=
  let s := s.setRing { s.ring with
    state := .boring, current := some (Record.opened number key), plan := buildPlan key }
  tellAll [openAdvance, openMuck, openGrout, clearRaises] s

/-- RING_OPEN (R98, R99). -/
def takeRingOpen (number key : Nat) (s : State) : Taken :=
  if h : key < 8 then
    if !inRange 1 65535 number then refuse .badValue s
    else if s.ring.state ≠ .none then refuse .wrongState s
    else if !s.adv.geometry.configured then refuse .notConfigured s
    else if s.out.mode ≠ .normal then refuse .wrongState s
    else if number ≤ s.ring.lastNumber then refuse .badValue s
    else if !s.adv.strokeFits then refuse .strokeRange s
    else (openRing number ⟨key, h⟩ s, .ok, openData number ⟨key, h⟩)
  else refuse .badValue s

/-- BUILD_START (R101). The end stroke of the reply has a presence byte before its four readings (DESIGN CHOICE,
log 28). -/
def takeBuildStart (s : State) : Taken :=
  if s.ring.state = .boring ∧ s.adv.state = .strokeComplete then
    let s := s.setRing { s.ring with
      state := .building, current := s.ring.current.map fun r => { r with state := .building } }
    let s := tellAll [buildAdvance, ringGrout] s
    (s, .ok, u16 s.ring.number ++ (match s.ring.current with
      | some r => opt strokeBytes r.endStroke
      | none => []))
  else refuse .wrongState s

/-- The pieces placed so far in the current ring. -/
def Ring.placedCount (r : Ring) : Nat :=
  match r.current with
  | none => 0
  | some rec => rec.placed.length

/-- The first condition of RING_CLOSE that fails, as its unmet field (R102). -/
def closeUnmet (s : State) : Option Nat :=
  if s.ring.state ≠ .building then some 0
  else if s.ring.placedCount ≠ 8 then some 1
  else if s.build.step ≠ none then some 2
  else none

/-- RING_CLOSE (R102). -/
def takeRingClose (s : State) : Taken :=
  match closeUnmet s with
  | some unmet => (s, .wrongState, u8 unmet)
  | none => (finishRing .closed s, .ok, u16 s.ring.number)

/-- RING_ABANDON (R103): the record's accounted distance is tested. -/
def takeRingAbandon (s : State) : Taken :=
  match s.ring.current with
  | some r =>
    if s.ring.state = .boring ∧ r.x = 0 then (finishRing .abandoned s, .ok, [])
    else refuse .wrongState s
  | none => refuse .wrongState s

/-- RESET_PART at the Ring Unit: a current ring is abandoned (R115); with none the advance comes to rest all the same,
as the table of R26 has A at M after every reset (log 26). -/
def resetRing (s : State) : State :=
  match s.ring.current with
  | none => restAdvance s
  | some _ => finishRing .abandoned s

/-- The Segment Queue cleared (R115). -/
def clearSegments (s : State) : State := s.setRing { s.ring with queue := [] }

/-- The result data of GET_RING: every field of R105 and the Build Plan of the record's key slot (R108). -/
def recordData (r : Record) : List Byte :=
  u16 r.number ++ u8 r.key.val ++ u8 r.state.code ++ strokeBytes r.startStroke
    ++ opt strokeBytes r.endStroke ++ recordFigures r
    ++ listOf (fun p => u8 p.slot.val ++ u8 p.kind.code ++ u32 p.serial) r.placed
    ++ (buildPlan r.key).flatMap planBytes

/-- The record GET_RING finds for a number (R108). -/
def Ring.lookup (u : Ring) (number : Nat) : Option Record :=
  match u.current with
  | some r =>
    if number = 0 ∨ number = r.number then some r else u.history.find? (·.number == number)
  | none => if number = 0 then none else u.history.find? (·.number == number)

/-- GET_RING (R108). -/
def takeGetRing (number : Nat) (s : State) : Taken :=
  match s.ring.lookup number with
  | some r => (s, .ok, recordData r)
  | none => refuse .notFound s

/-! ## The Segment Queue (R109 to R113) -/

/-- A PIECE report (R113). -/
def pieceReport (event : PieceEvent) (kind serial : Nat) (reason : PieceReason) (s : State) : State :=
  report (.piece event kind serial reason s.ring.queue.length s.ring.next) s

/-- The serial is in the queue or in the current record's placed list (R110). -/
def Ring.holdsSerial (r : Ring) (serial : Nat) : Bool :=
  r.queue.any (·.serial == serial) ||
    (match r.current with
      | none => false
      | some rec => rec.placed.any (·.serial == serial))

/-- PIECE_ARRIVED at the Ring Unit (R110). -/
def takePieceArrived (kind serial : Nat) (s : State) : State × EventStatus :=
  match PieceKind.ofCode kind with
  | none => (pieceReport .refused kind serial .badKind s, .badKind)
  | some named =>
    if serial = 0 then (pieceReport .refused kind serial .badValue s, .status .badValue)
    else if s.ring.holdsSerial serial then
      (pieceReport .refused kind serial .duplicateSerial s, .duplicateSerial)
    else if s.ring.queue.length ≥ Config.segmentCap then
      (pieceReport .refused kind serial .queueFull s, .queueFull)
    else
      (pieceReport .arrived kind serial .none
        (s.setRing { s.ring with queue := s.ring.queue ++ [⟨named, serial⟩] }), .status .ok)

/-- PIECE_DISCARD (R112). -/
def takePieceDiscard (s : State) : Taken :=
  match s.ring.queue with
  | [] => refuse .queueEmpty s
  | piece :: rest =>
    if s.build.step ≠ none then refuse .wrongState s
    else
      (pieceReport .discarded piece.kind.code piece.serial .none (s.setRing { s.ring with queue := rest }),
        .ok, u8 piece.kind.code ++ u32 piece.serial)

end Sys2Proof.Machine
end

