-- ==== Sys2Proof/Machine/Output.lean ====
section
/-! DEFINITION. The Output Unit (10): the emergency-stop line, the output modes, the safe writes, the Safe Table, the
Fault List and RESET_PART. -/

namespace Sys2Proof.Machine

/-! ## Safe writes (R169, R170) -/

/-- The number of live points of a port; 0 while it has no identity (R158). -/
def Port.live (pt : Port) : Nat :=
  match pt.identity with
  | none => 0
  | some i => i.points

/-- The pairs of a port's safe record that name live points (R169). -/
def safePairs (s : State) (p : PortNo) : List (Nat × Nat) :=
  (s.out.safe.get p).filter fun pv => pv.1 < (s.ports.get p).live

/-- A write of origin SAFE. -/
def isSafeWrite (o : Origin) (k : ReqKind) : Bool :=
  match o, k with
  | .safe, .write _ => true
  | _, _ => false

/-- A safe write of the port stands in the table or waits (R169). -/
def Requests.safeStands (r : Requests) (p : PortNo) : Bool :=
  r.table.any (fun e => e.port == p && isSafeWrite e.origin e.kind)
    || r.waits.any (fun w => w.port == p && isSafeWrite w.origin w.kind)

/-- Mark a port's safe write outstanding (R169). -/
def markOutstanding (p : PortNo) (s : State) : State :=
  s.setOut { s.out with outstanding := put s.out.outstanding p true }

/-- Ask for a port's safe write, if it has a pair to write; joins says whether the port joins the outstanding set
(R169, R170). -/
def askSafe (joins : Bool) (p : PortNo) (s : State) : State :=
  match safePairs s p with
  | [] => s
  | pair :: pairs =>
    let s := (placeItem ⟨.safe, p, .write (pair :: pairs)⟩ s).1
    if joins then markOutstanding p s else s

/-- The safe write of one port at an entry into CLAMPING; from CLAMPED, a write that still stands is kept (R169). -/
def clampPort (old : OutMode) (s : State) (p : PortNo) : State :=
  if !s.portUp p then s
  else if old = .clamped ∧ s.req.safeStands p then markOutstanding p s
  else askSafe true p s

/-- The safe writes of all ports in service are registered, ports ascending (R169; DESIGN CHOICE, log 29). -/
def registerSafe (old : OutMode) (s : State) : State := (List.finRange 16).foldl (clampPort old) s

/-! ## Entering and leaving the modes (R168, R169, R171, R172) -/

/-- The mode and its cause change. -/
def setMode (mode : OutMode) (cause : OutCause) (s : State) : State :=
  s.setOut { s.out with mode := mode, cause := cause }

/-- The blocks told of an entry into CLAMPING or RELEASED, each with what it does; cause is what the Build Sequencer
records (R169, R171). The step fault and the end of the grant are tellings of their own (R130). -/
def clampTellings (cause : StepCause) : List (State → State) :=
  [tellOutput, clampAdvance, clampGrout, clampBuild cause, endGrant .output, clampRequests]

/-- The end of an entry into CLAMPING: the safe writes are registered, the change is reported, and with none
outstanding the mode passes on to CLAMPED (R168, R169; log 17). -/
def finishClamp (old : OutMode) (s : State) : State :=
  let s := reportMode old (registerSafe old s)
  if s.out.outstandingCount = 0 then enterClamped s else s

/-- The mode enters CLAMPING from NORMAL, CLAMPED or RELEASED (R169). -/
def enterClamping (cause : OutCause) (s : State) : State :=
  finishClamp s.out.mode (tellAll (clampTellings .clamped) (setMode .clamping cause s))

/-- The cause changes while the mode stays CLAMPING: told and reported (R167, R168, R176). -/
def changeCause (cause : OutCause) (s : State) : State :=
  if s.out.cause = cause then s else reportMode .clamping (tellOutput (setMode .clamping cause s))

/-- Ask for a RELINQUISH of a port in service (R171). -/
def askRelinquish (s : State) (p : PortNo) : State :=
  if s.portUp p then (placeItem ⟨.safe, p, .action .relinquish⟩ s).1 else s

/-- The mode enters RELEASED; RELINQUISH is asked with ports ascending (R171; DESIGN CHOICE, log 29). -/
def enterReleased (s : State) : State :=
  let old := s.out.mode
  let s := setMode .released .release s
  let s := s.setOut { s.out with outstanding := Vector.replicate 16 false }
  let s := tellAll (clampTellings .released) s
  reportMode old ((List.finRange 16).foldl askRelinquish s)

/-- The blocks told of an entry into NORMAL that act on it: the Permit Unit, the Advance Unit and the Pressure Unit;
the Request Unit's fill is a step of its own (R172, R151, log 3). -/
def normalTellings : List (State → State) := [tellOutput, normalAdvance, writeScrew false]

/-- The mode enters NORMAL (R172). -/
def enterNormal (s : State) : State :=
  let old := s.out.mode
  reportMode old (tellAll normalTellings (setMode .normal .none s))

/-- A port has entered READY from IDENTIFYING: what the Output Unit asks of it (R170). -/
def safeNewPort (p : PortNo) (s : State) : State :=
  match s.out.mode with
  | .normal => s
  | .clamping => askSafe true p s
  | .clamped => askSafe false p s
  | .released => askRelinquish s p

/-! ## The emergency-stop line (R167) -/

/-- The line becomes asserted (R167). -/
def estopAssert (s : State) : State :=
  if s.out.estop then s
  else
    let s := s.setOut { s.out with estop := true }
    match s.out.mode with
    | .clamping => changeCause .estop s
    | .normal | .clamped | .released => enterClamping .estop s

/-- The line becomes deasserted (R167). -/
def estopDeassert (s : State) : State := s.setOut { s.out with estop := false }

/-! ## Mode commands (R168) -/

/-- The result data of a mode command: the mode, the cause, the safe writes outstanding (R168). -/
def modeData (s : State) : List Byte := u8 s.out.mode.code ++ u8 s.out.cause.code ++ u8 s.out.outstandingCount

/-- A mode command taken. -/
def tookMode (s : State) : Taken := (s, .ok, modeData s)

/-- CLAMP (R168). -/
def takeClamp (s : State) : Taken :=
  match s.out.mode with
  | .normal | .released => tookMode (enterClamping .host s)
  | .clamping | .clamped => refuse .already s

/-- UNCLAMP (R168, R172). -/
def takeUnclamp (s : State) : Taken :=
  match s.out.mode with
  | .normal => refuse .already s
  | .clamping | .released => refuse .wrongState s
  | .clamped => if s.out.estop then refuse .estopActive s else tookMode (enterNormal s)

/-- RELEASE (R168, R171). -/
def takeRelease (s : State) : Taken :=
  match s.out.mode with
  | .normal | .clamped => if s.out.estop then refuse .estopActive s else tookMode (enterReleased s)
  | .clamping => refuse .wrongState s
  | .released => refuse .already s

/-- RESUME (R168). -/
def takeResume (s : State) : Taken :=
  match s.out.mode with
  | .released => tookMode (enterClamping .resume s)
  | .normal | .clamping | .clamped => refuse .wrongState s

/-! ## SET_SAFE (R166) -/

/-- A list of point and value pairs of the given lengths, its points 0 to 15 and none twice (R149, R166). -/
def pairsFit (least : Nat) (pairs : List (Nat × Nat)) : Bool :=
  inRange least 8 pairs.length && pairs.all (fun pv => pv.1 < 16) && (pairs.map (·.1)).Nodup

/-- The points a port's safe record must name, each with value 0 (condition 2 of R166). -/
def requiredSafe (p : PortNo) : List Nat :=
  match Config.portClass p with
  | .thrustValve => [1, 2, 3, 4, 5, 6, 7, 8]
  | .cutterDrive | .screwDrive => [0]
  | .strokeSense | .chamberSense | .beltScale | .groutPump | .erector | .segmentFeeder | .auxiliary
  | .pendant => []

/-- Conditions 2 and 3 of SET_SAFE (R166). -/
def safeAllowed (p : PortNo) (pairs : List (Nat × Nat)) : Bool :=
  (requiredSafe p).all (fun i => pairs.any fun pv => pv.1 == i && pv.2 == 0)
    && pairs.all fun pv => Config.pointOwner p pv.1 == .free || pv.2 == 0

/-- SET_SAFE (R166). -/
def takeSetSafe (port : Nat) (pairs : List (Nat × Nat)) (s : State) : Taken :=
  if h : port < 16 then
    if !pairsFit 0 pairs then refuse .badValue s
    else if !safeAllowed ⟨port, h⟩ pairs then refuse .badValue s
    else if s.out.mode = .clamping then refuse .wrongState s
    else (s.setOut { s.out with safe := put s.out.safe ⟨port, h⟩ pairs }, .ok, listOf pairBytes pairs)
  else refuse .badValue s

/-! ## The Fault List (R175) -/

/-- GET_FAULTS (R175). -/
def takeGetFaults (s : State) : Taken :=
  (s, .ok, listOf faultBytes s.out.faults ++ u8 (s.permit.table.get Source.faultBacklog.idx).level.code)

/-- ACK_FAULT (R175). -/
def takeAckFault (s : State) : Taken :=
  match s.out.faults with
  | [] => refuse .queueEmpty s
  | f :: rest =>
    (writeEntry .faultBacklog .clear .none (s.setOut { s.out with faults := rest }), .ok, faultBytes f)

/-! ## RESET_PART (R176) -/

/-- Step 1 of RESET_PART: the mode enters CLAMPING with cause RESET, without its safe writes; the change is reported
(R176, log 17). -/
def resetEnter (s : State) : State :=
  match s.out.mode with
  | .clamping => changeCause .reset s
  | .normal | .clamped | .released =>
    reportMode s.out.mode (tellAll (clampTellings .clamped) (setMode .clamping .reset s))

/-- Step 2 of RESET_PART: the outstanding set is emptied and every entry completes CANCELLED (R176). -/
def resetCancel (s : State) : State :=
  resetRequests (s.setOut { s.out with outstanding := Vector.replicate 16 false })

/-- Step 4 of RESET_PART: the Segment Queue, the Transit Queue, totals and window; the Pressure Unit's copy of the
MUCK level starts again at CLEAR (R176, R115, R72, R35). -/
def resetQueues (s : State) : State :=
  let s := clearSegments s
  resetMuck (s.setPres { s.pres with muckTold := .clear })

/-- Step 6 of RESET_PART: the Fault List (R176). -/
def resetFaults (s : State) : State :=
  writeEntry .faultBacklog .clear .none (s.setOut { s.out with faults := [] })

/-- Step 7 of RESET_PART: the safe writes, and CLAMPED when there are none (R176). -/
def resetSafe (s : State) : State :=
  let s := registerSafe .clamping s
  if s.out.outstandingCount = 0 then enterClamped s else s

/-- The seven steps of RESET_PART (R176). -/
def resetPart (s : State) : State :=
  resetSafe (resetFaults (resetGrout (resetQueues (resetRing (resetCancel (resetEnter s))))))

/-- RESET_PART (R176). -/
def takeResetPart (s : State) : Taken :=
  let s := resetPart s
  (s, .ok, u8 s.out.mode.code ++ u8 s.out.outstandingCount)

end Sys2Proof.Machine
end

