-- ==== Sys2Proof/Machine/Pressure.lean ====
section
/-! DEFINITION. The Pressure Unit (03): the chamber sample, the loss of port 3, and its settings. -/

namespace Sys2Proof.Machine

/-- The readings of a sample as a fixed number of stored readings; a missing one is invalid. -/
def chamberReadings (rs : List Reading) : Vector Reading 5 :=
  Vector.ofFn fun i => storeChamber (rs.getD i.val ⟨0, false⟩)

/-- Steps 1 and 2 of a chamber sample: the readings are stored, a pending set becomes active, P is formed (R41, R42). -/
def Pressure.sense (u : Pressure) (rs : List Reading) : Pressure :=
  let stored := chamberReadings rs
  let p := crownPressure stored.toList
  { u with
    readings := stored
    active := u.waiting.getD u.active, waiting := none
    p := p.getD u.p, held := p.isNone }

/-- The record's extremes after P is offered (R45). -/
def Record.offer (p : Nat) (r : Record) : Record :=
  { r with pMinMax := match r.pMinMax with
      | none => some (p, p)
      | some (lo, hi) => some (min lo p, max hi p) }

/-- Step 4 of a chamber sample: a measured P is offered to the record while the advance is BORING or HELD in a BORING
ring (R45). -/
def offerPressure (s : State) : State :=
  if !s.pres.held && s.ring.state = .boring && (s.adv.state = .boring || s.adv.state = .held) then
    contribute (Record.offer s.pres.p) s
  else s

/-- Step 5 of a chamber sample: the screw law runs while the advance is BORING (R46). -/
def runScrewLaw (s : State) : State :=
  if s.adv.state = .boring then
    setScrew (screwLaw s.pres.active s.pres.muckTold s.pres.p s.pres.sOld) s
  else s

/-- A CHAMBER_SENSE sample, taken whole (R41). -/
def chamberSample (rs : List Reading) (s : State) : State :=
  let s := s.setPres (s.pres.sense rs)
  let s := writeLevel .chamber (chamberLevel s.pres.active s.pres.p s.pres.held) s
  runScrewLaw (offerPressure s)

/-- Port 3 has entered a state other than READY or STALE (R43). -/
def loseChamber (s : State) : State :=
  writeEntry .chamber .hold .blind (s.setPres { s.pres with
    readings := s.pres.readings.map fun r => { r with valid := false }
    held := true })

/-- The settings lie in their ranges and b_h exceeds b_s (R51). -/
def PSettings.inRanges (p : PSettings) : Bool :=
  inRange 500 6000 p.pSet && inRange 20 500 p.bS && (p.bS < p.bH && p.bH ≤ 1500) && inRange 0 1023 p.gain
    && inRange 1 50 p.rate && inRange 0 100 p.sMin && inRange 50 250 p.sMax && inRange 300 1000 p.dOvx

/-- SET_PRESSURE (R51). -/
def takeSetPressure (p : PSettings) (s : State) : Taken :=
  if p.inRanges then
    (s.setPres { s.pres with waiting := some p }, .ok, u16 s.pres.active.pSet ++ u16 p.pSet)
  else refuse .badValue s

end Sys2Proof.Machine
end

