-- ==== Sys2Proof/Machine/Ports.lean ====
section
/-! DEFINITION. The Port Manager (08): strap lines, bring-up, samples and events, the outcomes of requests, removal,
bypass and restore, and what each change of a port's state tells. -/

namespace Sys2Proof.Machine

/-! ## The port record -/

/-- Replace a port's entry. -/
def setPort (p : PortNo) (pt : Port) (s : State) : State := s.setPorts (put s.ports p pt)

/-- A port's entry changed by f. -/
def modPort (p : PortNo) (f : Port → Port) (s : State) : State := setPort p (f (s.ports.get p)) s

/-- The partial timer's duration while exactly one detect line is made (R134). -/
def partialTime (straps : Straps) : Option Nat := if partialMade straps then some 2000 else none

/-- A port's entry after a change of state: the supply with it (R133), the timers of the state entered (R134, R136,
R140), the identity kept only in service (R133), the no-answer count cleared on entry into POWERING (R136). -/
def Port.enter (new : PortState) (cause : PortCause) (pt : Port) : Port :=
  { pt with
    state := new
    cause := cause
    supply := new.powered
    identity := if new.inService then pt.identity else none
    noAnswer := if new = .powering then 0 else pt.noAnswer
    debounce := if new = .settling then some 50 else none
    partialTimer := if new = .settling then partialTime pt.straps else none
    settle := if new = .powering then some 250 else none
    stale := if new = .ready then pt.stale else none }

/-! ## What a change of state causes (R143, R144, R146) -/

/-- The fault record of a port that leaves service, or fails its identification (R144). -/
def portRecord (old : PortState) (cause : PortCause) (outcome : Option ReqOutcome) :
    Option FaultCause :=
  match cause with
  | .removed => if old.inService then some .removed else none
  | .noAnswer => some .noAnswer
  | .identifyFailed => outcome.map .identifyFailed
  | _ => none

/-- The record is handed in, if there is one (R144). -/
def recordPort (p : PortNo) (cause : Option FaultCause) (s : State) : State :=
  match cause with
  | none => s
  | some c =>
    handFault
      { format := .portLost, origin := .port, tag := none, port := some p, pointOrLine := none
        cause := c, ring := s.ring.number, x := s.adv.x } s

/-- The tellings to the Request Unit and the Output Unit that have an effect (R143, R156, R161, R170). -/
def unitTellings (p : PortNo) (old new : PortState) : List (State → State) :=
  (if new.lost then [loseRequests p] else [])
    ++ (if old = .identifying ∧ new = .ready then [refreshIdentity p, safeNewPort p] else [])

/-- The telling to the Permit Unit (R33). -/
def stationTelling (s : State) : State := writeLevel .station (stationLevel s.ports) s

/-- The telling of a port out of service to the job block of its class (R3, R22, R43, R63, R90, R125). -/
def jobLoss (p : PortNo) : List (State → State) :=
  match Config.portClass p with
  | .strokeSense => [loseStroke]
  | .chamberSense => [loseChamber]
  | .cutterDrive => [loseCutter]
  | .beltScale => [loseScale]
  | .groutPump => [losePump p]
  | .thrustValve | .erector => [loseStepPort p]
  | .screwDrive | .segmentFeeder | .auxiliary | .pendant => []

/-- The tellings to the job blocks that have an effect (R143). -/
def jobTellings (p : PortNo) (old new : PortState) : List (State → State) :=
  (if p.val ≤ 5 then [stationTelling] else [])
    ++ (if new.inService then [] else jobLoss p)
    ++ (if Config.portClass p = .screwDrive ∧ old = .identifying ∧ new = .ready then [writeScrew true] else [])
    ++ (if Config.portClass p = .pendant ∧ old = .ready then [loseGrantPort p] else [])

/-- The fault record of a change of state, as a telling: its write of FAULT_BACKLOG and the writes of the other tellings
may reach the Restriction Table in any order (R32, R144). -/
def recordTelling (p : PortNo) (cause : Option FaultCause) : List (State → State) :=
  if cause.isSome then [recordPort p cause] else []

/-- Everything a change of a port's state tells, in no fixed order (R32, R143, log 2). -/
def portTellings (p : PortNo) (old new : PortState) (cause : Option FaultCause) : List (State → State) :=
  recordTelling p cause ++ unitTellings p old new ++ jobTellings p old new

/-- The PORT report of a change (R146). It carries the identity on the entry into READY alone: a refused identification
is reported without it (DESIGN CHOICE, log 33). -/
def portReport (p : PortNo) (old : PortState) (outcome : Option ReqOutcome) (s : State) : State :=
  let pt := s.ports.get p
  report (.port p old pt.state pt.cause pt.supply
    (if old = .identifying ∧ pt.state = .ready then pt.identity else none) outcome) s

/-- A change of a port's state: the entry, the PORT report, then the fault record and the tellings in no fixed order (R143,
R144, R146; log 16). The outcome is given for IDENTIFY_FAILED alone. -/
def changePort (p : PortNo) (new : PortState) (cause : PortCause) (outcome : Option ReqOutcome) (s : State) :
    State :=
  let old := (s.ports.get p).state
  let s := portReport p old outcome (modPort p (Port.enter new cause) s)
  let s := if Config.portClass p = .beltScale then markLate old new s else s
  tellAll (portTellings p old new (portRecord old cause outcome)) s

/-- A change of state with no outcome. -/
def movePort (p : PortNo) (new : PortState) (cause : PortCause) (s : State) : State :=
  changePort p new cause none s

/-! ## Detection (R134, R135, R142) -/

/-- A port in EMPTY whose detect lines are read: with either made it enters SETTLING (R134, R142, R145, R147). -/
def detect (p : PortNo) (s : State) : State :=
  if anyMade (s.ports.get p).straps then movePort p .settling .inserted s else s

/-- The removal of a station: identity, strap readings and no-answer count are cleared, the port enters EMPTY, and a
detect line still made takes it to SETTLING at once (R142, log 21). -/
def removePort (p : PortNo) (s : State) : State :=
  let s := modPort p (fun pt => { pt with strapRead := Straps.open, noAnswer := 0 }) s
  detect p (movePort p .empty .removed s)

/-- A change of a detect line in SETTLING: back to EMPTY with both open, else the timers (R134). -/
def bounce (p : PortNo) (s : State) : State :=
  if anyMade (s.ports.get p).straps then
    modPort p (fun pt => { pt with debounce := some 50, partialTimer := partialTime pt.straps }) s
  else movePort p .empty .removed s

/-- What a change of a detect line to the given level does, by the port's state (R134, R142). -/
def detectChange (p : PortNo) (made : Bool) (s : State) : State :=
  match (s.ports.get p).state with
  | .empty => detect p s
  | .settling => bounce p s
  | .powering | .identifying | .ready | .stale | .refused | .faulted =>
    if made then s else removePort p s
  | .bypassed => s

/-- The level of a strap line. -/
def strapLevel (w : Straps) : StrapLine → Bool
  | .d1 => w.d1 | .d2 => w.d2 | .s1 => w.s1 | .s2 => w.s2

/-- The strap lines with one at a new level. -/
def withLevel (w : Straps) (l : StrapLine) (v : Bool) : Straps :=
  match l with
  | .d1 => { w with d1 := v } | .d2 => { w with d2 := v } | .s1 => { w with s1 := v } | .s2 => { w with s2 := v }

/-- The line is a detect line. -/
def isDetect : StrapLine → Bool
  | .d1 | .d2 => true
  | .s1 | .s2 => false

/-- A strap line comes to a level; coming to the level it stands at is no change (R134). -/
def strapChange (p : PortNo) (l : StrapLine) (level : Bool) (s : State) : State :=
  if strapLevel (s.ports.get p).straps l = level then s
  else
    let s := modPort p (fun pt => { pt with straps := withLevel pt.straps l level }) s
    if isDetect l then detectChange p level s else s

/-- The sense decode: the readings of all four strap lines are stored as they then stand, D1 and D2 with S1 and S2 (R133,
R135; DESIGN CHOICE for D1 and D2, log 34). -/
def decodeSense (p : PortNo) (s : State) : State :=
  let straps := (s.ports.get p).straps
  let s := modPort p (fun pt => { pt with strapRead := straps }) s
  match senseDecode (Config.supply48 (Config.portClass p)) straps.s1 straps.s2 with
  | .accepted => movePort p .powering .accepted s
  | .supplyMismatch => movePort p .refused .supplyMismatch s
  | .reservedCode => movePort p .refused .reservedCode s

/-- Expiry of the debounce timer (R134). -/
def debounceExpiry (p : PortNo) (s : State) : State :=
  if (s.ports.get p).debounce.isSome then
    let s := modPort p (fun pt => { pt with debounce := none }) s
    if bothMade (s.ports.get p).straps then decodeSense p s else s
  else s

/-- Expiry of the partial timer (R134). -/
def partialExpiry (p : PortNo) (s : State) : State :=
  if (s.ports.get p).partialTimer.isSome then movePort p .refused .partialInsertion s else s

/-- Expiry of the settle timer: IDENTIFYING, and the IDENTIFY is asked for (R136, R137). -/
def settleExpiry (p : PortNo) (s : State) : State :=
  if (s.ports.get p).settle.isSome then askIdentify p (movePort p .identifying .settled s) else s

/-- Expiry of the stale timer (R140). -/
def staleExpiry (p : PortNo) (s : State) : State :=
  if (s.ports.get p).stale.isSome then movePort p .stale .noSample s else s

/-! ## Samples (R139, R140) -/

/-- The value of reading i of a sample, 0 when it has none. -/
def readingValue (rs : List Reading) (i : Nat) : Nat := ((rs[i]?).map (·.value)).getD 0

/-- A sample goes to the block of its class (R139). -/
def passSample (p : PortNo) (rs : List Reading) (s : State) : State :=
  match Config.portClass p with
  | .strokeSense => strokeSample rs s
  | .chamberSense => chamberSample rs s
  | .beltScale => beltSample (readingValue rs 0) (readingValue rs 1) s
  | .cutterDrive => cutterSample (readingValue rs 0) s
  | .thrustValve | .screwDrive | .groutPump | .erector | .segmentFeeder | .auxiliary | .pendant => s

/-- The stale timer restarts, and a STALE port returns to READY (R140). -/
def refreshStale (p : PortNo) (s : State) : State :=
  let s' := modPort p (fun pt => { pt with stale := some (staleTime p) }) s
  if (s.ports.get p).state = .stale then movePort p .ready .sample s' else s'

/-- A SAMPLE on a port with no identity. On port 6 with its supply off no frame can arrive (R139): the row stands for the
belt sample that had reached the Muck Balance Unit before the port's loss was told, and is taken once (R70, log 25). -/
def takeLateSample (p : PortNo) (body : List Byte) (s : State) : State :=
  if Config.portClass p = .beltScale ∧ s.muck.late = true ∧ (s.ports.get p).state.powered = false then
    match sampleReadings 2 body with
    | none => s
    | some rs => passSample p rs (s.setMuck { s.muck with late := false })
  else s

/-- A SAMPLE on a port: taken in service, and only when it holds the readings of its class (R139); with no identity only as
the late belt sample of R70. -/
def takeSample (p : PortNo) (body : List Byte) (s : State) : State :=
  match (s.ports.get p).identity with
  | none => takeLateSample p body s
  | some identity =>
    if s.portUp p then
      match sampleReadings identity.channels body with
      | none => s
      | some rs => passSample p rs (refreshStale p s)
    else s

/-! ## Events (R139, R164) -/

/-- The block that receives an event takes it and decides its answer (R139). -/
def passEvent (p : PortNo) (e : StationEvent) (s : State) : State × EventStatus :=
  match e with
  | .retracted sector => takeRetracted p sector s
  | .holding sector => takeHolding p sector s
  | .placed serial => takePlaced p serial s
  | .returned => takeReturned p s
  | .strokeDone line delivered peak => takeStrokeDone p line delivered peak s
  | .pieceArrived kind serial => takePieceArrived kind serial s
  | .localRequest => takeLocalRequest p s
  | .localRelease => takeLocalRelease p s
  | .placeRequest => pendantStep p (startStep (StartedBy.ofPort p) true) s
  | .retryRequest => pendantStep p (retryStep true) s
  | .backoutRequest => pendantStep p (backoutStep true) s

/-- An event answered NOT_EXPECTED and passed to no block, on a port that is powered (R139). -/
def notExpected (p : PortNo) (seq : Byte) (s : State) : State :=
  if (s.ports.get p).state.powered then sendField p (eventAnswerFrame seq .notExpected) s else s

/-- An EVENT on a port: passed on by its kind and the port's class in service, answered NOT_EXPECTED otherwise while the
port is powered; an unpowered port has no line for it to come on (R139; log 25). -/
def takeEvent (p : PortNo) (seq : Byte) (e : StationEvent) (s : State) : State :=
  if s.portUp p && Config.portClass p == e.sentBy then
    let r := passEvent p e s
    sendField p (eventAnswerFrame seq r.2) r.1
  else notExpected p seq s

/-- The body of an EVENT frame, taken as what it spells (R139). A body that does not fit a kind the port's class sends is
discarded in service (DESIGN CHOICE, log 23); every other misfit is answered NOT_EXPECTED. -/
def takeEventBody (p : PortNo) (seq : Byte) (body : List Byte) (s : State) : State :=
  match eventBody body with
  | .event e => takeEvent p seq e s
  | .unknownKind => notExpected p seq s
  | .misfit cls => if s.portUp p && Config.portClass p == cls then s else notExpected p seq s

/-! ## Outcomes of requests (R137, R138, R141) -/

/-- The no-answer count after an outcome (R141). -/
def countAnswer (o : ReqOutcome) (n : Nat) : Nat :=
  match o with
  | .noAnswer => min (n + 1) 3
  | .done _ | .refused _ | .busyExhausted => 0
  | .portLost | .cancelled => n

/-- The classes by their bytes (R133). -/
def classOf : Nat → Option PortClass
  | 0 => some .thrustValve | 1 => some .strokeSense | 2 => some .chamberSense | 3 => some .cutterDrive
  | 4 => some .screwDrive | 5 => some .beltScale | 6 => some .groutPump | 7 => some .erector
  | 8 => some .segmentFeeder | 9 => some .auxiliary | 10 => some .pendant
  | _ => none

/-- The checks of an identity record, in their order (R138). Where the class's channel count is any, no number is
refused, 17 to 255 included (DESIGN CHOICE, log 32). -/
def checkIdentity (c : PortClass) (values : List Nat) : Except PortCause Identity :=
  match values with
  | [cls, revision, points, channels] =>
    if classOf cls ≠ some c then .error .classMismatch
    else if 16 < points ∨ points < Config.minPoints c then .error .identityMismatch
    else if (Config.channels c).any (· ≠ channels) then .error .identityMismatch
    else .ok ⟨c, revision, points, channels⟩
  | _ => .error .identityMismatch

/-- The identity record of a DONE answer: READY with its stale timer started, or REFUSED (R138, R140). -/
def takeIdentity (p : PortNo) (values : List Nat) (s : State) : State :=
  match checkIdentity (Config.portClass p) values with
  | .ok identity =>
    movePort p .ready .identified
      (modPort p (fun pt => { pt with identity := some identity, stale := some (staleTime p) }) s)
  | .error cause => movePort p .refused cause s

/-- The outcome of the IDENTIFY of a port (R137). CANCELLED and PORT_LOST do not come by an answer. -/
def identifyOutcome (p : PortNo) (o : ReqOutcome) (s : State) : State :=
  match o with
  | .done values => takeIdentity p values s
  | .refused _ | .busyExhausted | .noAnswer => changePort p .faulted .identifyFailed (some o) s
  | .portLost | .cancelled => s

/-- The outcome of an entry as the Port Manager counts it (R141). -/
def countOutcome (e : Entry) (o : ReqOutcome) (s : State) : State :=
  modPort e.port (fun pt => { pt with noAnswer := countAnswer o pt.noAnswer }) s

/-- The entry is the IDENTIFY its port waits for (R137). -/
def awaitsIdentity (e : Entry) (s : State) : Bool :=
  isIdentify e.origin e.kind && (s.ports.get e.port).state == .identifying

/-- The no-answer count of a port in service has reached 3 (R141). -/
def silent (p : PortNo) (s : State) : Bool := (s.ports.get p).noAnswer == 3 && s.portUp p

/-- The outcome of an entry as it moves the port: the IDENTIFY, the fault at 3 (R137, R141). -/
def portOutcome (e : Entry) (o : ReqOutcome) (s : State) : State :=
  if awaitsIdentity e s then identifyOutcome e.port o s
  else if silent e.port s then movePort e.port .faulted .noAnswer s
  else s

/-- Those to whom the outcome of an ended entry is told with an effect: the Output Unit, of a failed write (R160); the
party that asked (R155); the Port Manager, when the port moves (R137, R141). -/
def outcomeTellings (e : Entry) (o : ReqOutcome) (s : State) : List (State → State) :=
  (if (recordedFailure e o).isSome then [recordFailure e o] else [])
    ++ (match e.origin with
      | .advance | .pressure | .port => []
      | .host | .grout | .build | .safe => [handOutcome e o])
    ++ (if awaitsIdentity e s || silent e.port s then [portOutcome e o] else [])

/-- An entry that the station's line brings to its end: it leaves the table, the image and the no-answer count follow, and
the outcome is handed on in no fixed order (R154, R155; R32, R143, log 16). -/
def finishEntry (e : Entry) (o : ReqOutcome) (s : State) : State :=
  match takeFirst (fun d => d == e) s.req.table with
  | none => s
  | some (_, rest) =>
    let s := countOutcome e o (s.setReq (({ s.req with table := rest } : Requests).endWrite e.port e.kind o))
    tellAll (outcomeTellings e o s) s

/-- The entry IN_FLIGHT on a port (R153). -/
def Requests.flying (r : Requests) (p : PortNo) : Option Entry :=
  r.table.find? fun e => e.port == p && e.state.onLine

/-- A BUSY answer: another attempt after a wait, or BUSY_EXHAUSTED at the 4th (R154). -/
def busyEntry (e : Entry) (s : State) : State :=
  if e.attempts < 4 then
    s.setReq { s.req with
      table := replaceFirst (fun d => d == e)
        (fun d => { d with attempts := d.attempts + 1, state := .retryWait }) s.req.table }
  else finishEntry e .busyExhausted s

/-- A matched ANSWER (R154): a body that does not fit the entry counts as no frame. -/
def answerEntry (e : Entry) (body : List Byte) (s : State) : State :=
  match answerBody body with
  | .done data =>
    match answerData e.kind data with
    | some values => finishEntry e (.done values) s
    | none => s
  | .refused reason => finishEntry e (.refused reason) s
  | .busy => busyEntry e s
  | .misfit => s

/-- An ANSWER on a port: matched to the IN_FLIGHT entry by its sequence byte, else discarded (R154). -/
def takeAnswer (p : PortNo) (seq : Byte) (body : List Byte) (s : State) : State :=
  match s.req.flying p with
  | some e => if e.state = .inFlight seq then answerEntry e body s else s
  | none => s

/-- Expiry of a port's answer timer (R154). -/
def answerTimeout (p : PortNo) (s : State) : State :=
  match s.req.flying p with
  | some e => finishEntry e .noAnswer s
  | none => s

/-! ## Field frames (R164) -/

/-- The bytes that stood for a frame on a port's line: a bad frame leaves no trace; the bytes of a good one are taken
as the frame they spell (R164, log 23). -/
def takeFieldBytes (p : PortNo) (bytes : List Byte) (s : State) : State :=
  match fieldFrame bytes with
  | none => s
  | some (.answer seq body) => takeAnswer p seq body s
  | some (.sample body) => takeSample p body s
  | some (.event seq body) => takeEventBody p seq body s

/-! ## Bypass and restore (R145) -/

/-- PORT_BYPASS (R145). -/
def takePortBypass (port : Nat) (s : State) : Taken :=
  if h : port < 16 then
    let p : PortNo := ⟨port, h⟩
    let old := (s.ports.get p).state
    if !Config.bypassable (Config.portClass p) then refuse .badValue s
    else if old = .bypassed then refuse .already s
    else
      let s := movePort p .bypassed .bypass (modPort p (fun pt => { pt with noAnswer := 0 }) s)
      (s, .ok, u8 old.code ++ u8 (s.ports.get p).state.code)
  else refuse .badValue s

/-- PORT_RESTORE (R145). -/
def takePortRestore (port : Nat) (s : State) : Taken :=
  if h : port < 16 then
    let p : PortNo := ⟨port, h⟩
    match (s.ports.get p).state with
    | .bypassed | .faulted | .refused =>
      let s := modPort p (fun pt => { pt with noAnswer := 0 }) s
      (detect p (movePort p .empty .restore s), .ok, [])
    | .empty | .settling | .powering | .identifying | .ready | .stale => refuse .wrongState s
  else refuse .badValue s

/-! ## Power-on (R147, R177) -/

/-- The part after POWER_ON: every block at its power-on values with the input lines at the levels given, and each
port with a detect line made in SETTLING (R147, R177). The queue of commands, the free value's counter and the
frames already on the lines are the model's own and stand (log 22). -/
def powerUp (estop : Bool) (straps : Vector Straps 16) (s : State) : State :=
  let on : State :=
    { State.powered estop straps with
      hostLine := s.hostLine, fieldLine := s.fieldLine, tick := s.tick, pending := s.pending }
  (List.finRange 16).foldl (fun s p => detect p s) on

end Sys2Proof.Machine
end

