-- ==== Sys2Proof/Machine/Stations.lean ====
section
/-! DEFINITION. The host's requests to stations and its view of a port's outputs (09): STATION_READ, STATION_WRITE,
SAMPLE_OUTPUTS. -/

namespace Sys2Proof.Machine

/-- The number of host-origin entries in the table (R148). -/
def Requests.hostCount (r : Requests) : Nat := (r.table.filter (·.origin == .host)).length

/-- A list of points: 1 to 8 of them, each 0 to 15, none twice (condition 1 of R149). -/
def pointsFit (points : List Nat) : Bool :=
  inRange 1 8 points.length && points.all (· < 16) && points.Nodup

/-- Conditions 2 to 5 of R149, with the reply of the first that fails. -/
def stationTests (tag : Byte) (p : PortNo) (points : List Nat) (s : State) : Option Status :=
  if s.req.table.any (fun e => e.origin == .host && e.tag == some tag) then some .duplicateTag
  else if !(s.req.hostCount < Config.hostCap && s.req.room) then some .tableFull
  else if !s.portUp p then some .portNotReady
  else if !points.all (· < (s.ports.get p).live) then some .badValue
  else none

/-- A host entry is registered, and a write is asked of the Output Image (R149, R159). -/
def registerHost (tag : Byte) (p : PortNo) (k : ReqKind) (s : State) : State :=
  s.setReq (s.req.enter .host (some tag) p k)

/-- STATION_READ (R149). -/
def takeStationRead (tag : Byte) (port : Nat) (points : List Nat) (s : State) : Taken :=
  if h : port < 16 then
    if !pointsFit points then refuse .badValue s
    else
      match stationTests tag ⟨port, h⟩ points s with
      | some st => refuse st s
      | none => (registerHost tag ⟨port, h⟩ (.read points) s, .ok, u32 s.req.nextSeq)
  else refuse .badValue s

/-- STATION_WRITE (R149). -/
def takeStationWrite (tag : Byte) (port : Nat) (pairs : List (Nat × Nat)) (s : State) : Taken :=
  if h : port < 16 then
    if !pairsFit 1 pairs then refuse .badValue s
    else
      match stationTests tag ⟨port, h⟩ (pairs.map (·.1)) s with
      | some st => refuse st s
      | none =>
        if !pairs.all (fun pv => Config.pointOwner ⟨port, h⟩ pv.1 == .free) then refuse .pointOwned s
        else (registerHost tag ⟨port, h⟩ (.write pairs) s, .ok, u32 s.req.nextSeq)
  else refuse .badValue s

/-- A point of a port's Output Image as SAMPLE_OUTPUTS shows it (R162). -/
def pointBytes (p : PortNo) (i : Nat) (pt : Point) : List Byte :=
  u8 (Config.pointOwner p i).code ++ opt u16 pt.commanded ++ opt u16 pt.confirmed ++ u8 pt.state.code

/-- The result data of SAMPLE_OUTPUTS (R162). -/
def outputsData (p : PortNo) (s : State) : List Byte :=
  let pt := s.ports.get p
  u8 pt.state.code ++ opt (fun i => u8 i.points) pt.identity
    ++ (List.finRange 16).flatMap (fun i => pointBytes p i.val (s.req.point p i))
    ++ listOf (fun e => u8 e.origin.code ++ u8 e.kind.code ++ u8 e.state.code ++ u8 e.attempts)
      (s.req.table.filter (·.port == p))

/-- SAMPLE_OUTPUTS (R162). -/
def takeSampleOutputs (port : Nat) (s : State) : Taken :=
  if h : port < 16 then (s, .ok, outputsData ⟨port, h⟩ s) else refuse .badValue s

end Sys2Proof.Machine
end

