-- ==== Sys2Proof/Machine/Status.lean ====
section
/-! DEFINITION. What the host reads of the part (R38, R185, R186): the result data of GET_STATUS, GET_RESTRICTIONS and
GET_QUEUES. Where a section's bytes are not spelled out by the rule it follows, its layout is log 28's. -/

namespace Sys2Proof.Machine

/-! ## The sections of GET_STATUS (R185) -/

/-- A reading: its number and its validity. -/
def readingBytes (r : Reading) : List Byte := u16 r.value ++ flag r.valid

/-- Section Link: the flag before it is cleared, the lengths, the counters (R185). -/
def linkSection (l : Link) : List Byte :=
  flag l.overflow ++ u8 l.reports.length ++ u8 l.replies.length ++ u16 l.lengthErrors ++ u16 l.gapDiscards
    ++ u16 l.crcErrors ++ u16 l.overruns

/-- Section Permit (R185). -/
def permitSection (p : Permit) : List Byte := u8 p.level.code ++ u8 p.deciding.code

/-- Section Advance (R185). -/
def advanceSection (a : Advance) : List Byte :=
  u8 a.state.code ++ u8 a.rReq ++ u8 a.cutter.code ++ u16 a.cutter.speed ++ group readingBytes a.readings
    ++ u16 a.m ++ u16 a.a ++ u16 a.x ++ u8 a.c1 ++ u32 a.c2 ++ u32 a.c3 ++ u16 a.torque
    ++ flag a.geometry.configured
    ++ u32 a.geometry.aF ++ u16 a.geometry.aA ++ u16 a.geometry.width ++ u16 a.geometry.clearance
    ++ u16 a.geometry.strokeLimit
    ++ u16 a.ground.rho ++ u16 a.ground.fill ++ u16 a.ground.voidCap ++ u16 a.fRed ++ u16 a.tWarn

/-- The pressure settings, in the order of SET_PRESSURE. -/
def settingsBytes (p : PSettings) : List Byte := (HostCmd.setPressure p).body

/-- Section Pressure (R53). -/
def pressureSection (u : Pressure) : List Byte :=
  group readingBytes u.readings ++ u16 u.p ++ u8 (if u.held then 1 else 0) ++ settingsBytes u.active
    ++ flag u.waiting.isSome ++ u8 u.setpoint ++ u8 (screwCeil u.active u.muckTold) ++ u8 u.muckTold.code

/-- Section Muck (R71). -/
def muckSection (k : Muck) : List Byte :=
  u32 k.measured ++ u32 k.releasedExp ++ s48 k.e ++ u32 k.vApplied ++ u16 k.active.lT ++ u16 k.active.lOvx
    ++ flag k.waiting.isSome ++ flag k.blind

/-- The timings of a line. -/
def timingBytes (t : Timings) : List Byte := u16 t.tP ++ u16 t.tS ++ u16 t.tW

/-- A grout line, in the order of R94. -/
def lineBytes (l : Line) : List Byte :=
  u8 l.mode.code ++ u8 l.state.code ++ u8 l.weight ++ u16 l.vs ++ u16 l.pLimit ++ u32 l.lag ++ u32 l.backlog
    ++ u16 l.rem ++ u8 l.phase.code ++ timingBytes l.timings ++ opt timingBytes l.staged
    ++ u32 l.ringDelivered ++ u32 l.lifetime

/-- Section Grout: W, and the six lines (R94). -/
def groutSection (lines : Vector Line 6) : List Byte := u16 (trackWeight lines) ++ group lineBytes lines

/-- Section Ring (R113). With no ring open the current ring number and the placed count are 0, with no presence byte
(DESIGN CHOICE, log 28). -/
def ringSection (r : Ring) : List Byte :=
  u8 r.state.code ++ u16 r.number ++ opt (fun rec => u8 rec.key.val) r.current ++ u8 r.placedCount
    ++ nextBytes r.next ++ u16 r.lastNumber ++ u8 r.queue.length

/-- The fields of an active step beside its state (R118). The phase timer is one flag byte, set while it runs (DESIGN
CHOICE, log 28). -/
def stepBytes (st : Step) : List Byte :=
  u8 st.direction.code ++ u8 st.sector.val ++ u8 st.position ++ u8 st.kind.code ++ u32 st.serial
    ++ u8 st.startedBy.code ++ u8 st.action.code ++ opt (fun f => u8 f.code) st.faultedPhase
    ++ opt (fun b => u8 b.code) st.backoutState ++ opt (fun c => u8 c.code) st.cause ++ flag st.timer.isSome

/-- The byte of the step state: IDLE with no step record (R118). -/
def stepCode : Option Step → Nat
  | none => 0
  | some st => st.state.code

/-- Section Build (R132). -/
def buildSection (b : Build) : List Byte :=
  group (fun o => u8 o.code) b.owners ++ group (fun g => u8 g.code) b.groups ++ u8 (stepCode b.step)
    ++ opt stepBytes b.step ++ u8 b.grant.code

/-- An entry of the Port Table (R146). -/
def portBytes (pt : Port) : List Byte :=
  u8 pt.state.code ++ u8 pt.cause.code ++ supplyByte pt.supply ++ strapBytes pt.strapRead
    ++ opt identityBytes pt.identity ++ u8 pt.noAnswer

/-- The number of DIRTY points (R162). -/
def Requests.dirtyCount (r : Requests) : Nat :=
  (r.image.toList.map fun port => (port.toList.filter (·.state == .dirty)).length).sum

/-- Section Requests (R162). The spec states no range for the DIRTY point count; it takes two bytes (DESIGN CHOICE,
log 28). -/
def requestSection (r : Requests) : List Byte :=
  u8 r.table.length ++ u8 r.hostCount ++ u8 r.waits.length ++ u16 r.dirtyCount

/-- The ports whose safe writes are outstanding (R168). -/
def Output.outstandingPorts (o : Output) : List PortNo :=
  (List.finRange 16).filter fun p => o.outstanding.get p

/-- Section Output (R168). -/
def outputSection (o : Output) : List Byte :=
  u8 o.mode.code ++ u8 o.cause.code ++ estopByte o.estop ++ listOf (fun p => u8 p.val) o.outstandingPorts
    ++ group (listOf pairBytes) o.safe ++ u8 o.faults.length

/-- The result data of GET_STATUS (R185). -/
def statusData (s : State) : List Byte :=
  linkSection s.link ++ permitSection s.permit ++ advanceSection s.adv ++ pressureSection s.pres
    ++ muckSection s.muck ++ groutSection s.lines ++ ringSection s.ring ++ buildSection s.build
    ++ group portBytes s.ports ++ requestSection s.req ++ outputSection s.out

/-- GET_STATUS: the overflow flag is carried and cleared (R184, R185). -/
def takeGetStatus (s : State) : Taken := (s.setLink { s.link with overflow := false }, .ok, statusData s)

/-! ## GET_RESTRICTIONS (R38) -/

/-- An entry of the Restriction Table (R38). -/
def restrictionBytes (t : Vector REntry 8) (src : Source) : List Byte :=
  let e := t.get src.idx
  u8 src.code ++ u8 e.level.code ++ u8 (e.cause.code src) ++ u16 e.ring ++ u16 e.x ++ u16 e.raises

/-- GET_RESTRICTIONS (R38). -/
def takeGetRestrictions (s : State) : Taken :=
  (s, .ok, permitSection s.permit ++ Source.all.flatMap (restrictionBytes s.permit.table))

/-! ## GET_QUEUES (R186) -/

/-- A parcel of the Transit Queue. -/
def parcelBytes (p : Parcel) : List Byte := u48 p.mass ++ u32 p.due ++ u16 p.ring

/-- A piece of the Segment Queue. -/
def pieceBytes (p : Piece) : List Byte := u8 p.kind.code ++ u32 p.serial

/-- A request's kind with its points or pairs (R186). -/
def kindBytes (k : ReqKind) : List Byte :=
  u8 k.code ++ (match k with
    | .read points => listOf u8 points
    | .write pairs => listOf pairBytes pairs
    | .action _ => [])

/-- A host-origin entry (R186). -/
def hostEntryBytes (e : Entry) : List Byte :=
  [e.tag.getD 0] ++ u32 e.seqNo ++ u8 e.port.val ++ kindBytes e.kind ++ u8 e.state.code ++ u8 e.attempts

/-- The result data of GET_QUEUES (R186). -/
def queuesData (s : State) : List Byte :=
  listOf parcelBytes s.muck.queue ++ u48 (queuedMass s.muck.queue) ++ u32 s.muck.odometer
    ++ u48 s.muck.generated ++ u48 s.muck.released
    ++ listOf pieceBytes s.ring.queue
    ++ listOf hostEntryBytes (s.req.table.filter (·.origin == .host))

/-- GET_QUEUES (R186). -/
def takeGetQueues (s : State) : Taken := (s, .ok, queuesData s)

end Sys2Proof.Machine
end

