-- ==== Sys2Proof/Machine/Link.lean ====
section
/-! DEFINITION. The Link Unit (11): the receiver, the handing on of commands, replies, and sending. -/

namespace Sys2Proof.Machine

/-! ## Commands handed on (R180, R181) -/

/-- A command as its owner takes it, with the rule the catalogue names (R180). -/
def takeCommand (tag : Byte) (c : HostCmd) (s : State) : Taken :=
  match c with
  | .advanceStart rate => takeAdvanceStart rate s
  | .advanceStop => takeAdvanceStop s
  | .cutterSet speed => takeCutterSet speed s
  | .setGeometry g => takeSetGeometry g s
  | .setGround g => takeSetGround g s
  | .setLimits fRed tWarn => takeSetLimits fRed tWarn s
  | .setPressure p => takeSetPressure p s
  | .setBalance b => takeSetBalance b s
  | .lineRun line mode => takeLineRun line mode s
  | .linePrime line => takeLinePrime line s
  | .lineStop line => takeLineStop line s
  | .lineClear line => takeLineClear line s
  | .setLine line weight vs pLimit lag tP tS tW => takeSetLine line weight vs pLimit lag tP tS tW s
  | .ringOpen number key => takeRingOpen number key s
  | .buildStart => takeBuildStart s
  | .ringClose => takeRingClose s
  | .ringAbandon => takeRingAbandon s
  | .pieceDiscard => takePieceDiscard s
  | .getRing number => takeGetRing number s
  | .placeNext => startStep .host (hostGranted s) s
  | .placeRetry => retryStep (hostGranted s) s
  | .placeBackout => backoutStep (hostGranted s) s
  | .portBypass port => takePortBypass port s
  | .portRestore port => takePortRestore port s
  | .stationRead port points => takeStationRead tag port points s
  | .stationWrite port pairs => takeStationWrite tag port pairs s
  | .sampleOutputs port => takeSampleOutputs port s
  | .clamp => takeClamp s
  | .unclamp => takeUnclamp s
  | .release => takeRelease s
  | .resume => takeResume s
  | .setSafe port pairs => takeSetSafe port pairs s
  | .getFaults => takeGetFaults s
  | .ackFault => takeAckFault s
  | .resetPart => takeResetPart s
  | .getStatus => takeGetStatus s
  | .getRestrictions => takeGetRestrictions s
  | .getQueues => takeGetQueues s

/-- A command taken by its owner, its reply formed (R180, R181). -/
def answerCommand (tag : Byte) (c : HostCmd) (s : State) : State :=
  let t := takeCommand tag c s
  addReply ⟨tag, c.code, t.2.1, t.2.2⟩ t.1

/-- A frame is examined and handed on, or answered by the Link Unit (R180). -/
def handOn (f : HostFrame) (s : State) : State :=
  match hostParse f.kind f.body with
  | .command c => answerCommand f.tag c s
  | .unknown => addReply ⟨f.tag, f.kind, .unknownCommand, []⟩ s
  | .badLength => addReply ⟨f.tag, f.kind, .badLength, []⟩ s

/-- What becomes of a complete frame: handed on, held, or overrun (R180). -/
inductive Passage where
  | taken | held | overrun
  deriving DecidableEq, Repr

/-- The passage of a complete frame through the Link Unit (R180). A reply is formed within its command's event, so the
condition on the command before always holds. -/
def Link.passage (l : Link) : Passage :=
  if l.held.isSome then .overrun
  else if l.replies.length < Config.replyCap then .taken
  else .held

/-- A complete frame waits in the held command slot (R180). -/
def holdFrame (f : HostFrame) (s : State) : State := s.setLink { s.link with held := some f }

/-- A complete frame that finds the held slot occupied is discarded and counted (R180). -/
def overrun (s : State) : State := s.setLink { s.link with overruns := count16 s.link.overruns }

/-- A complete frame from the receiver (R180). -/
def takeFrame (f : HostFrame) (s : State) : State :=
  match s.link.passage with
  | .taken => handOn f s
  | .held => holdFrame f s
  | .overrun => overrun s

/-- A host command given whole, as the row of the opcode table: its frame is complete at the Link Unit (R180, log 5). -/
def receiveCommand (tag : Byte) (c : HostCmd) (s : State) : State :=
  match s.link.passage with
  | .taken => answerCommand tag c s
  | .held => holdFrame (c.frame tag) s
  | .overrun => overrun s

/-- HELD_COMMAND_HANDED_ON: with room in the Reply List the held command leaves its slot and is handed on (R180). -/
def handHeld (s : State) : State :=
  match s.link.held with
  | none => s
  | some f =>
    if s.link.replies.length < Config.replyCap then handOn f (s.setLink { s.link with held := none }) else s

/-! ## Receiving (R179) -/

/-- The receiver takes a state. -/
def setRx (rx : Rx) (s : State) : State := s.setLink { s.link with rx := rx }

/-- A byte examined in HUNT (R179). -/
def huntByte (b : Byte) (s : State) : State := if b = 0xA5 then setRx (.frame []) s else s

/-- The frame that bytes after the start byte spell, when they are all there: length, kind, tag, body, CRC; the last
component says whether the CRC matches (R178, R179). -/
def wholeFrame : List Byte → Option (HostFrame × Bool)
  | len :: kind :: tag :: rest =>
    let n := len.toNat
    if rest.length = n + 2 then
      let body := rest.take n
      some (⟨kind, tag, body⟩, rd (rest.drop n) == (crc16 ([len, kind, tag] ++ body)).toNat)
    else none
  | _ => none

/-- A byte taken in FRAME, after the bytes given (R179). -/
def frameByte (bytes : List Byte) (b : Byte) (s : State) : State :=
  if bytes = [] ∧ 250 < b.toNat then
    s.setLink { s.link with rx := .hunt, lengthErrors := count16 s.link.lengthErrors }
  else
    match wholeFrame (bytes ++ [b]) with
    | none => setRx (.frame (bytes ++ [b])) s
    | some (f, true) => takeFrame f (setRx .hunt s)
    | some (_, false) => s.setLink { s.link with rx := .hunt, crcErrors := count16 s.link.crcErrors }

/-- HOST_BYTE_RECEIVED: a byte, and the time in µs since the byte before it (R179). -/
def hostByte (b : Byte) (gapUs : Nat) (s : State) : State :=
  match s.link.rx with
  | .hunt => huntByte b s
  | .frame bytes =>
    if 5000 < gapUs then
      huntByte b (s.setLink { s.link with rx := .hunt, gapDiscards := count16 s.link.gapDiscards })
    else frameByte bytes b s

/-! ## Sending (R183) -/

/-- Put frames on the host line. -/
def sendHost (frames : List (List Byte)) (s : State) : State := s.setHostLine (s.hostLine ++ frames)

/-- HOST_FRAME_SENT: the oldest reply with all its segments, or else the oldest report, is sent and leaves its list
(R183). -/
def frameSent (s : State) : State :=
  match s.link.replies with
  | r :: rest => sendHost r.frames (s.setLink { s.link with replies := rest })
  | [] =>
    match s.link.reports with
    | r :: rest => sendHost [r.frame] (s.setLink { s.link with reports := rest })
    | [] => s

end Sys2Proof.Machine
end

