-- ==== Sys2Proof/Machine/Events.lean ====
section
/-! DEFINITION. The meanings of the events: power, the host line, the pins, the timers, the Request Unit's own steps,
and the frames of the stations. -/

namespace Sys2Proof.Machine

/-- POWER_ON (R147, R177). -/
def execPowerOn (estop : Bool) (straps : Vector Straps 16) (s : State) : Host.Outcome State Fault Refusal :=
  .next (powerUp estop straps s)

/-- HOST_BYTE_RECEIVED (R179, R180). -/
def execHostByteReceived (byte : Byte) (gapUs : Nat) (s : State) : Host.Outcome State Fault Refusal :=
  .next (hostByte byte gapUs s)

/-- HELD_COMMAND_HANDED_ON (R180). -/
def execHeldCommandHandedOn (s : State) : Host.Outcome State Fault Refusal :=
  .next (handHeld s)

/-- HOST_FRAME_SENT (R183). -/
def execHostFrameSent (s : State) : Host.Outcome State Fault Refusal :=
  .next (frameSent s)

/-- ESTOP_ASSERTED (R167). -/
def execEstopAsserted (s : State) : Host.Outcome State Fault Refusal :=
  .next (estopAssert s)

/-- ESTOP_DEASSERTED (R167). -/
def execEstopDeasserted (s : State) : Host.Outcome State Fault Refusal :=
  .next (estopDeassert s)

/-- STRAP_LINE_CHANGE (R134, R142). -/
def execStrapLineChange (port : PortNo) (line : StrapLine) (level : Bool) (s : State) :
    Host.Outcome State Fault Refusal :=
  .next (strapChange port line level s)

/-- DEBOUNCE_TIMER_EXPIRY (R134, R135). -/
def execDebounceTimerExpiry (port : PortNo) (s : State) : Host.Outcome State Fault Refusal :=
  .next (debounceExpiry port s)

/-- PARTIAL_TIMER_EXPIRY (R134). -/
def execPartialTimerExpiry (port : PortNo) (s : State) : Host.Outcome State Fault Refusal :=
  .next (partialExpiry port s)

/-- SETTLE_TIMER_EXPIRY (R136, R137). -/
def execSettleTimerExpiry (port : PortNo) (s : State) : Host.Outcome State Fault Refusal :=
  .next (settleExpiry port s)

/-- STALE_TIMER_EXPIRY (R140). -/
def execStaleTimerExpiry (port : PortNo) (s : State) : Host.Outcome State Fault Refusal :=
  .next (staleExpiry port s)

/-- FIELD_FRAME_DISCARD (R164). -/
def execFieldFrameDiscard (port : PortNo) (bytes : List Byte) (s : State) :
    Host.Outcome State Fault Refusal :=
  .next (takeFieldBytes port bytes s)

/-- SAMPLE_FRAME (R139). -/
def execSampleFrame (port : PortNo) (body : List Byte) (s : State) : Host.Outcome State Fault Refusal :=
  .next (takeSample port body s)

/-- ANSWER_FRAME (R154). -/
def execAnswerFrame (port : PortNo) (seq : Byte) (body : List Byte) (s : State) :
    Host.Outcome State Fault Refusal :=
  .next (takeAnswer port seq body s)

/-- ANSWER_TIMER_EXPIRY (R154). -/
def execAnswerTimerExpiry (port : PortNo) (s : State) : Host.Outcome State Fault Refusal :=
  .next (answerTimeout port s)

/-- RETRY_WAIT_EXPIRY (R154). -/
def execRetryWaitExpiry (place : Nat) (s : State) : Host.Outcome State Fault Refusal :=
  .next (retryExpiry place s)

/-- TABLE_FILL (R151). -/
def execTableFill (s : State) : Host.Outcome State Fault Refusal :=
  .next (tableFill s)

/-- REQUEST_DISPATCH (R153). -/
def execRequestDispatch (port : PortNo) (s : State) : Host.Outcome State Fault Refusal :=
  .next (dispatch port s)

/-- STROKE_DONE (R80). -/
def execStrokeDone (port : PortNo) (seq : Byte) (line delivered peak : Nat) (s : State) :
    Host.Outcome State Fault Refusal :=
  .next (takeEvent port seq (.strokeDone line delivered peak) s)

/-- STROKE_TIMER_EXPIRY (R82). -/
def execStrokeTimerExpiry (line : LineNo) (s : State) : Host.Outcome State Fault Refusal :=
  .next (strokeTimeout line s)

/-- PULSE_DELIVERY_TIMER_EXPIRY (R84). -/
def execPulseDeliveryTimerExpiry (line : LineNo) (s : State) : Host.Outcome State Fault Refusal :=
  .next (pulsePause line s)

/-- PULSE_PAUSE_TIMER_EXPIRY (R84). -/
def execPulsePauseTimerExpiry (line : LineNo) (s : State) : Host.Outcome State Fault Refusal :=
  .next (pulseDeliver line s)

/-- PRIME_TIMER_EXPIRY (R85). -/
def execPrimeTimerExpiry (line : LineNo) (s : State) : Host.Outcome State Fault Refusal :=
  .next (primeExpiry line s)

/-- RETRACTED (R122). -/
def execRetracted (port : PortNo) (seq : Byte) (sector : Nat) (s : State) :
    Host.Outcome State Fault Refusal :=
  .next (takeEvent port seq (.retracted sector) s)

/-- PLACED (R122). -/
def execPlaced (port : PortNo) (seq : Byte) (serial : Nat) (s : State) : Host.Outcome State Fault Refusal :=
  .next (takeEvent port seq (.placed serial) s)

/-- RETURNED (R122). -/
def execReturned (port : PortNo) (seq : Byte) (s : State) : Host.Outcome State Fault Refusal :=
  .next (takeEvent port seq .returned s)

/-- HOLDING (R122). -/
def execHolding (port : PortNo) (seq : Byte) (sector : Nat) (s : State) : Host.Outcome State Fault Refusal :=
  .next (takeEvent port seq (.holding sector) s)

/-- PHASE_TIMER_EXPIRY (R123). -/
def execPhaseTimerExpiry (s : State) : Host.Outcome State Fault Refusal :=
  .next (phaseTimeout s)

/-- PIECE_ARRIVED (R110). -/
def execPieceArrived (port : PortNo) (seq : Byte) (kind serial : Nat) (s : State) :
    Host.Outcome State Fault Refusal :=
  .next (takeEvent port seq (.pieceArrived kind serial) s)

/-- LOCAL_REQUEST (R128). -/
def execLocalRequest (port : PortNo) (seq : Byte) (s : State) : Host.Outcome State Fault Refusal :=
  .next (takeEvent port seq .localRequest s)

/-- LOCAL_RELEASE (R130). -/
def execLocalRelease (port : PortNo) (seq : Byte) (s : State) : Host.Outcome State Fault Refusal :=
  .next (takeEvent port seq .localRelease s)

/-- PLACE_REQUEST (R129). -/
def execPlaceRequest (port : PortNo) (seq : Byte) (s : State) : Host.Outcome State Fault Refusal :=
  .next (takeEvent port seq .placeRequest s)

/-- RETRY_REQUEST (R129). -/
def execRetryRequest (port : PortNo) (seq : Byte) (s : State) : Host.Outcome State Fault Refusal :=
  .next (takeEvent port seq .retryRequest s)

/-- BACKOUT_REQUEST (R129). -/
def execBackoutRequest (port : PortNo) (seq : Byte) (s : State) : Host.Outcome State Fault Refusal :=
  .next (takeEvent port seq .backoutRequest s)

end Sys2Proof.Machine
end

