-- ==== Sys2Proof/Machine/HostCommands.lean ====
section
/-! DEFINITION. The meanings of the host's commands (11's catalogue): each is one complete frame at the Link Unit,
handed on to its owner, held, or overrun (R180, log 5). -/

namespace Sys2Proof.Machine

/-- ADVANCE_START (R15). -/
def execAdvanceStart (tag : Byte) (rate : Nat) (s : State) : Host.Outcome State Fault Refusal :=
  .next (receiveCommand tag (.advanceStart rate) s)

/-- ADVANCE_STOP (R16). -/
def execAdvanceStop (tag : Byte) (s : State) : Host.Outcome State Fault Refusal :=
  .next (receiveCommand tag .advanceStop s)

/-- CUTTER_SET (R21). -/
def execCutterSet (tag : Byte) (speed : Nat) (s : State) : Host.Outcome State Fault Refusal :=
  .next (receiveCommand tag (.cutterSet speed) s)

/-- SET_GEOMETRY (R23). -/
def execSetGeometry (tag : Byte) (aF aA width clearance strokeLimit : Nat) (s : State) :
    Host.Outcome State Fault Refusal :=
  .next (receiveCommand tag (.setGeometry ⟨aF, aA, width, clearance, strokeLimit⟩) s)

/-- SET_GROUND (R24). -/
def execSetGround (tag : Byte) (rho fill voidCap : Nat) (s : State) : Host.Outcome State Fault Refusal :=
  .next (receiveCommand tag (.setGround ⟨rho, fill, voidCap⟩) s)

/-- SET_LIMITS (R25). -/
def execSetLimits (tag : Byte) (fRed tWarn : Nat) (s : State) : Host.Outcome State Fault Refusal :=
  .next (receiveCommand tag (.setLimits fRed tWarn) s)

/-- SET_PRESSURE (R51). -/
def execSetPressure (tag : Byte) (pSet bS bH gain rate sMin sMax dOvx : Nat) (s : State) :
    Host.Outcome State Fault Refusal :=
  .next (receiveCommand tag (.setPressure ⟨pSet, bS, bH, gain, rate, sMin, sMax, dOvx⟩) s)

/-- SET_BALANCE (R68). -/
def execSetBalance (tag : Byte) (lT lOvx : Nat) (s : State) : Host.Outcome State Fault Refusal :=
  .next (receiveCommand tag (.setBalance ⟨lT, lOvx⟩) s)

/-- LINE_RUN (R83). -/
def execLineRun (tag : Byte) (line mode : Nat) (s : State) : Host.Outcome State Fault Refusal :=
  .next (receiveCommand tag (.lineRun line mode) s)

/-- LINE_PRIME (R85). -/
def execLinePrime (tag : Byte) (line : Nat) (s : State) : Host.Outcome State Fault Refusal :=
  .next (receiveCommand tag (.linePrime line) s)

/-- LINE_STOP (R86). -/
def execLineStop (tag : Byte) (line : Nat) (s : State) : Host.Outcome State Fault Refusal :=
  .next (receiveCommand tag (.lineStop line) s)

/-- LINE_CLEAR (R87). -/
def execLineClear (tag : Byte) (line : Nat) (s : State) : Host.Outcome State Fault Refusal :=
  .next (receiveCommand tag (.lineClear line) s)

/-- SET_LINE (R88). -/
def execSetLine (tag : Byte) (line weight vs pLimit lag tP tS tW : Nat) (s : State) :
    Host.Outcome State Fault Refusal :=
  .next (receiveCommand tag (.setLine line weight vs pLimit lag tP tS tW) s)

/-- RING_OPEN (R98, R99). -/
def execRingOpen (tag : Byte) (number key : Nat) (s : State) : Host.Outcome State Fault Refusal :=
  .next (receiveCommand tag (.ringOpen number key) s)

/-- BUILD_START (R101). -/
def execBuildStart (tag : Byte) (s : State) : Host.Outcome State Fault Refusal :=
  .next (receiveCommand tag .buildStart s)

/-- RING_CLOSE (R102). -/
def execRingClose (tag : Byte) (s : State) : Host.Outcome State Fault Refusal :=
  .next (receiveCommand tag .ringClose s)

/-- RING_ABANDON (R103). -/
def execRingAbandon (tag : Byte) (s : State) : Host.Outcome State Fault Refusal :=
  .next (receiveCommand tag .ringAbandon s)

/-- PIECE_DISCARD (R112). -/
def execPieceDiscard (tag : Byte) (s : State) : Host.Outcome State Fault Refusal :=
  .next (receiveCommand tag .pieceDiscard s)

/-- GET_RING (R108). -/
def execGetRing (tag : Byte) (number : Nat) (s : State) : Host.Outcome State Fault Refusal :=
  .next (receiveCommand tag (.getRing number) s)

/-- PLACE_NEXT (R119). -/
def execPlaceNext (tag : Byte) (s : State) : Host.Outcome State Fault Refusal :=
  .next (receiveCommand tag .placeNext s)

/-- PLACE_RETRY (R126). -/
def execPlaceRetry (tag : Byte) (s : State) : Host.Outcome State Fault Refusal :=
  .next (receiveCommand tag .placeRetry s)

/-- PLACE_BACKOUT (R127). -/
def execPlaceBackout (tag : Byte) (s : State) : Host.Outcome State Fault Refusal :=
  .next (receiveCommand tag .placeBackout s)

/-- PORT_BYPASS (R145). -/
def execPortBypass (tag : Byte) (port : Nat) (s : State) : Host.Outcome State Fault Refusal :=
  .next (receiveCommand tag (.portBypass port) s)

/-- PORT_RESTORE (R145). -/
def execPortRestore (tag : Byte) (port : Nat) (s : State) : Host.Outcome State Fault Refusal :=
  .next (receiveCommand tag (.portRestore port) s)

/-- STATION_READ (R149). -/
def execStationRead (tag : Byte) (port : Nat) (points : List Nat) (s : State) :
    Host.Outcome State Fault Refusal :=
  .next (receiveCommand tag (.stationRead port points) s)

/-- STATION_WRITE (R149). -/
def execStationWrite (tag : Byte) (port : Nat) (pairs : List (Nat × Nat)) (s : State) :
    Host.Outcome State Fault Refusal :=
  .next (receiveCommand tag (.stationWrite port pairs) s)

/-- SAMPLE_OUTPUTS (R162). -/
def execSampleOutputs (tag : Byte) (port : Nat) (s : State) : Host.Outcome State Fault Refusal :=
  .next (receiveCommand tag (.sampleOutputs port) s)

/-- CLAMP (R168). -/
def execClamp (tag : Byte) (s : State) : Host.Outcome State Fault Refusal :=
  .next (receiveCommand tag .clamp s)

/-- UNCLAMP (R168, R172). -/
def execUnclamp (tag : Byte) (s : State) : Host.Outcome State Fault Refusal :=
  .next (receiveCommand tag .unclamp s)

/-- RELEASE (R168, R171). -/
def execRelease (tag : Byte) (s : State) : Host.Outcome State Fault Refusal :=
  .next (receiveCommand tag .release s)

/-- RESUME (R168). -/
def execResume (tag : Byte) (s : State) : Host.Outcome State Fault Refusal :=
  .next (receiveCommand tag .resume s)

/-- SET_SAFE (R166). -/
def execSetSafe (tag : Byte) (port : Nat) (pairs : List (Nat × Nat)) (s : State) :
    Host.Outcome State Fault Refusal :=
  .next (receiveCommand tag (.setSafe port pairs) s)

/-- GET_FAULTS (R175). -/
def execGetFaults (tag : Byte) (s : State) : Host.Outcome State Fault Refusal :=
  .next (receiveCommand tag .getFaults s)

/-- ACK_FAULT (R175). -/
def execAckFault (tag : Byte) (s : State) : Host.Outcome State Fault Refusal :=
  .next (receiveCommand tag .ackFault s)

/-- RESET_PART (R176). -/
def execResetPart (tag : Byte) (s : State) : Host.Outcome State Fault Refusal :=
  .next (receiveCommand tag .resetPart s)

/-- GET_STATUS (R185). -/
def execGetStatus (tag : Byte) (s : State) : Host.Outcome State Fault Refusal :=
  .next (receiveCommand tag .getStatus s)

/-- GET_RESTRICTIONS (R38). -/
def execGetRestrictions (tag : Byte) (s : State) : Host.Outcome State Fault Refusal :=
  .next (receiveCommand tag .getRestrictions s)

/-- GET_QUEUES (R186). -/
def execGetQueues (tag : Byte) (s : State) : Host.Outcome State Fault Refusal :=
  .next (receiveCommand tag .getQueues s)

end Sys2Proof.Machine
end

