-- ==== Sys2Proof/Machine/Dispatch.lean ====
section
/-! DEFINITION. The meaning of each command: one arm per constructor of Instr. -/

namespace Sys2Proof.Machine

def exec (i : Instr) (s : State) : Host.Outcome State Fault Refusal :=
  match i with
  | .powerOn estop straps => Sys2Proof.Machine.execPowerOn estop straps s
  | .hostByteReceived byte gapUs => Sys2Proof.Machine.execHostByteReceived byte gapUs s
  | .heldCommandHandedOn => Sys2Proof.Machine.execHeldCommandHandedOn s
  | .hostFrameSent => Sys2Proof.Machine.execHostFrameSent s
  | .advanceStart tag rate => Sys2Proof.Machine.execAdvanceStart tag rate s
  | .advanceStop tag => Sys2Proof.Machine.execAdvanceStop tag s
  | .cutterSet tag speed => Sys2Proof.Machine.execCutterSet tag speed s
  | .setGeometry tag aF aA width clearance strokeLimit => Sys2Proof.Machine.execSetGeometry tag aF aA width clearance strokeLimit s
  | .setGround tag rho fill voidCap => Sys2Proof.Machine.execSetGround tag rho fill voidCap s
  | .setLimits tag fRed tWarn => Sys2Proof.Machine.execSetLimits tag fRed tWarn s
  | .setPressure tag pSet bS bH gain rate sMin sMax dOvx => Sys2Proof.Machine.execSetPressure tag pSet bS bH gain rate sMin sMax dOvx s
  | .setBalance tag lT lOvx => Sys2Proof.Machine.execSetBalance tag lT lOvx s
  | .lineRun tag line mode => Sys2Proof.Machine.execLineRun tag line mode s
  | .linePrime tag line => Sys2Proof.Machine.execLinePrime tag line s
  | .lineStop tag line => Sys2Proof.Machine.execLineStop tag line s
  | .lineClear tag line => Sys2Proof.Machine.execLineClear tag line s
  | .setLine tag line weight vs pLimit lag tP tS tW => Sys2Proof.Machine.execSetLine tag line weight vs pLimit lag tP tS tW s
  | .ringOpen tag number key => Sys2Proof.Machine.execRingOpen tag number key s
  | .buildStart tag => Sys2Proof.Machine.execBuildStart tag s
  | .ringClose tag => Sys2Proof.Machine.execRingClose tag s
  | .ringAbandon tag => Sys2Proof.Machine.execRingAbandon tag s
  | .pieceDiscard tag => Sys2Proof.Machine.execPieceDiscard tag s
  | .getRing tag number => Sys2Proof.Machine.execGetRing tag number s
  | .placeNext tag => Sys2Proof.Machine.execPlaceNext tag s
  | .placeRetry tag => Sys2Proof.Machine.execPlaceRetry tag s
  | .placeBackout tag => Sys2Proof.Machine.execPlaceBackout tag s
  | .portBypass tag port => Sys2Proof.Machine.execPortBypass tag port s
  | .portRestore tag port => Sys2Proof.Machine.execPortRestore tag port s
  | .stationRead tag port points => Sys2Proof.Machine.execStationRead tag port points s
  | .stationWrite tag port pairs => Sys2Proof.Machine.execStationWrite tag port pairs s
  | .sampleOutputs tag port => Sys2Proof.Machine.execSampleOutputs tag port s
  | .clamp tag => Sys2Proof.Machine.execClamp tag s
  | .unclamp tag => Sys2Proof.Machine.execUnclamp tag s
  | .release tag => Sys2Proof.Machine.execRelease tag s
  | .resume tag => Sys2Proof.Machine.execResume tag s
  | .setSafe tag port pairs => Sys2Proof.Machine.execSetSafe tag port pairs s
  | .getFaults tag => Sys2Proof.Machine.execGetFaults tag s
  | .ackFault tag => Sys2Proof.Machine.execAckFault tag s
  | .resetPart tag => Sys2Proof.Machine.execResetPart tag s
  | .getStatus tag => Sys2Proof.Machine.execGetStatus tag s
  | .getRestrictions tag => Sys2Proof.Machine.execGetRestrictions tag s
  | .getQueues tag => Sys2Proof.Machine.execGetQueues tag s
  | .estopAsserted => Sys2Proof.Machine.execEstopAsserted s
  | .estopDeasserted => Sys2Proof.Machine.execEstopDeasserted s
  | .strapLineChange port line level => Sys2Proof.Machine.execStrapLineChange port line level s
  | .debounceTimerExpiry port => Sys2Proof.Machine.execDebounceTimerExpiry port s
  | .partialTimerExpiry port => Sys2Proof.Machine.execPartialTimerExpiry port s
  | .settleTimerExpiry port => Sys2Proof.Machine.execSettleTimerExpiry port s
  | .staleTimerExpiry port => Sys2Proof.Machine.execStaleTimerExpiry port s
  | .fieldFrameDiscard port bytes => Sys2Proof.Machine.execFieldFrameDiscard port bytes s
  | .sampleFrame port body => Sys2Proof.Machine.execSampleFrame port body s
  | .answerFrame port seq body => Sys2Proof.Machine.execAnswerFrame port seq body s
  | .answerTimerExpiry port => Sys2Proof.Machine.execAnswerTimerExpiry port s
  | .retryWaitExpiry place => Sys2Proof.Machine.execRetryWaitExpiry place s
  | .tableFill => Sys2Proof.Machine.execTableFill s
  | .requestDispatch port => Sys2Proof.Machine.execRequestDispatch port s
  | .strokeDone port seq line delivered peak => Sys2Proof.Machine.execStrokeDone port seq line delivered peak s
  | .strokeTimerExpiry line => Sys2Proof.Machine.execStrokeTimerExpiry line s
  | .pulseDeliveryTimerExpiry line => Sys2Proof.Machine.execPulseDeliveryTimerExpiry line s
  | .pulsePauseTimerExpiry line => Sys2Proof.Machine.execPulsePauseTimerExpiry line s
  | .primeTimerExpiry line => Sys2Proof.Machine.execPrimeTimerExpiry line s
  | .retracted port seq sector => Sys2Proof.Machine.execRetracted port seq sector s
  | .placed port seq serial => Sys2Proof.Machine.execPlaced port seq serial s
  | .returned port seq => Sys2Proof.Machine.execReturned port seq s
  | .holding port seq sector => Sys2Proof.Machine.execHolding port seq sector s
  | .phaseTimerExpiry => Sys2Proof.Machine.execPhaseTimerExpiry s
  | .pieceArrived port seq kind serial => Sys2Proof.Machine.execPieceArrived port seq kind serial s
  | .localRequest port seq => Sys2Proof.Machine.execLocalRequest port seq s
  | .localRelease port seq => Sys2Proof.Machine.execLocalRelease port seq s
  | .placeRequest port seq => Sys2Proof.Machine.execPlaceRequest port seq s
  | .retryRequest port seq => Sys2Proof.Machine.execRetryRequest port seq s
  | .backoutRequest port seq => Sys2Proof.Machine.execBackoutRequest port seq s

end Sys2Proof.Machine
end

