-- ==== Sys2Proof/Safety.lean ====
section
/-! DEFINITION. The laws the spec states about the part's state in so many words, and the words the statements are
made of: which rows are host commands, when a host command is taken at once, what a reply adds. -/

namespace Sys2Proof.Machine

/-! ## Laws -/

/-- The permit is the highest level of the table, and the deciding source the lowest-numbered entry that holds it
(R29). -/
def permitDerived (p : Permit) : Prop :=
  p.level = highest p.table ∧ p.deciding = decidingSource p.table p.level

/-- Each queue and list is within its capacity (R181, R184, R148, R55, R107, R109, R173). -/
structure WithinCapacity (s : State) : Prop where
  replies : s.link.replies.length ≤ Config.replyCap
  reports : s.link.reports.length ≤ Config.reportCap
  table : s.req.table.length ≤ Config.tableCap
  transit : s.muck.queue.length ≤ Config.transitCap
  history : s.ring.history.length ≤ Config.historyCap
  segments : s.ring.queue.length ≤ Config.segmentCap
  faults : s.out.faults.length ≤ Config.faultCap

/-- The law of the transit: generated equals released plus queued (R57). -/
def transitBalanced (k : Muck) : Prop := k.generated = k.released + queuedMass k.queue

/-- The law of the Request Table beside its capacity: at most 24 host entries, no two of them with one tag, at most one
entry on the line of a port, and a tag present for origin HOST only (R148); what waits for room is internal (R150). -/
structure TableLaw (r : Requests) : Prop where
  tagged : ∀ e ∈ r.table, e.tag.isSome = true ↔ e.origin = .host
  hosts : r.hostCount ≤ Config.hostCap
  tags : ((r.table.filter (·.origin == .host)).map (·.tag)).Nodup
  lines : ∀ p : PortNo, (r.table.filter fun e => e.port == p && e.state.onLine).length ≤ 1
  waits : ∀ w ∈ r.waits, w.origin ≠ .host

/-- The screw setpoint is 0 whenever the advance is not BORING (R49). -/
def screwAtRest (s : State) : Prop := s.adv.state = .boring ∨ s.pres.setpoint = 0

/-- The advance is BORING or HELD. -/
def AdvState.active : AdvState → Bool
  | .boring | .held => true
  | .idle | .strokeComplete => false

/-- No line is in a running state (R73). -/
def linesRest (lines : Vector Line 6) : Prop := ∀ i, (lines.get i).state.running = false

/-- A line outside the running states runs no timer (R84, R85). -/
def timersHeld (lines : Vector Line 6) : Prop :=
  ∀ i, (lines.get i).state.running = true ∨ (lines.get i).timer = none

/-- No placement step is in a running state (R118). -/
def stepRest (b : Build) : Prop := ∀ st, b.step = some st → st.state.running = false

/-- The law of the advance state (R14): BORING only while the permit is below HOLD, the ring BORING, the mode NORMAL and
the cutter TURNING; with the Advance Unit's copy of the permit, told at each change (R30). -/
structure BoringLaw (s : State) : Prop where
  copy : s.adv.permitCopy = s.permit.level
  permit : s.adv.state = .boring → s.permit.level.rank < Level.rank .hold
  ring : s.adv.state = .boring → s.ring.state = .boring
  mode : s.adv.state = .boring → s.out.mode = .normal
  cutter : s.adv.state = .boring → s.adv.cutter ≠ .stopped

/-- The law of the clamp (R171), for every mode but NORMAL, with the timers that only running lines have, the cutter that
the entry stopped (R18) and the grant that it ended (R130); the mode is CLAMPING exactly while a safe write is
outstanding (R169, R170). -/
structure ClampLaw (s : State) : Prop where
  timers : timersHeld s.lines
  clamping : s.out.mode = .clamping ↔ ∃ p, s.out.outstanding.get p = true
  adv : s.out.mode ≠ .normal → s.adv.state.active = false
  lines : s.out.mode ≠ .normal → linesRest s.lines
  step : s.out.mode ≠ .normal → stepRest s.build
  cutter : s.out.mode ≠ .normal → s.adv.cutter = .stopped
  grant : s.out.mode ≠ .normal → s.build.grant = .free

/-- The law of the sectors (R116): no step outside a BUILDING ring, the owner BUILD for the sector of the one step record
alone, and every group of a sector with no owner in PUSH or HOLD; in HOLD outside NORMAL (R117). -/
structure BuildLaw (s : State) : Prop where
  idle : s.ring.state ≠ .building → s.build.step = none
  owned : ∀ sec, s.build.owners.get sec = .build ↔ ∃ st, s.build.step = some st ∧ st.sector = sec
  modes : ∀ g, s.build.owners.get (sectorOf g) = .none → s.build.groups.get g = .push ∨ s.build.groups.get g = .hold
  held : s.out.mode ≠ .normal → ∀ g, s.build.owners.get (sectorOf g) = .none → s.build.groups.get g = .hold

/-- The law of the backlogs: no backlog exceeds 16 strokes (R76). -/
def backlogBounded (lines : Vector Line 6) : Prop := ∀ i, (lines.get i).backlog ≤ 16 * (lines.get i).vs

/-- The law of the Segment Queue: its serials are distinct, and none is in the current record's placed list (R109). -/
structure SegmentLaw (u : Ring) : Prop where
  distinct : (u.queue.map (·.serial)).Nodup
  apart : ∀ r, u.current = some r → ∀ piece ∈ u.queue, ∀ e ∈ r.placed, e.serial ≠ piece.serial

/-- A current record exists exactly while a ring is open, and outside BORING the advance is IDLE (R96, R12, R13,
R14). -/
structure RingLaw (s : State) : Prop where
  current : s.ring.current.isSome = true ↔ s.ring.state ≠ .none
  advance : s.ring.state ≠ .boring → s.adv.state = .idle

/-- The laws of the accounted distance: while the ring is BORING and the stroke is not complete X is below W_r, and X never
exceeds W_r + 499 (R10); the record holds X, and 100 × its excavated volume + c1 is A_f × X (R6). A ring is open only on
a geometry in its ranges (R23, R98). -/
structure StrokeLaw (s : State) : Prop where
  fits : s.adv.geometry.configured = true → s.adv.geometry.inRanges = true
  configured : s.ring.state ≠ .none → s.adv.geometry.configured = true
  short : s.ring.state = .boring → s.adv.state ≠ .strokeComplete → s.adv.x < s.adv.geometry.wR
  bound : s.ring.state ≠ .none → s.adv.x ≤ s.adv.geometry.wR + 499
  distance : ∀ r, s.ring.current = some r → r.x = s.adv.x
  volume : ∀ r, s.ring.current = some r → 100 * r.volume + s.adv.c1 = s.adv.geometry.aF * s.adv.x

/-- The law of the output restriction: outside NORMAL the OUTPUT entry is STOP and so is the permit (R34). -/
def OutputStops (s : State) : Prop :=
  s.out.mode ≠ .normal → (s.permit.table.get Source.output.idx).level = .stop ∧ s.permit.level = .stop

/-! ## Words of the statements -/

/-- The tag and the command of a row that is a host command. -/
def hostRow : Instr → Option (Byte × HostCmd)
  | .advanceStart tag rate => some (tag, .advanceStart rate)
  | .advanceStop tag => some (tag, .advanceStop)
  | .cutterSet tag speed => some (tag, .cutterSet speed)
  | .setGeometry tag aF aA width clearance strokeLimit =>
    some (tag, .setGeometry ⟨aF, aA, width, clearance, strokeLimit⟩)
  | .setGround tag rho fill voidCap => some (tag, .setGround ⟨rho, fill, voidCap⟩)
  | .setLimits tag fRed tWarn => some (tag, .setLimits fRed tWarn)
  | .setPressure tag pSet bS bH gain rate sMin sMax dOvx =>
    some (tag, .setPressure ⟨pSet, bS, bH, gain, rate, sMin, sMax, dOvx⟩)
  | .setBalance tag lT lOvx => some (tag, .setBalance ⟨lT, lOvx⟩)
  | .lineRun tag line mode => some (tag, .lineRun line mode)
  | .linePrime tag line => some (tag, .linePrime line)
  | .lineStop tag line => some (tag, .lineStop line)
  | .lineClear tag line => some (tag, .lineClear line)
  | .setLine tag line weight vs pLimit lag tP tS tW =>
    some (tag, .setLine line weight vs pLimit lag tP tS tW)
  | .ringOpen tag number key => some (tag, .ringOpen number key)
  | .buildStart tag => some (tag, .buildStart)
  | .ringClose tag => some (tag, .ringClose)
  | .ringAbandon tag => some (tag, .ringAbandon)
  | .pieceDiscard tag => some (tag, .pieceDiscard)
  | .getRing tag number => some (tag, .getRing number)
  | .placeNext tag => some (tag, .placeNext)
  | .placeRetry tag => some (tag, .placeRetry)
  | .placeBackout tag => some (tag, .placeBackout)
  | .portBypass tag port => some (tag, .portBypass port)
  | .portRestore tag port => some (tag, .portRestore port)
  | .stationRead tag port points => some (tag, .stationRead port points)
  | .stationWrite tag port pairs => some (tag, .stationWrite port pairs)
  | .sampleOutputs tag port => some (tag, .sampleOutputs port)
  | .clamp tag => some (tag, .clamp)
  | .unclamp tag => some (tag, .unclamp)
  | .release tag => some (tag, .release)
  | .resume tag => some (tag, .resume)
  | .setSafe tag port pairs => some (tag, .setSafe port pairs)
  | .getFaults tag => some (tag, .getFaults)
  | .ackFault tag => some (tag, .ackFault)
  | .resetPart tag => some (tag, .resetPart)
  | .getStatus tag => some (tag, .getStatus)
  | .getRestrictions tag => some (tag, .getRestrictions)
  | .getQueues tag => some (tag, .getQueues)
  | _ => none

/-- A complete frame is handed on at once: the held slot is empty and the Reply List has room (R180). -/
abbrev handsOn (s : State) : Prop := s.link.held = none ∧ s.link.replies.length < Config.replyCap

/-- t with a reply added to its Reply List (R181). -/
def withReply (tag code : Byte) (st : Status) (data : List Byte) (t : State) : State :=
  addReply ⟨tag, code, st, data⟩ t

/-- The units of State, by name. -/
inductive Part where
  | link | adv | permit | pres | muck | lines | ring | build | ports | req | out | hostLine | fieldLine | tick
  | pending
  deriving DecidableEq, Repr

/-- s and t agree on a unit. -/
def Part.same (s t : State) : Part → Prop
  | .link => t.link = s.link
  | .adv => t.adv = s.adv
  | .permit => t.permit = s.permit
  | .pres => t.pres = s.pres
  | .muck => t.muck = s.muck
  | .lines => t.lines = s.lines
  | .ring => t.ring = s.ring
  | .build => t.build = s.build
  | .ports => t.ports = s.ports
  | .req => t.req = s.req
  | .out => t.out = s.out
  | .hostLine => t.hostLine = s.hostLine
  | .fieldLine => t.fieldLine = s.fieldLine
  | .tick => t.tick = s.tick
  | .pending => t.pending = s.pending

/-- The frame: s and t agree on every unit but those listed. -/
def AgreeBut (ps : List Part) (s t : State) : Prop := ∀ p, p ∉ ps → Part.same s t p

/-- The Link Unit keeps its receiver, its held slot and its counters, and reports are only added (R184). -/
structure LinkGrown (s t : State) : Prop where
  rx : t.link.rx = s.link.rx
  held : t.link.held = s.link.held
  lengthErrors : t.link.lengthErrors = s.link.lengthErrors
  gapDiscards : t.link.gapDiscards = s.link.gapDiscards
  crcErrors : t.link.crcErrors = s.link.crcErrors
  overruns : t.link.overruns = s.link.overruns
  reports : s.link.reports <+: t.link.reports
  overflow : s.link.overflow = true → t.link.overflow = true

/-- A host command was answered: one reply was added with the tag, code, status and data given (R181), and no unit
changed but the Link Unit's queues and the units listed. -/
structure Answered (ps : List Part) (s t : State) (tag code : Byte) (st : Status) (data : List Byte) : Prop where
  replies : t.link.replies = s.link.replies ++ [⟨tag, code, st, data⟩]
  link : LinkGrown s t
  frame : AgreeBut (.link :: ps) s t

/-- An event was taken: no reply was added, and no unit changed but the Report Queue and the units listed. -/
structure Acted (ps : List Part) (s t : State) : Prop where
  replies : t.link.replies = s.link.replies
  link : LinkGrown s t
  frame : AgreeBut (.link :: ps) s t

/-- The units a write to the Restriction Table can reach through the tellings of R30 and R35, beside the Report
Queue. -/
def permitReach : List Part := [.permit, .adv, .pres, .ring, .build, .req]

/-- The units that a change of a port's state, or an outcome at its owner, can reach through its tellings (R143). -/
def portReach : List Part := [.muck, .lines, .ports, .out, .tick] ++ permitReach

/-- The report stands in the Report Queue, or was dropped with the overflow flag set (R184). -/
def Reported (r : Report) (t : State) : Prop := r ∈ t.link.reports ∨ t.link.overflow = true

/-- The fault record is in the Fault List, or the list was full and FAULT_BACKLOG stands at HOLD (R174). -/
def Recorded (f : FaultRec) (t : State) : Prop :=
  f ∈ t.out.faults ∨ (t.permit.table.get Source.faultBacklog.idx).level = .hold

/-- The one fault record between s and t: stored and reported with room in the list, else FAULT_BACKLOG at HOLD (R174). -/
structure FaultAdded (f : FaultRec) (s t : State) : Prop where
  stored : s.out.faults.length < 8 → t.out.faults = s.out.faults ++ [f]
  told : s.out.faults.length < 8 → Reported (.fault f (s.out.faults.length + 1)) t
  full : 8 ≤ s.out.faults.length → t.out.faults = s.out.faults
    ∧ (t.permit.table.get Source.faultBacklog.idx).level = .hold

/-- A safe write of these pairs was asked for the port: it stands in the table or waits (R169). -/
def SafeAsked (p : PortNo) (pairs : List (Nat × Nat)) (t : State) : Prop :=
  (∃ e ∈ t.req.table, e.origin = .safe ∧ e.port = p ∧ e.kind = .write pairs) ∨
    ⟨.safe, p, .write pairs⟩ ∈ t.req.waits

/-- The points of the pairs have the pairs' values as commanded values: PENDING with the safe write in the table, DIRTY
while it waits (R159, R169). -/
def SafeCommanded (p : PortNo) (pairs : List (Nat × Nat)) (t : State) : Prop :=
  let points := fun (state : PointState) => ∀ (i : Fin 16) (v : Nat), (i.val, v) ∈ pairs →
    (t.req.point p i).commanded = some v ∧ (t.req.point p i).state = state
  ((∃ e ∈ t.req.table, e.origin = .safe ∧ e.port = p ∧ e.kind = .write pairs) ∧ points .pending)
    ∨ (⟨.safe, p, .write pairs⟩ ∈ t.req.waits ∧ points .dirty)

/-- Every point the Advance Unit commands, but the mode points of owned sectors, has its setpoint as commanded value
(R19, R20). -/
def SetpointsHeld (t : State) : Prop :=
  ∀ x ∈ targets t.adv, (∀ g, x.groupOf = some g → t.build.owners.get (sectorOf g) = .none) →
    (t.req.point x.port x.point).commanded = some x.value

/-- The action of the step's phase has been asked of the Request Unit: registered with its timer started, or waiting
for room with none (R120). -/
def PhaseIssued (st : Step) (t : State) : Prop :=
  (∃ n, t.build.step = some { st with action := .requested n, timer := some (phaseTime st.state) } ∧
      ⟨.build, none, phasePort st.state st.sector, .action (phaseAction st), .queued, 1, n⟩ ∈ t.req.table) ∨
    (t.build.step = some { st with action := .pending, timer := none } ∧
      ⟨.build, phasePort st.state st.sector, .action (phaseAction st)⟩ ∈ t.req.waits)

/-- The stroke of a line has been asked of the Request Unit: registered, or waiting for room (R78). -/
def StrokeIssued (i : LineNo) (t : State) : Prop :=
  (∃ n, (t.line i).phase = .requested n ∧
      ⟨.grout, none, pumpPort i, .action (.stroke i (t.line i).vs), .queued, 1, n⟩ ∈ t.req.table) ∨
    ((t.line i).phase = .pending ∧ ⟨.grout, pumpPort i, .action (.stroke i (t.line i).vs)⟩ ∈ t.req.waits)

/-- The jobs stand stopped (R169, R171): the advance neither BORING nor HELD, the cutter STOPPED, no line running, no step
running, no pendant holding the grant. -/
structure JobsStopped (t : State) : Prop where
  adv : t.adv.state.active = false
  cutter : t.adv.cutter = .stopped
  lines : linesRest t.lines
  step : stepRest t.build
  grant : t.build.grant = .free

/-- What the records keep: the permit derived, every list within its capacity, the Request Table, the transit balanced,
the backlogs bounded, the serials apart. -/
structure RecordLaws (s : State) : Prop where
  permit : permitDerived s.permit
  capacity : WithinCapacity s
  table : TableLaw s.req
  transit : transitBalanced s.muck
  backlogs : backlogBounded s.lines
  segments : SegmentLaw s.ring

/-- What the stops keep: the advance state, the clamp, the OUTPUT entry, the ring, the sectors, the screw, and the permit
they rest on. -/
structure StopLaws (s : State) : Prop where
  permit : permitDerived s.permit
  boring : BoringLaw s
  clamp : ClampLaw s
  output : OutputStops s
  ring : RingLaw s
  build : BuildLaw s
  screw : screwAtRest s

/-- What the accounting of a ring keeps: its distance and its volume, and the ring and the permit they rest on. -/
structure AccountLaws (s : State) : Prop where
  permit : permitDerived s.permit
  ring : RingLaw s
  stroke : StrokeLaw s

end Sys2Proof.Machine
end

