-- ==== Sys2Proof/WellFormed.lean ====
section
/-! DEFINITION. Which commands a line can carry: every operand within the bytes of its field (R163, R178), every body
within a frame. What a field's value means, and which values are refused, is the owner's rule and not tested here. -/

namespace Sys2Proof

/-- n fits a field of k bytes (R178). -/
def fitsBytes (k n : Nat) : Bool := n < 256 ^ k

/-- The longest body of a frame (R179, R164). -/
def maxBody : Nat := 250

/-- A list of points that one body can carry: port, count, points (R149). -/
def pointsCarried (points : List Nat) : Bool :=
  2 + points.length ≤ maxBody && points.all (fitsBytes 1)

/-- A list of point and value pairs that one body can carry: port, count, pairs (R149, R166). -/
def pairsCarried (pairs : List (Nat × Nat)) : Bool :=
  2 + 3 * pairs.length ≤ maxBody && pairs.all fun pv => fitsBytes 1 pv.1 && fitsBytes 2 pv.2

/-- The command can be carried by its line. -/
def wellFormed : Instr → Bool
  | .advanceStart _ rate => fitsBytes 2 rate
  | .cutterSet _ speed => fitsBytes 2 speed
  | .setGeometry _ aF aA width clearance strokeLimit =>
    fitsBytes 4 aF && fitsBytes 2 aA && fitsBytes 2 width && fitsBytes 2 clearance && fitsBytes 2 strokeLimit
  | .setGround _ rho fill voidCap => fitsBytes 2 rho && fitsBytes 2 fill && fitsBytes 2 voidCap
  | .setLimits _ fRed tWarn => fitsBytes 2 fRed && fitsBytes 2 tWarn
  | .setPressure _ pSet bS bH gain rate sMin sMax dOvx =>
    fitsBytes 2 pSet && fitsBytes 2 bS && fitsBytes 2 bH && fitsBytes 2 gain && fitsBytes 1 rate
      && fitsBytes 1 sMin && fitsBytes 1 sMax && fitsBytes 2 dOvx
  | .setBalance _ lT lOvx => fitsBytes 2 lT && fitsBytes 2 lOvx
  | .lineRun _ line mode => fitsBytes 1 line && fitsBytes 1 mode
  | .linePrime _ line => fitsBytes 1 line
  | .lineStop _ line => fitsBytes 1 line
  | .lineClear _ line => fitsBytes 1 line
  | .setLine _ line weight vs pLimit lag tP tS tW =>
    fitsBytes 1 line && fitsBytes 1 weight && fitsBytes 2 vs && fitsBytes 2 pLimit && fitsBytes 4 lag
      && fitsBytes 2 tP && fitsBytes 2 tS && fitsBytes 2 tW
  | .ringOpen _ number key => fitsBytes 2 number && fitsBytes 1 key
  | .getRing _ number => fitsBytes 2 number
  | .portBypass _ port => fitsBytes 1 port
  | .portRestore _ port => fitsBytes 1 port
  | .stationRead _ port points => fitsBytes 1 port && pointsCarried points
  | .stationWrite _ port pairs => fitsBytes 1 port && pairsCarried pairs
  | .sampleOutputs _ port => fitsBytes 1 port
  | .setSafe _ port pairs => fitsBytes 1 port && pairsCarried pairs
  | .sampleFrame _ body => body.length ≤ maxBody
  | .answerFrame _ _ body => body.length ≤ maxBody
  | .retryWaitExpiry place => place < Config.tableCap
  | .strokeDone _ _ line delivered peak => fitsBytes 1 line && fitsBytes 2 delivered && fitsBytes 2 peak
  | .retracted _ _ sector => fitsBytes 1 sector
  | .placed _ _ serial => fitsBytes 4 serial
  | .holding _ _ sector => fitsBytes 1 sector
  | .pieceArrived _ _ kind serial => fitsBytes 1 kind && fitsBytes 4 serial
  | .powerOn _ _ | .hostByteReceived _ _ | .heldCommandHandedOn | .hostFrameSent | .advanceStop _
  | .buildStart _ | .ringClose _ | .ringAbandon _ | .pieceDiscard _ | .placeNext _ | .placeRetry _
  | .placeBackout _ | .clamp _ | .unclamp _ | .release _ | .resume _ | .getFaults _ | .ackFault _
  | .resetPart _ | .getStatus _ | .getRestrictions _ | .getQueues _ | .estopAsserted | .estopDeasserted
  | .strapLineChange _ _ _ | .debounceTimerExpiry _ | .partialTimerExpiry _ | .settleTimerExpiry _
  | .staleTimerExpiry _ | .fieldFrameDiscard _ _ | .answerTimerExpiry _ | .tableFill
  | .requestDispatch _ | .strokeTimerExpiry _ | .pulseDeliveryTimerExpiry _ | .pulsePauseTimerExpiry _
  | .primeTimerExpiry _ | .returned _ _ | .phaseTimerExpiry | .localRequest _ _ | .localRelease _ _
  | .placeRequest _ _ | .retryRequest _ _ | .backoutRequest _ _ => true

end Sys2Proof
end

