-- ==== Sys2Proof/Certificates/Slice0/Obligations.lean ====
section
/-! DEFINITION. The statements for the provers. Each is about the block's commands as exec and step take them, or about
one operation that many commands share; the operation statements come first in each chapter and carry the frames of the
commands that are stated through them. -/

open Sys2Proof Sys2Proof.Machine

/-! ## The queue and the host link (chapter 11) -/

/-- The command at the front of the queue is taken, on the state with the queue's rest. -/
def Obligations.StepTakesFrontCommand : Prop :=
  ∀ (c : Instr) (s : State), step (s.setPending (c :: s.pending)) = exec c s

/-- The values after reset of every unit, as the tables of R26, R39, R54, R72, R95, R115, R131, R147, R165, R166, R177
and R187 give them; the levels of the input lines are the model's choice (log 1). -/
def Obligations.ResetValues : Prop :=
  let s := State.reset
  s.link = ⟨.hunt, none, [], [], false, 0, 0, 0, 0⟩
    ∧ s.adv.readings = Vector.replicate 4 ⟨0, false⟩ ∧ s.adv.m = 0 ∧ s.adv.a = 0 ∧ s.adv.x = 0
    ∧ s.adv.c1 = 0 ∧ s.adv.c2 = 0 ∧ s.adv.c3 = 0 ∧ s.adv.state = .idle ∧ s.adv.rReq = 0
    ∧ s.adv.cutter = .stopped ∧ s.adv.torque = 0 ∧ s.adv.permitCopy = .hold
    ∧ s.adv.geometry.configured = false ∧ s.adv.fRed = 500 ∧ s.adv.tWarn = 850
    ∧ s.permit.level = .hold ∧ s.permit.deciding = .chamber
    ∧ (Source.all.map fun src => ((s.permit.table.get src.idx).level, (s.permit.table.get src.idx).cause))
        = [(.hold, .blind), (.clear, .none), (.clear, .none), (.clear, .none), (.hold, .blind), (.hold, .port 0),
           (.clear, .none), (.clear, .none)]
    ∧ s.pres.p = 0 ∧ s.pres.held = true ∧ s.pres.active = ⟨2000, 200, 500, 32, 5, 10, 150, 700⟩
    ∧ s.pres.waiting = none ∧ s.pres.setpoint = 0 ∧ s.pres.sOld = 0 ∧ s.pres.muckTold = .clear
    ∧ s.muck.queue = [] ∧ s.muck.odometer = 0 ∧ s.muck.generated = 0 ∧ s.muck.released = 0 ∧ s.muck.e = 0
    ∧ s.muck.active = ⟨4000, 2000⟩ ∧ s.muck.waiting = none ∧ s.muck.blind = true
    ∧ (∀ i, (s.lines.get i).mode = .none ∧ (s.lines.get i).state = .stopped ∧ (s.lines.get i).backlog = 0
        ∧ (s.lines.get i).rem = 0 ∧ (s.lines.get i).phase = .none ∧ (s.lines.get i).timings = ⟨20, 60, 5⟩
        ∧ (s.lines.get i).staged = none)
    ∧ s.ring = ⟨.none, none, [], 0, [], []⟩
    ∧ (∀ i, s.build.owners.get i = .none) ∧ (∀ g, s.build.groups.get g = .hold) ∧ s.build.step = none
    ∧ s.build.grant = .free
    ∧ (∀ p, (s.ports.get p).state = .empty ∧ (s.ports.get p).cause = .none ∧ (s.ports.get p).supply = false
        ∧ (s.ports.get p).identity = none ∧ (s.ports.get p).noAnswer = 0)
    ∧ s.req.table = [] ∧ s.req.waits = [] ∧ s.req.counter = 0 ∧ (∀ p, s.req.seqBytes.get p = 0)
    ∧ (∀ p i, s.req.point p i = ⟨some 0, none, .clean⟩)
    ∧ s.out.mode = .normal ∧ s.out.cause = .none ∧ s.out.faults = [] ∧ (∀ p, s.out.outstanding.get p = false)
    ∧ s.out.safe.get 0 = [(1, 0), (2, 0), (3, 0), (4, 0), (5, 0), (6, 0), (7, 0), (8, 0)]
    ∧ s.out.safe.get 1 = s.out.safe.get 0 ∧ s.out.safe.get 4 = [(0, 0)] ∧ s.out.safe.get 5 = [(0, 0)]
    ∧ s.pending = []

/-- POWER_ON completes, from any state: the mode and the permit follow the emergency-stop line (R177, R39), and each
port with a detect line made stands in SETTLING, the others in EMPTY, all with the supply off (R147). What stands of
the queue and of the frames already on the lines is the model's own choice (log 22). -/
def Obligations.PowerOnCompletes : Prop :=
  ∀ (estop : Bool) (straps : Vector Straps 16) (s : State),
    ∃ t, exec (.powerOn estop straps) s = .next t
      ∧ t.out = Output.reset estop
      ∧ t.permit.level = (if estop then .stop else .hold)
      ∧ t.adv.state = .idle ∧ t.adv.cutter = .stopped ∧ t.adv.permitCopy = t.permit.level
      ∧ t.pres.setpoint = 0 ∧ t.muck = Muck.reset ∧ t.ring = Ring.reset ∧ t.build = Build.reset
      ∧ t.req = Requests.reset ∧ t.link.replies = [] ∧ t.link.held = none ∧ t.link.rx = .hunt
      ∧ (∀ p, (t.ports.get p).supply = false ∧ (t.ports.get p).identity = none
          ∧ (t.ports.get p).straps = straps.get p
          ∧ ((t.ports.get p).state, (t.ports.get p).cause)
              = if (straps.get p).d1 || (straps.get p).d2 then (PortState.settling, PortCause.inserted)
                else (PortState.empty, PortCause.none))
      ∧ t.hostLine = s.hostLine ∧ t.fieldLine = s.fieldLine ∧ t.pending = s.pending

/-- HOST_BYTE_RECEIVED in HUNT, after a gap, at the length byte, inside a frame, and at the second CRC byte (R179). -/
def Obligations.HostByteRule : Prop :=
  ∀ (b : Byte) (gap : Nat) (s : State),
    (s.link.rx = .hunt →
      exec (.hostByteReceived b gap) s
        = .next (if b = 0xA5 then s.setLink { s.link with rx := .frame [] } else s))
    ∧ (∀ bytes, s.link.rx = .frame bytes → 5000 < gap →
        exec (.hostByteReceived b gap) s
          = .next (s.setLink { s.link with
              rx := if b = 0xA5 then .frame [] else .hunt
              gapDiscards := min (s.link.gapDiscards + 1) 65535 }))
    ∧ (s.link.rx = .frame [] → gap ≤ 5000 →
        exec (.hostByteReceived b gap) s
          = .next (if 250 < b.toNat
              then s.setLink { s.link with rx := .hunt, lengthErrors := min (s.link.lengthErrors + 1) 65535 }
              else s.setLink { s.link with rx := .frame [b] }))
    ∧ (∀ len taken, s.link.rx = .frame (len :: taken) → gap ≤ 5000 → taken.length < len.toNat + 3 →
        exec (.hostByteReceived b gap) s = .next (s.setLink { s.link with rx := .frame (len :: taken ++ [b]) }))
    ∧ (∀ len kind tag body hi, s.link.rx = .frame (len :: kind :: tag :: (body ++ [hi])) → gap ≤ 5000 →
        body.length = len.toNat →
        exec (.hostByteReceived b gap) s
          = .next (if hi.toNat * 256 + b.toNat = (crc16 (len :: kind :: tag :: body)).toNat
              then takeFrame ⟨kind, tag, body⟩ (s.setLink { s.link with rx := .hunt })
              else s.setLink { s.link with rx := .hunt, crcErrors := min (s.link.crcErrors + 1) 65535 }))

/-- The frame of every well-formed host command parses to that command (R178, R180); its bytes, received one by one from HUNT
within the gap, do what the command's own row does (R178, R179, R180). -/
def Obligations.HostFramesSpellTheirCommands : Prop :=
  (∀ (i : Instr) (tag : Byte) (c : HostCmd), wellFormed i = true → hostRow i = some (tag, c) →
      hostParse c.code c.body = .command c)
    ∧ (∀ (i : Instr) (tag : Byte) (c : HostCmd) (s : State), wellFormed i = true → hostRow i = some (tag, c) →
      s.link.rx = .hunt →
      exec i s = .next ((frameBytes 0xA5 c.code tag c.body).foldl (fun s b => hostByte b 0 s) s))

/-- A complete frame is handed on, held or overrun (R180); a row given whole passes the same gate (log 5).
HELD_COMMAND_HANDED_ON: with room in the Reply List the held command leaves its slot and is handed on; a kind outside the
catalogue and a body of the wrong length are answered by the Link Unit (R180). -/
def Obligations.HostCommandPassage : Prop :=
  (∀ (i : Instr) (tag : Byte) (c : HostCmd) (s : State), hostRow i = some (tag, c) →
    (handsOn s → exec i s = .next (answerCommand tag c s))
    ∧ (s.link.held = none → ¬ s.link.replies.length < 4 →
        exec i s = .next (s.setLink { s.link with held := some ⟨c.code, tag, c.body⟩ }))
    ∧ (s.link.held ≠ none →
        exec i s = .next (s.setLink { s.link with overruns := min (s.link.overruns + 1) 65535 })))
    ∧ (∀ (f : HostFrame) (s : State), s.link.held = some f → s.link.replies.length < 4 →
      (∀ c, hostParse f.kind f.body = .command c →
          exec .heldCommandHandedOn s = .next (answerCommand f.tag c (s.setLink { s.link with held := none })))
      ∧ (hostParse f.kind f.body = .unknown →
          exec .heldCommandHandedOn s
            = .next (withReply f.tag f.kind .unknownCommand [] (s.setLink { s.link with held := none })))
      ∧ (hostParse f.kind f.body = .badLength →
          exec .heldCommandHandedOn s
            = .next (withReply f.tag f.kind .badLength [] (s.setLink { s.link with held := none }))))

/-- A command taken receives exactly one reply, with its tag and code, and the receiver, the held slot and the frames on the
host line stand (R181). Under any status but OK and OK_CLAMPED it has changed nothing but the Reply List, and its result
data is empty but for the unmet field of ADVANCE_START and RING_CLOSE (R182). -/
def Obligations.EveryCommandIsAnsweredOnce : Prop :=
  (∀ (i : Instr) (tag : Byte) (c : HostCmd) (s : State), hostRow i = some (tag, c) → handsOn s →
      ∃ t st data, exec i s = .next t ∧ t.link.replies = s.link.replies ++ [⟨tag, c.code, st, data⟩]
        ∧ t.link.rx = s.link.rx ∧ t.link.held = s.link.held ∧ t.hostLine = s.hostLine ∧ t.pending = s.pending)
    ∧ (∀ (tag : Byte) (c : HostCmd) (s : State),
      (takeCommand tag c s).2.1 ≠ .ok → (takeCommand tag c s).2.1 ≠ .okClamped →
        (takeCommand tag c s).1 = s
          ∧ ((takeCommand tag c s).2.2 = []
              ∨ ((takeCommand tag c s).2.1 = .wrongState ∧ (takeCommand tag c s).2.2.length = 1
                  ∧ ((∃ rate, c = .advanceStart rate) ∨ c = .ringClose))))

/-- A report handed to the Link Unit is appended, or with 32 queued dropped with the overflow flag set (R184).
HOST_FRAME_SENT: the oldest reply goes before every report, and what is sent leaves its list (R183); that all segments
of a reply go in one step is the model's choice (log 6). -/
def Obligations.ReportsAreQueuedAndSent : Prop :=
  (∀ (r : Report) (s : State),
      report r s = s.setLink (if s.link.reports.length < 32 then { s.link with reports := s.link.reports ++ [r] }
        else { s.link with overflow := true }))
    ∧ (∀ s : State,
      (∀ r rest, s.link.replies = r :: rest →
        exec .hostFrameSent s
          = .next ((s.setLink { s.link with replies := rest }).setHostLine (s.hostLine ++ r.frames)))
      ∧ (∀ r rest, s.link.replies = [] → s.link.reports = r :: rest →
        exec .hostFrameSent s
          = .next ((s.setLink { s.link with reports := rest }).setHostLine (s.hostLine ++ [r.frame])))
      ∧ (s.link.replies = [] → s.link.reports = [] → exec .hostFrameSent s = .next s))

/-! ## The Restriction Table (chapter 02) -/

/-- GET_RESTRICTIONS is taken in every state, changes nothing, and shows the table as it stands; with a body it is
refused by the Link Unit (R38). That the eight entries stand with no count byte before them is the model's choice (log 8). -/
def Obligations.RestrictionsAreRead : Prop :=
  ∀ (tag : Byte) (s : State), handsOn s →
    exec (.getRestrictions tag) s
      = .next (withReply tag 0x51 .ok
          (u8 s.permit.level.code ++ u8 s.permit.deciding.code ++
            Source.all.flatMap fun src =>
              u8 src.code ++ u8 (s.permit.table.get src.idx).level.code
                ++ u8 ((s.permit.table.get src.idx).cause.code src) ++ u16 (s.permit.table.get src.idx).ring
                ++ u16 (s.permit.table.get src.idx).x ++ u16 (s.permit.table.get src.idx).raises) s)
    ∧ (∀ body : List Byte, body ≠ [] →
        takeFrame ⟨0x51, tag, body⟩ s = withReply tag 0x51 .badLength [] s)

/-- A write to an entry: its new value by the case of R28, the other entries as they were, the permit and the deciding
source of R29, the report of R31, and the frame. -/
def Obligations.RestrictionWriteRule : Prop :=
  ∀ (src : Source) (level : Level) (cause : RCause) (s : State),
    let t := writeEntry src level cause s
    let e := s.permit.table.get src.idx
    (t.permit.table.get src.idx
        = if e.level.rank < level.rank then
            { level := level, cause := cause, ring := s.ring.number, x := s.adv.x, raises := min (e.raises + 1) 65535 }
          else { e with level := level, cause := cause })
      ∧ (∀ other : Source, other ≠ src → t.permit.table.get other.idx = s.permit.table.get other.idx)
      ∧ (∀ other : Source, (t.permit.table.get other.idx).level.rank ≤ t.permit.level.rank)
      ∧ (t.permit.table.get t.permit.deciding.idx).level = t.permit.level
      ∧ (∀ other : Source, other.code < t.permit.deciding.code → (t.permit.table.get other.idx).level ≠ t.permit.level)
      ∧ (t.permit.level ≠ s.permit.level →
          t.adv.permitCopy = t.permit.level
            ∧ t.link = s.link.queueReport (.permit s.permit.level t.permit.level t.permit.deciding
                (t.permit.table.get t.permit.deciding.idx).cause s.ring.number s.adv.x))
      ∧ (t.permit.level = s.permit.level → (src ≠ .muck ∨ e.level = level) → t = s.setPermit t.permit)
      ∧ (src = .muck → e.level ≠ level → t.pres.muckTold = level)
      ∧ AgreeBut (.link :: permitReach) s t

/-- What the Advance Unit does when told a new permit, by its state (R17; a HELD advance returns to BORING only under the
conditions of R14, log 18). Every change of its state counts an entry into HELD (R36), stops the screw on leaving BORING
(R49) and brings the setpoints to the new state (R20). -/
def Obligations.AdvanceStateRule : Prop :=
  (∀ (l : Level) (s : State),
      let t := tellPermit l s
      t.adv.permitCopy = l ∧ t.adv.rReq = s.adv.rReq ∧ t.adv.x = s.adv.x
        ∧ ((l = .clear ∨ l = .reduced) →
            t.adv.state = (if s.adv.state = .held ∧ mayBore s = true then .boring else s.adv.state)
              ∧ t.adv.cutter = s.adv.cutter ∧ t.pres = s.pres)
        ∧ (l = .hold →
            t.adv.state = (if s.adv.state = .boring then .held else s.adv.state) ∧ t.adv.cutter = s.adv.cutter)
        ∧ (l = .stop → t.adv.state = (if s.adv.state = .strokeComplete then .strokeComplete else .idle)
            ∧ t.adv.cutter = .stopped)
        ∧ (s.adv.state = .boring → (l = .hold ∨ l = .stop) → t.pres.setpoint = 0 ∧ t.pres.sOld = 0)
        ∧ (∀ r, s.ring.current = some r →
            (t.ring.current.map (·.holdCount))
              = some (if l = .hold ∧ s.adv.state = .boring then min (r.holdCount + 1) 65535 else r.holdCount))
        ∧ AgreeBut [.adv, .pres, .ring, .build, .req] s t)
    ∧ (∀ (new : AdvState) (s : State),
      let t := moveAdvance new s
      t.adv = { s.adv with state := new }
        ∧ t.pres = (if s.adv.state = .boring ∧ new ≠ .boring then { s.pres with setpoint := 0, sOld := 0 } else s.pres)
        ∧ t.ring = (if new = .held ∧ s.adv.state ≠ .held then
            { s.ring with current := s.ring.current.map fun c => { c with holdCount := min (c.holdCount + 1) 65535 } }
            else s.ring)
        ∧ (s.out.mode = .normal → SetpointsHeld t)
        ∧ AgreeBut [.adv, .pres, .ring, .build, .req] s t)

/-! ## The advance (chapter 01) -/

/-- The thrust rate is 0 outside BORING, the requested rate under CLEAR, its reduced share under REDUCED, and never
above the requested rate while F_red is in its range (R19). In NORMAL every point the Advance Unit may write holds its
setpoint as commanded value, and the other points stand; outside NORMAL nothing is written (R19, R20). -/
def Obligations.SetpointsFollowTheAdvance : Prop :=
  (∀ (state : AdvState) (permit : Level) (rReq fRed : Nat),
      (state ≠ .boring → thrustRate state permit rReq fRed = 0)
        ∧ (thrustRate .boring .clear rReq fRed = rReq)
        ∧ (thrustRate .boring .reduced rReq fRed = rReq * fRed / 1000)
        ∧ (fRed ≤ 900 → thrustRate state permit rReq fRed ≤ rReq))
    ∧ (∀ s : State,
      let t := refresh s
      (s.out.mode = .normal → SetpointsHeld t)
        ∧ (s.out.mode ≠ .normal → t = s)
        ∧ (∀ p i, Config.pointOwner p i.val ≠ .advance → t.req.point p i = s.req.point p i)
        ∧ (∀ g, s.build.owners.get (sectorOf g) = .build → t.build.groups.get g = s.build.groups.get g)
        ∧ t.build.owners = s.build.owners ∧ t.build.step = s.build.step ∧ t.build.grant = s.build.grant
        ∧ t.req.waits = s.req.waits
        ∧ AgreeBut [.req, .build] s t)

/-- ADVANCE_START: taken with the clamped rate, the new state, the hold counted and the setpoints written; refused with the
first condition that fails named (R15, R36). -/
def Obligations.AdvanceStartRule : Prop :=
  (∀ (tag : Byte) (rate : Nat) (s : State), handsOn s →
      s.adv.state ≠ .strokeComplete → s.ring.state = .boring → s.out.mode = .normal → s.adv.cutter ≠ .stopped →
      s.adv.permitCopy ≠ .stop →
      let r := if rate < 1 then 1 else if 120 < rate then 120 else rate
      let state := if s.adv.state = .idle then (if s.adv.permitCopy = .hold then .held else .boring) else s.adv.state
      ∃ t, exec (.advanceStart tag rate) s = .next t
        ∧ t.adv = { s.adv with rReq := r, state := state }
        ∧ SetpointsHeld t
        ∧ t.ring = (if s.adv.state = .idle ∧ s.adv.permitCopy = .hold then
            { s.ring with current := s.ring.current.map fun c => { c with holdCount := min (c.holdCount + 1) 65535 } }
            else s.ring)
        ∧ Answered [.adv, .ring, .build, .req] s t tag 0x10 (if 1 ≤ rate ∧ rate ≤ 120 then .ok else .okClamped)
            (u8 state.code ++ u8 r))
    ∧ (∀ (tag : Byte) (rate : Nat) (s : State), handsOn s →
      (s.adv.state = .strokeComplete →
        exec (.advanceStart tag rate) s = .next (withReply tag 0x10 .wrongState [0] s))
      ∧ (s.adv.state ≠ .strokeComplete → s.ring.state ≠ .boring →
        exec (.advanceStart tag rate) s = .next (withReply tag 0x10 .wrongState [1] s))
      ∧ (s.adv.state ≠ .strokeComplete → s.ring.state = .boring → s.out.mode ≠ .normal →
        exec (.advanceStart tag rate) s = .next (withReply tag 0x10 .wrongState [2] s))
      ∧ (s.adv.state ≠ .strokeComplete → s.ring.state = .boring → s.out.mode = .normal → s.adv.cutter = .stopped →
        exec (.advanceStart tag rate) s = .next (withReply tag 0x10 .wrongState [3] s))
      ∧ (s.adv.state ≠ .strokeComplete → s.ring.state = .boring → s.out.mode = .normal → s.adv.cutter ≠ .stopped →
        s.adv.permitCopy = .stop →
        exec (.advanceStart tag rate) s = .next (withReply tag 0x10 .wrongState [4] s)))

/-- ADVANCE_STOP by the advance state: taken in BORING and HELD, ALREADY in IDLE, taken without a change of state in
STROKE_COMPLETE; r_req is kept until the next ADVANCE_START that is taken (R16). -/
def Obligations.AdvanceStopRule : Prop :=
  ∀ (tag : Byte) (s : State), handsOn s →
    ((s.adv.state = .boring ∨ s.adv.state = .held) →
      ∃ t, exec (.advanceStop tag) s = .next t ∧ t.adv = { s.adv with state := .idle } ∧ t.ring = s.ring
        ∧ (s.adv.state = .boring → t.pres.setpoint = 0 ∧ t.pres.sOld = 0)
        ∧ (s.adv.state = .held → t.pres = s.pres)
        ∧ (s.out.mode = .normal → SetpointsHeld t)
        ∧ Answered [.adv, .pres, .build, .req] s t tag 0x11 .ok [0])
    ∧ (s.adv.state = .idle → exec (.advanceStop tag) s = .next (withReply tag 0x11 .already [] s))
    ∧ (s.adv.state = .strokeComplete → exec (.advanceStop tag) s = .next (withReply tag 0x11 .ok [3] s))
    ∧ (∀ rate, advanceUnmet s = none →
        ∃ t, exec (.advanceStart tag rate) s = .next t ∧ t.adv.rReq = clampNat 1 120 rate)

/-- CUTTER_SET: refused in BUILDING, and outside NORMAL for a speed above 0; else the cutter takes the clamped speed,
and a speed of 0 stops it and with it the advance (R21, R18). -/
def Obligations.CutterSetRule : Prop :=
  ∀ (tag : Byte) (speed : Nat) (s : State), handsOn s →
    ((s.ring.state = .building ∨ (s.out.mode ≠ .normal ∧ speed ≠ 0)) →
      exec (.cutterSet tag speed) s = .next (withReply tag 0x12 .wrongState [] s))
    ∧ (s.ring.state ≠ .building → s.out.mode = .normal → speed ≠ 0 →
        let v := if speed < 50 then 50 else if 400 < speed then 400 else speed
        ∃ t, exec (.cutterSet tag speed) s = .next t ∧ t.adv = { s.adv with cutter := .turning v }
          ∧ SetpointsHeld t
          ∧ Answered [.adv, .build, .req] s t tag 0x12 (if 50 ≤ speed ∧ speed ≤ 400 then .ok else .okClamped)
              (u8 1 ++ u16 v))
    ∧ (s.ring.state ≠ .building → speed = 0 → s.adv.cutter ≠ .stopped →
        ∃ t, exec (.cutterSet tag speed) s = .next t
          ∧ t.adv = { s.adv with cutter := .stopped, state := if s.adv.state.active then .idle else s.adv.state }
          ∧ (s.adv.state = .boring → t.pres.setpoint = 0) ∧ (s.out.mode = .normal → SetpointsHeld t)
          ∧ t.ring = s.ring
          ∧ Answered [.adv, .pres, .build, .req] s t tag 0x12 .ok [0, 0, 0])
    ∧ (s.ring.state ≠ .building → speed = 0 → s.adv.cutter = .stopped →
        exec (.cutterSet tag speed) s = .next (withReply tag 0x12 .ok [0, 0, 0] s))

/-- SET_GEOMETRY and SET_GROUND are taken only while no ring is open; SET_LIMITS acts on the setpoints at once; SET_PRESSURE
and SET_BALANCE make their values the pending set. Each is whole or not at all (R23, R24, R25, R51, R68); SET_BALANCE with
a body of another length is refused by the Link Unit. -/
def Obligations.ConfigurationIsSet : Prop :=
  (∀ (tag : Byte) (s : State), handsOn s →
      (∀ aF aA width clearance stroke : Nat,
        (s.ring.state ≠ .none →
          exec (.setGeometry tag aF aA width clearance stroke) s = .next (withReply tag 0x13 .wrongState [] s))
        ∧ (s.ring.state = .none →
            exec (.setGeometry tag aF aA width clearance stroke) s
              = .next (if (100000 ≤ aF ∧ aF ≤ 520000) ∧ (5000 ≤ aA ∧ aA ≤ 60000) ∧ (8000 ≤ width ∧ width ≤ 20000)
                    ∧ clearance ≤ 3000 ∧ (16000 ≤ stroke ∧ stroke ≤ 32000) ∧ width + clearance ≤ stroke
                  then withReply tag 0x13 .ok []
                    (s.setAdv { s.adv with geometry := ⟨aF, aA, width, clearance, stroke⟩ })
                  else withReply tag 0x13 .badValue [] s)))
      ∧ (∀ rho fill cap : Nat,
        (s.ring.state ≠ .none →
          exec (.setGround tag rho fill cap) s = .next (withReply tag 0x14 .wrongState [] s))
        ∧ (s.ring.state = .none →
            exec (.setGround tag rho fill cap) s
              = .next (if (1200 ≤ rho ∧ rho ≤ 2600) ∧ (1000 ≤ fill ∧ fill ≤ 1600) ∧ cap ≤ 500
                  then withReply tag 0x14 .ok [] (s.setAdv { s.adv with ground := ⟨rho, fill, cap⟩ })
                  else withReply tag 0x14 .badValue [] s))))
    ∧ (∀ (tag : Byte) (fRed tWarn : Nat) (s : State), handsOn s →
      ((100 ≤ fRed ∧ fRed ≤ 900 ∧ 500 ≤ tWarn ∧ tWarn ≤ 990) →
        ∃ t, exec (.setLimits tag fRed tWarn) s = .next t
          ∧ t.adv = { s.adv with fRed := fRed, tWarn := tWarn } ∧ (s.out.mode = .normal → SetpointsHeld t)
          ∧ Answered [.adv, .build, .req] s t tag 0x15 .ok [])
      ∧ (¬ (100 ≤ fRed ∧ fRed ≤ 900 ∧ 500 ≤ tWarn ∧ tWarn ≤ 990) →
          exec (.setLimits tag fRed tWarn) s = .next (withReply tag 0x15 .badValue [] s)))
    ∧ (∀ (tag : Byte) (pSet bS bH gain rate sMin sMax dOvx : Nat) (s : State), handsOn s →
      exec (.setPressure tag pSet bS bH gain rate sMin sMax dOvx) s
        = .next (if (500 ≤ pSet ∧ pSet ≤ 6000) ∧ (20 ≤ bS ∧ bS ≤ 500) ∧ (bS < bH ∧ bH ≤ 1500) ∧ gain ≤ 1023
              ∧ (1 ≤ rate ∧ rate ≤ 50) ∧ sMin ≤ 100 ∧ (50 ≤ sMax ∧ sMax ≤ 250) ∧ (300 ≤ dOvx ∧ dOvx ≤ 1000)
            then withReply tag 0x18 .ok (u16 s.pres.active.pSet ++ u16 pSet)
              (s.setPres { s.pres with waiting := some ⟨pSet, bS, bH, gain, rate, sMin, sMax, dOvx⟩ })
            else withReply tag 0x18 .badValue [] s))
    ∧ (∀ (tag : Byte) (lT lOvx : Nat) (s : State), handsOn s →
      exec (.setBalance tag lT lOvx) s
        = .next (if (100 ≤ lT ∧ lT ≤ 50000) ∧ (100 ≤ lOvx ∧ lOvx ≤ 20000)
            then withReply tag 0x1C .ok (u16 s.muck.active.lT ++ u16 s.muck.active.lOvx ++ u16 lT ++ u16 lOvx)
              (s.setMuck { s.muck with waiting := some ⟨lT, lOvx⟩ })
            else withReply tag 0x1C .badValue [] s))
    ∧ (∀ (tag : Byte) (body : List Byte) (s : State), handsOn s → body.length ≠ 4 →
        takeFrame ⟨0x1C, tag, body⟩ s = withReply tag 0x1C .badLength [] s)

/-- The increment arithmetic loses nothing: figure and carry together are the exact product, and each carry stays below its
divisor (R6, R7, R8). A mass increment joins the Transit Queue without loss, merging when the queue is full or the due is
the newest parcel's (R56, R57). -/
def Obligations.IncrementsLoseNothing : Prop :=
  (∀ (a : Advance) (d : Nat),
      let inc := a.increment d
      let b := a.credit d
      100 * inc.volume + b.c1 = a.geometry.aF * d + a.c1 ∧ b.c1 < 100
        ∧ 1000000 * inc.mass + b.c2 = inc.volume * a.ground.rho + a.c2 ∧ b.c2 < 1000000
        ∧ 100000 * inc.demand + b.c3 = a.geometry.aA * d * a.ground.fill + a.c3 ∧ b.c3 < 100000
        ∧ b.x = a.x + d ∧ b.a = a.m ∧ b.m = a.m)
    ∧ (∀ (m : Nat) (s : State),
      let t := massIncrement m s
      queuedMass t.muck.queue = queuedMass s.muck.queue + m
        ∧ t.muck.generated = s.muck.generated + m ∧ t.muck.released = s.muck.released
        ∧ t.muck.queue.length = (match s.muck.queue.getLast? with
            | none => 1
            | some newest =>
              if 64 ≤ s.muck.queue.length ∨ newest.due = min (s.muck.odometer + s.muck.active.lT) 4294967295
              then s.muck.queue.length else s.muck.queue.length + 1)
        ∧ (s.muck.queue = [] →
            t.muck.queue = [⟨m, min (s.muck.odometer + s.muck.active.lT) 4294967295, s.ring.number⟩])
        ∧ AgreeBut [.muck] s t)

/-- A stroke sample sets the readings, M and STROKE_REF by the number of valid readings (R1, R2); then it accounts: nothing
at or below the mark, a jump above 500, the increment between (R4, R5). The increment is handed to the record, to the
Transit Queue and to the grout lines (R9), and X is compared with W_r: at or above it the advance becomes
STROKE_COMPLETE, which is reported (R10). -/
def Obligations.StrokeSampleRule : Prop :=
  (∀ (r0 r1 r2 r3 : Reading) (s : State),
      let rs := [r0, r1, r2, r3].map storeStroke
      let v := validValues rs
      let u := s.setAdv { s.adv with
        readings := #v[storeStroke r0, storeStroke r1, storeStroke r2, storeStroke r3]
        m := if 2 ≤ v.length then v.sum / v.length else s.adv.m }
      strokeSample [r0, r1, r2, r3] s
        = accountSample
            (if v.length = 4 then writeEntry .strokeRef .clear .none u
             else if v.length = 3 then writeEntry .strokeRef .reduced .oneInvalid u
             else if v.length = 2 then writeEntry .strokeRef .hold .twoInvalid u
             else writeEntry .strokeRef .hold .blind u))
    ∧ (∀ s : State,
      ((s.ring.state ≠ .boring ∨ s.adv.state.active = false ∨ s.adv.validCount < 2 ∨ s.adv.m ≤ s.adv.a) →
        accountSample s = s)
      ∧ (s.ring.state = .boring → s.adv.state.active = true → 2 ≤ s.adv.validCount →
          (s.adv.a + 500 < s.adv.m →
            accountSample s
              = report (.strokeJump s.ring.number s.adv.m s.adv.a (s.adv.m - s.adv.a))
                  (s.setAdv { s.adv with a := s.adv.m }))
          ∧ (s.adv.a < s.adv.m → s.adv.m ≤ s.adv.a + 500 →
              accountSample s = creditStroke (s.adv.m - s.adv.a) s
                ∧ (accountSample s).adv.x = s.adv.x + (s.adv.m - s.adv.a)
                ∧ (accountSample s).adv.a = s.adv.m)))
    ∧ (∀ (d : Nat) (s : State),
      let inc := s.adv.increment d
      let u := (s.setAdv (s.adv.credit d)).setRing { s.ring with
        current := s.ring.current.map fun r => { r with
          x := s.adv.x + d
          volume := min (r.volume + inc.volume) 4294967295
          mass := min (r.mass + inc.mass) 4294967295
          demand := min (r.demand + inc.demand) 4294967295 } }
      let w := if inc.mass = 0 then u else massIncrement inc.mass u
      creditStroke d s = compareStroke (if inc.demand = 0 then w else takeDemand inc.demand w))
    ∧ (∀ s : State,
      let wR := s.adv.geometry.width + s.adv.geometry.clearance
      ((s.adv.x < wR ∨ s.adv.state.active = false) → compareStroke s = s)
      ∧ (∀ r, wR ≤ s.adv.x → s.adv.state.active = true → s.ring.current = some r →
          compareStroke s
            = report (.strokeComplete r.number s.adv.x wR r.volume r.mass r.demand) (moveAdvance .strokeComplete s)))

/-! ## The face pressure (chapter 03) -/

/-- The controlled pressure is the median of three, the floored mean of two, the one valid value, or held (R42). A chamber
sample takes the pending set, the readings and P, writes CHAMBER, offers a measured P to the record's extremes while the
advance is BORING or HELD in a BORING ring, and runs the law while BORING (R41, R44, R45, R46). -/
def Obligations.ChamberSampleRule : Prop :=
  (∀ (a b c : Nat) (ra rb rc x y : Reading),
      crownPressure [⟨a, true⟩, ⟨b, true⟩, ⟨c, true⟩, x, y] = some (median3 a b c)
        ∧ (a ≤ b → b ≤ c → median3 a b c = b ∧ median3 a c b = b ∧ median3 b a c = b ∧ median3 b c a = b
            ∧ median3 c a b = b ∧ median3 c b a = b)
        ∧ (ra.valid = false →
            crownPressure [ra, ⟨a, true⟩, ⟨b, true⟩, x, y] = some ((a + b) / 2)
              ∧ crownPressure [⟨a, true⟩, ra, ⟨b, true⟩, x, y] = some ((a + b) / 2)
              ∧ crownPressure [⟨a, true⟩, ⟨b, true⟩, ra, x, y] = some ((a + b) / 2))
        ∧ (ra.valid = false → rb.valid = false →
            crownPressure [ra, rb, ⟨a, true⟩, x, y] = some a ∧ crownPressure [ra, ⟨a, true⟩, rb, x, y] = some a
              ∧ crownPressure [⟨a, true⟩, ra, rb, x, y] = some a)
        ∧ (ra.valid = false → rb.valid = false → rc.valid = false → crownPressure [ra, rb, rc, x, y] = none))
    ∧ (∀ (rs : List Reading) (s : State), rs.length = 5 →
      let stored := rs.map storeChamber
      let st := s.pres.waiting.getD s.pres.active
      let p := (crownPressure stored).getD s.pres.p
      let held := (crownPressure stored).isNone
      let u := s.setPres { s.pres with
        readings := (s.pres.sense rs).readings, active := st, waiting := none, p := p, held := held }
      let w := if held then writeEntry .chamber .hold .blind u
        else if st.pSet + st.bH < p then writeEntry .chamber .hold .hardHigh u
        else if p + st.bH < st.pSet then writeEntry .chamber .hold .hardLow u
        else if st.pSet + st.bS < p then writeEntry .chamber .reduced .softHigh u
        else if p + st.bS < st.pSet then writeEntry .chamber .reduced .softLow u
        else writeEntry .chamber .clear .none u
      (s.pres.sense rs).readings.toList = stored
        ∧ chamberSample rs s = runScrewLaw (offerPressure w)
        ∧ (w.adv.state ≠ .boring → runScrewLaw (offerPressure w) = offerPressure w)
        ∧ (w.adv.state = .boring →
            (chamberSample rs s).pres.setpoint = screwLaw w.pres.active w.pres.muckTold w.pres.p w.pres.sOld
              ∧ (chamberSample rs s).pres.sOld = (chamberSample rs s).pres.setpoint))
    ∧ (∀ s : State,
      ((s.pres.held = true ∨ s.ring.state ≠ .boring ∨ s.adv.state.active = false) → offerPressure s = s)
      ∧ (s.pres.held = false → s.ring.state = .boring → s.adv.state.active = true →
          offerPressure s = s.setRing { s.ring with
            current := s.ring.current.map fun r => { r with
              pMinMax := match r.pMinMax with
                | none => some (s.pres.p, s.pres.p)
                | some (lo, hi) => some (min lo s.pres.p, max hi s.pres.p) } }))

/-- The screw law: the step e × G / 256 truncated toward zero and held to R either way, the sum held between the floor and
the derated ceiling, the ceiling itself where it is below the floor (R46, R47). A telling of the MUCK level lowers the screw to the ceiling and never raises it (R48). -/
def Obligations.ScrewLawRule : Prop :=
  (∀ (st : PSettings) (muck : Level) (p sOld : Nat),
      let v := screwLaw st muck p sOld
      let ceil := screwCeil st muck
      screwCeil st .clear = st.sMax
        ∧ (muck ≠ .clear → ceil = st.sMax * st.dOvx / 1000)
        ∧ (ceil < st.sMin → v = ceil)
        ∧ (st.sMin ≤ ceil → st.pSet ≤ p →
            v = max st.sMin (min ceil (sOld + min st.rate ((p - st.pSet) * st.gain / 256))))
        ∧ (st.sMin ≤ ceil → p ≤ st.pSet →
            v = max st.sMin (min ceil (sOld - min st.rate ((st.pSet - p) * st.gain / 256))))
        ∧ v ≤ ceil ∧ (st.sMin ≤ ceil → st.sMin ≤ v)
        ∧ (st.sMin ≤ sOld → sOld ≤ ceil → v ≤ sOld + st.rate ∧ sOld ≤ v + st.rate)
        ∧ (p = st.pSet → st.sMin ≤ sOld → sOld ≤ ceil → v = sOld))
    ∧ (∀ (l : Level) (s : State),
      let t := tellMuckLevel l s
      t.pres.muckTold = l ∧ t.pres.setpoint = min s.pres.setpoint (screwCeil s.pres.active l)
        ∧ AgreeBut [.pres, .req] s t)

/-! ## The muck balance (chapter 04) -/

/-- A belt sample takes the settings, clears the flag, moves the odometer, releases from the head while it is due and forms
E (R58 to R61); then it writes MUCK by the first row of R62, hands the void allowance's growth to the grout lines while
a ring is open (R64, R65), and hands the window to the record (R61). -/
def Obligations.BeltSampleRule : Prop :=
  (∀ (k : Muck) (dcm dkg : Nat),
      let t := k.weigh dcm dkg
      t.active = k.waiting.getD k.active ∧ t.waiting = none ∧ t.blind = false
        ∧ t.odometer = min (k.odometer + dcm) 4294967295
        ∧ (∃ gone, k.queue = gone ++ t.queue ∧ (∀ q ∈ gone, q.due ≤ t.odometer)
            ∧ (∀ q rest, t.queue = q :: rest → t.odometer < q.due)
            ∧ t.released = k.released + queuedMass gone
            ∧ t.releasedExp = min (k.releasedExp + queuedMass gone) 4294967295)
        ∧ t.measured = min (k.measured + dkg) 4294967295
        ∧ t.e = (t.measured : Int) - (t.releasedExp : Int)
        ∧ t.generated = k.generated ∧ t.vApplied = k.vApplied)
    ∧ (∀ (dcm dkg : Nat) (s : State),
      let u := s.setMuck (s.muck.weigh dcm dkg)
      let lim := u.muck.active.lOvx
      let w := if (lim : Int) ≤ u.muck.e then writeEntry .muck .hold .over u
        else if ((lim / 2 : Nat) : Int) ≤ u.muck.e then writeEntry .muck .reduced .overWarn u
        else if u.muck.e ≤ -(lim : Int) then writeEntry .muck .reduced .under u
        else writeEntry .muck .clear .none u
      let allowance := min (w.muck.e.toNat * 1000000 / w.adv.ground.rho)
        (w.adv.geometry.aA * (w.adv.geometry.width + w.adv.geometry.clearance) * w.adv.ground.voidCap / 100000)
      beltSample dcm dkg s = handWindow (updateVoid w)
        ∧ ((w.ring.state = .none ∨ w.muck.e ≤ 0 ∨ allowance ≤ w.muck.vApplied) → updateVoid w = w)
        ∧ (w.ring.state ≠ .none → 0 < w.muck.e → w.muck.vApplied < allowance →
            let d := takeDemand (allowance - w.muck.vApplied) w
            d.muck = w.muck
              ∧ updateVoid w = (d.setMuck { d.muck with vApplied := allowance }).setRing { d.ring with
                  current := d.ring.current.map fun r => { r with vApplied := min allowance 4294967295 } })
        ∧ (beltSample dcm dkg s).muck.e = u.muck.e
        ∧ (∀ r, w.ring.current = some r →
            ∃ r', (beltSample dcm dkg s).ring.current = some r' ∧ r'.measured = u.muck.measured
              ∧ r'.releasedExp = u.muck.releasedExp ∧ r'.finalE = u.muck.e))

/-! ## The grout lines (chapter 05) -/

/-- STATION is written from ports 0 to 5 (R33), and GROUT by the first row of R91 that applies. -/
def Obligations.DerivedEntriesRule : Prop :=
  ∀ s : State,
    ((∀ p : PortNo, p.val ≤ 5 → (s.ports.get p).state = .ready) →
      stationTelling s = writeEntry .station .clear .none s)
    ∧ (∀ p : Fin 6, (s.ports.get (Fin.castLE (by decide) p)).state ≠ .ready →
        (∀ q : Fin 6, q < p → (s.ports.get (Fin.castLE (by decide) q)).state = .ready) →
        stationTelling s = writeEntry .station .hold (.port p) s)
    ∧ writeGrout s
        = (if s.ring.state = .boring ∧ trackWeight s.lines = 0 then writeEntry .grout .hold .noLine s
          else if ∃ i, (s.line i).mode = .track ∧ (s.line i).state = .blocked then writeEntry .grout .hold .blocked s
          else if ∃ i, (s.line i).mode = .track ∧ (s.line i).state = .faulted then writeEntry .grout .hold .faulted s
          else if ∃ i, (s.line i).mode = .track ∧ 2 * (s.line i).lag ≤ (s.line i).backlog then
            writeEntry .grout .hold .lag s
          else if ∃ i, (s.line i).mode = .track ∧ (s.line i).lag ≤ (s.line i).backlog then
            writeEntry .grout .reduced .lag s
          else writeEntry .grout .clear .none s)

/-- A demand is shared over the tracking lines by weight, each backlog bounded by 16 strokes, and nothing of it is lost
to rounding; what passes the bound goes to the record's unmet grout, and with no weight all of it to the unassigned
grout (R75, R76). -/
def Obligations.DemandIsShared : Prop :=
  ∀ (q : Nat) (s : State),
    let t := takeDemand q s
    let w := trackWeight s.lines
    let share := fun i => if (s.line i).mode = .track then (q * (s.line i).weight + (s.line i).rem) / w else 0
    let excess := fun i => if (s.line i).mode = .track then (s.line i).backlog + share i - 16 * (s.line i).vs else 0
    (w = 0 →
      (∀ i, (t.line i).backlog = (s.line i).backlog ∧ (t.line i).rem = (s.line i).rem)
        ∧ (∀ r, s.ring.current = some r → ∃ r', t.ring.current = some r'
            ∧ r'.unassigned = min (r.unassigned + q) 4294967295 ∧ r'.unmet = r.unmet))
    ∧ (0 < w →
        (∀ i, (t.line i).backlog
            = (if (s.line i).mode = .track then min ((s.line i).backlog + share i) (16 * (s.line i).vs)
              else (s.line i).backlog)
            ∧ (t.line i).rem
              = (if (s.line i).mode = .track then (q * (s.line i).weight + (s.line i).rem) % w
                else (s.line i).rem))
        ∧ (∀ r, s.ring.current = some r → r.unmet ≤ 4294967295 → ∃ r', t.ring.current = some r'
            ∧ r'.unmet = min (r.unmet + ((List.finRange 6).map excess).sum) 4294967295 ∧ r'.unassigned = r.unassigned)
        ∧ w * ((List.finRange 6).map share).sum + remSum t.lines = q * w + remSum s.lines)

/-- A stroke issued on a port in service is registered as the newest entry, or waits when the table has no room or the
mode does not admit it, and its phase says which; on a lost port it is lost with the pump (R78, R150, R90). The check
issues one when none is in flight and the line is due (R78). The outcome moves the line (R79): DONE makes it run, CANCELLED
ends it and checks again, PORT_LOST loses the pump, a failure ends it and faults a running line with ACTION_FAILED (R89),
and an outcome of an ended stroke is ignored. -/
def Obligations.StrokeRequestRule : Prop :=
  (∀ (i : LineNo) (s : State), s.portUp (pumpPort i) = true →
    let t := issueStroke i s
    let kind := ReqKind.action (.stroke i (s.line i).vs)
    (s.req.table.length < 32 → s.out.mode = .normal →
      t.lines = put s.lines i { s.line i with phase := .requested s.req.nextSeq }
        ∧ t.req.table = s.req.table ++ [⟨.grout, none, pumpPort i, kind, .queued, 1, s.req.nextSeq⟩]
        ∧ t.req.waits = s.req.waits)
    ∧ (¬ (s.req.table.length < 32 ∧ s.out.mode = .normal) →
      t.lines = put s.lines i { s.line i with phase := .pending }
        ∧ t.req.table = s.req.table ∧ t.req.waits = s.req.waits ++ [⟨.grout, pumpPort i, kind⟩])
    ∧ t.req.image = s.req.image ∧ AgreeBut [.lines, .req] s t)
    ∧ (∀ (i : LineNo) (s : State),
        (s.portUp (pumpPort i) = false → issueStroke i s = losePump (pumpPort i) s)
        ∧ checkStroke i s
          = if (s.line i).phase = .none ∧ ((s.line i).state = .pulseDeliver
                ∨ (s.line i).state = .tracking ∧ (s.line i).vs ≤ (s.line i).backlog)
            then issueStroke i s else s)
    ∧ (∀ (i : LineNo) (n : Nat) (o : ReqOutcome) (s : State),
        let l := s.line i
        let t := strokeOutcome i (some n) o s
        let ended := s.setLines (put s.lines i { l with phase := .none })
        let failure : Option (FaultCause × LineCause) := match o with
          | .refused r => some (.refused r, .refused)
          | .busyExhausted => some (.busyExhausted, .busyExhausted)
          | .noAnswer => some (.noAnswer, .noAnswer)
          | .done _ | .portLost | .cancelled => none
        (l.phase ≠ .requested n → t = s)
        ∧ (l.phase = .requested n →
            (∀ vs, o = .done vs → t = s.setLines (put s.lines i { l with phase := .running }))
            ∧ (o = .cancelled → t = checkStroke i ended)
            ∧ (o = .portLost → t = losePump (pumpPort i) s)
            ∧ (∀ why, failure = some why → l.state.running = false → t = ended)
            ∧ (∀ why, failure = some why → l.state.running = true →
              t.lines = put s.lines i { l with
                  phase := .none, state := .faulted, timer := none, timings := l.staged.getD l.timings
                  staged := none }
                ∧ FaultAdded ⟨.actionFailed, .grout, none, some (pumpPort i), some i.val, why.1, s.ring.number,
                    s.adv.x⟩ s t
                ∧ Reported (.line i l.state .faulted l.mode why.2 l.backlog .none s.ring.number) t
                ∧ Acted (.lines :: .out :: permitReach) s t)))

/-- LINE_RUN in both modes and LINE_PRIME with and without a wait: the line's new state, its timer, the stroke it issues,
the other lines, the record's unassigned grout, a LINE report of each change of its state, and the frame (R83, R84, R85,
R77, R78, R94); and each condition that fails first, with its reply (R83, R85). Mode byte 1 is TRACK and 2 is PULSE (log 7).
That the LINE report shows the stroke phase as it is before the line's stroke is issued is the model's reading (log 15). -/
def Obligations.LinesStart : Prop :=
  (∀ (tag : Byte) (i : LineNo) (s : State), handsOn s →
    (s.out.mode = .normal → (s.line i).state = .stopped → s.portUp (pumpPort i) = true →
      (∃ t, exec (.lineRun tag i.val 1) s = .next t
        ∧ t.line i = { s.line i with mode := .track, state := .tracking, rem := 0, phase := (t.line i).phase }
        ∧ ((s.line i).phase = .none → (s.line i).vs ≤ (s.line i).backlog → StrokeIssued i t)
        ∧ (((s.line i).phase ≠ .none ∨ (s.line i).backlog < (s.line i).vs) → (t.line i).phase = (s.line i).phase)
        ∧ (∀ j, j ≠ i → t.line j = { s.line j with rem := 0 })
        ∧ t.ring.current.map (·.unassigned)
          = s.ring.current.map (fun r => min (r.unassigned + remSum s.lines / trackWeight s.lines) 4294967295)
        ∧ Reported (.line i .stopped .tracking .track .none (s.line i).backlog (s.line i).phase s.ring.number) t
        ∧ Answered (.lines :: permitReach) s t tag 0x20 .ok ([1, 3] ++ u32 (s.line i).backlog))
      ∧ (∃ t, exec (.lineRun tag i.val 2) s = .next t
        ∧ t.line i = { s.line i with
            mode := .pulse, state := .pulseDeliver, timer := some (.delivery, (s.line i).timings.tP)
            phase := (t.line i).phase }
        ∧ ((s.line i).phase = .none → StrokeIssued i t)
        ∧ ((s.line i).phase ≠ .none → (t.line i).phase = (s.line i).phase)
        ∧ (∀ j, j ≠ i → t.line j = s.line j)
        ∧ Reported (.line i .stopped .pulseDeliver .pulse .none (s.line i).backlog (s.line i).phase s.ring.number) t
        ∧ Answered (.lines :: permitReach) s t tag 0x20 .ok ([2, 4] ++ u32 (s.line i).backlog))
      ∧ ((s.line i).phase = .none → (s.line i).timings.tW ≠ 0 →
        ∃ t, exec (.linePrime tag i.val) s = .next t
          ∧ t.line i = { s.line i with state := .primeWait, timer := some (.prime, (s.line i).timings.tW) }
          ∧ (∀ j, j ≠ i → t.line j = s.line j)
          ∧ Reported (.line i .stopped .primeWait (s.line i).mode .none (s.line i).backlog .none s.ring.number) t
          ∧ Answered (.lines :: permitReach) s t tag 0x21 .ok [])
      ∧ ((s.line i).phase = .none → (s.line i).timings.tW = 0 →
        ∃ t, exec (.linePrime tag i.val) s = .next t
          ∧ t.line i = { s.line i with
              state := .primeStroke, timer := none, timings := (s.line i).staged.getD (s.line i).timings
              staged := none, phase := (t.line i).phase }
          ∧ StrokeIssued i t ∧ (∀ j, j ≠ i → t.line j = s.line j)
          ∧ Reported (.line i .stopped .primeWait (s.line i).mode .none (s.line i).backlog .none s.ring.number) t
          ∧ Reported (.line i .primeWait .primeStroke (s.line i).mode .none (s.line i).backlog .none s.ring.number) t
          ∧ Answered (.lines :: permitReach) s t tag 0x21 .ok [])))
    ∧ (∀ (tag : Byte) (i : LineNo) (s : State), handsOn s →
      let state := (s.line i).state
      let run := fun (mode : Nat) (st : Status) =>
        exec (.lineRun tag i.val mode) s = .next (withReply tag 0x20 st [] s)
      let prime := fun (st : Status) => exec (.linePrime tag i.val) s = .next (withReply tag 0x21 st [] s)
      (s.out.mode ≠ .normal → run 1 .wrongState ∧ run 2 .wrongState ∧ prime .wrongState)
      ∧ (s.out.mode = .normal →
        (state = .tracking → run 1 .already ∧ run 2 .wrongState)
        ∧ ((state = .pulseDeliver ∨ state = .pulsePause) → run 1 .wrongState ∧ run 2 .already)
        ∧ ((state = .primeWait ∨ state = .primeStroke ∨ state = .blocked ∨ state = .faulted) →
            run 1 .wrongState ∧ run 2 .wrongState)
        ∧ (state = .stopped → s.portUp (pumpPort i) = false → run 1 .portNotReady ∧ run 2 .portNotReady)
        ∧ ((state = .primeWait ∨ state = .primeStroke) → prime .already)
        ∧ ((state = .tracking ∨ state = .pulseDeliver ∨ state = .pulsePause ∨ state = .blocked ∨ state = .faulted) →
            prime .wrongState)
        ∧ (state = .stopped → (s.line i).phase ≠ .none → prime .wrongState)
        ∧ (state = .stopped → (s.line i).phase = .none → s.portUp (pumpPort i) = false → prime .portNotReady)))
    ∧ (∀ (tag : Byte) (line mode : Nat) (s : State), handsOn s →
      (5 < line ∨ (mode ≠ 1 ∧ mode ≠ 2) →
        exec (.lineRun tag line mode) s = .next (withReply tag 0x20 .badValue [] s))
      ∧ (5 < line → exec (.linePrime tag line) s = .next (withReply tag 0x21 .badValue [] s)))

/-- LINE_STOP and LINE_CLEAR: the line NONE and STOPPED with its backlog kept, its timer and staged timings gone at a
stop, an unsent stroke dropped at a stop, and when the line was tracking the remainders cleared with their volume in the
record's unassigned grout (R86, R87, R77); a line number above 5 is BAD_VALUE. The LINE report shows the stroke phase as it
is once an unsent stroke has been dropped (log 15). -/
def Obligations.LinesStop : Prop :=
  (∀ (tag : Byte) (line : Nat) (s : State), handsOn s → 5 < line →
    exec (.lineStop tag line) s = .next (withReply tag 0x22 .badValue [] s)
      ∧ exec (.lineClear tag line) s = .next (withReply tag 0x23 .badValue [] s))
  ∧ ∀ (tag : Byte) (i : LineNo) (s : State), handsOn s →
    let l := s.line i
    let clears := fun (m : Line) => if l.mode = .track then 0 else m.rem
    let unassigned := s.ring.current.map fun r =>
      if l.mode = .track then min (r.unassigned + remSum s.lines / trackWeight s.lines) 4294967295 else r.unassigned
    ((s.line i).state ≠ .stopped →
      ∃ t, exec (.lineStop tag i.val) s = .next t
        ∧ t.line i = { l with
            mode := .none, state := .stopped, timer := none, timings := l.staged.getD l.timings, staged := none
            rem := clears l
            phase := match l.phase with
              | .pending => .none
              | .requested n => if s.req.onLine n then .requested n else .none
              | ph => ph }
        ∧ (∀ j, j ≠ i → t.line j = { s.line j with rem := clears (s.line j) })
        ∧ t.ring.current.map (·.unassigned) = unassigned
        ∧ Reported (.line i l.state .stopped .none .none l.backlog (t.line i).phase s.ring.number) t
        ∧ Answered (.lines :: permitReach) s t tag 0x22 .ok
            ([0, 0] ++ u32 l.backlog ++ u8 (t.line i).phase.code))
    ∧ ((s.line i).state = .stopped → exec (.lineStop tag i.val) s = .next (withReply tag 0x22 .already [] s))
    ∧ (((s.line i).state = .blocked ∨ (s.line i).state = .faulted) →
        ∃ t, exec (.lineClear tag i.val) s = .next t
          ∧ t.line i = { l with mode := .none, state := .stopped, rem := clears l }
          ∧ (∀ j, j ≠ i → t.line j = { s.line j with rem := clears (s.line j) })
          ∧ t.ring.current.map (·.unassigned) = unassigned
          ∧ Reported (.line i l.state .stopped .none .none l.backlog l.phase s.ring.number) t
          ∧ Answered (.lines :: permitReach) s t tag 0x23 .ok [])
    ∧ ((s.line i).state ≠ .blocked → (s.line i).state ≠ .faulted →
        exec (.lineClear tag i.val) s = .next (withReply tag 0x23 .wrongState [] s))

/-- SET_LINE: the settings are replaced, the backlog is trimmed to the new limit with the rest in the record's unmet grout,
the timings are staged while the line pulses, and every remainder is cleared with its volume in the record's unassigned
grout; whole or not at all, and a line number above 5 is BAD_VALUE (R88, R76, R77). The layout of the reply's data is the
model's choice (log 28). -/
def Obligations.LineIsSet : Prop :=
  (∀ (tag : Byte) (line weight vs pLimit lag tP tS tW : Nat) (s : State), handsOn s → 5 < line →
    exec (.setLine tag line weight vs pLimit lag tP tS tW) s = .next (withReply tag 0x24 .badValue [] s))
  ∧ ∀ (tag : Byte) (i : LineNo) (weight vs pLimit lag tP tS tW : Nat) (s : State), handsOn s →
    let l := s.line i
    let fits := weight ≤ 100 ∧ (500 ≤ vs ∧ vs ≤ 20000) ∧ (1000 ≤ pLimit ∧ pLimit ≤ 15000)
      ∧ (lag = 0 ∨ (1000 ≤ lag ∧ lag ≤ 100000)) ∧ (1 ≤ tP ∧ tP ≤ 600) ∧ (1 ≤ tS ∧ tS ≤ 3600) ∧ tW ≤ 600
    (¬ fits → exec (.setLine tag i.val weight vs pLimit lag tP tS tW) s = .next (withReply tag 0x24 .badValue [] s))
    ∧ (fits → l.state ≠ .stopped → (weight ≠ l.weight ∨ vs ≠ l.vs) →
        exec (.setLine tag i.val weight vs pLimit lag tP tS tW) s = .next (withReply tag 0x24 .wrongState [] s))
    ∧ (fits → (l.state = .stopped ∨ (weight = l.weight ∧ vs = l.vs)) →
        let pulsing := l.state = .pulseDeliver ∨ l.state = .pulsePause
        ∃ t, exec (.setLine tag i.val weight vs pLimit lag tP tS tW) s = .next t
          ∧ t.line i = { l with
              weight := weight, vs := vs, pLimit := pLimit, lag := if lag = 0 then 3 * vs else lag
              backlog := min l.backlog (16 * vs), rem := 0
              timings := if pulsing then l.timings else ⟨tP, tS, tW⟩
              staged := if pulsing then some ⟨tP, tS, tW⟩ else l.staged }
          ∧ (∀ j, j ≠ i → t.line j = { s.line j with rem := 0 })
          ∧ t.ring.current.map (fun r => (r.unassigned, r.unmet))
            = s.ring.current.map (fun r =>
                (min (r.unassigned + remSum s.lines / trackWeight s.lines) 4294967295,
                  min (r.unmet + (l.backlog - 16 * vs)) 4294967295))
          ∧ Answered (.lines :: permitReach) s t tag 0x24 .ok
              (u8 weight ++ u16 vs ++ u16 pLimit ++ u32 (if lag = 0 then 3 * vs else lag)
                ++ u16 (t.line i).timings.tP ++ u16 (t.line i).timings.tS ++ u16 (t.line i).timings.tW
                ++ flag (t.line i).staged.isSome ++ u32 (l.backlog - 16 * vs)))

/-- STROKE_DONE accepted: answered OK, the delivered volume accounted to the backlog, the lifetime, the ring and the
record; the line's state, its timer and its timings by R81, a peak above the limit with its record; and the next stroke
when the line is due one (R80, R81, R89, R78), after the LINE report (log 15). A STROKE_DONE for a line of the other pump, for
no line, or for a line whose stroke has not been sent is answered NOT_EXPECTED and changes nothing (R80). -/
def Obligations.StrokeDoneIsAccounted : Prop :=
  (∀ (p : PortNo) (seq : Byte) (line delivered peak : Nat) (s : State), s.portUp p = true →
    (∀ i : LineNo, i.val = line → pumpPort i = p →
      (s.line i).phase = .none ∨ (s.line i).phase = .pending
        ∨ ∃ n, (s.line i).phase = .requested n ∧ s.req.onLine n = false) →
    exec (.strokeDone p seq line delivered peak) s = .next (sendField p (eventAnswerFrame seq .notExpected) s))
  ∧ ∀ (i : LineNo) (seq : Byte) (delivered peak : Nat) (s : State), s.portUp (pumpPort i) = true →
    ((s.line i).phase = .running ∨ (s.line i).phase = .overdue
      ∨ ∃ n, (s.line i).phase = .requested n ∧ s.req.onLine n = true) →
    let l := s.line i
    let left := l.backlog - delivered
    let high := l.pLimit < peak
    let primed := ¬ high ∧ l.state = .primeStroke
    let rests := primed ∨ (high ∧ l.state ≠ .faulted ∧ l.state ≠ .blocked)
    let state := if primed then .stopped else if rests then .blocked else l.state
    let mode := if primed then .none else l.mode
    let due := state = .pulseDeliver ∨ (state = .tracking ∧ l.vs ≤ left)
    ∃ t, exec (.strokeDone (pumpPort i) seq i.val delivered peak) s = .next t
      ∧ t.fieldLine = s.fieldLine ++ [(pumpPort i, eventAnswerFrame seq (.status .ok))]
      ∧ t.line i = { l with
          backlog := left
          lifetime := min (l.lifetime + delivered) 4294967295
          ringDelivered :=
            if s.ring.state = .none then l.ringDelivered else min (l.ringDelivered + delivered) 4294967295
          state := state, mode := mode
          timer := if rests then none else l.timer
          timings := if rests then l.staged.getD l.timings else l.timings
          staged := if rests then none else l.staged
          phase := (t.line i).phase }
      ∧ (due → StrokeIssued i t)
      ∧ (¬ due → (t.line i).phase = .none ∧ t.req.waits = s.req.waits)
      ∧ (state ≠ l.state → Reported (.line i l.state state mode (if high then .overpressure else .none) left .none
          s.ring.number) t)
      ∧ (∀ r, s.ring.current = some r → s.ring.state ≠ .none →
          ∃ r', t.ring.current = some r' ∧ r'.delivered = put r.delivered i (t.line i).ringDelivered)
      ∧ (¬ high → t.out = s.out)
      ∧ (high → FaultAdded ⟨.lineFault, .grout, none, some (pumpPort i), some i.val, .overpressure peak,
          s.ring.number, s.adv.x⟩ s t)
      ∧ (∀ j, j ≠ i → t.line j = s.line j)
      ∧ Acted (.lines :: .out :: .fieldLine :: permitReach) s t

/-- The four timers of a line, each at its expiry, with the LINE report of the change of its state (R82, R84, R85, R94). With
the pump out of service, the stroke that the pause or the prime is to be followed by is PORT_LOST, and both lines of the
pump are lost (R150, R79, R90). That a LINE report shows the stroke phase as it is before a stroke is issued is the
model's reading (log 15). -/
def Obligations.LineTimersExpire : Prop :=
  ∀ (i : LineNo) (s : State),
    let l := s.line i
    let told := fun (j : LineNo) (old new : LineState) (cause : LineCause) (phase : StrokePhase) (t : State) =>
      old ≠ new → Reported (.line j old new (s.line j).mode cause (s.line j).backlog phase s.ring.number) t
    let lost := fun (entered : LineState) (t : State) =>
      (∀ j, t.line j =
        if pumpPort j ≠ pumpPort i then s.line j
        else if j ≠ i ∧ (s.line j).state = .stopped then { s.line j with phase := .none }
        else { s.line j with
          phase := .none, state := .faulted, timer := none
          timings := (s.line j).staged.getD (s.line j).timings, staged := none })
      ∧ told i l.state entered .none .none t
      ∧ (∀ j, pumpPort j = pumpPort i → j = i ∨ (s.line j).state ≠ .stopped ∧ (s.line j).state ≠ .faulted →
          Recorded ⟨.lineFault, .grout, none, some (pumpPort i), some j.val, .portLost, s.ring.number, s.adv.x⟩ t
            ∧ told j (if j = i then entered else (s.line j).state) .faulted .portLost .none t)
      ∧ (t.permit.table.get Source.grout.idx).level = (groutLevel s.ring.state t.lines).1
      ∧ Acted (.lines :: .out :: permitReach) s t
    (l.phase = .running →
      ∃ t, exec (.strokeTimerExpiry i) s = .next t
        ∧ t.line i = { l with
            phase := .overdue, state := .faulted, timer := none, timings := l.staged.getD l.timings, staged := none }
        ∧ FaultAdded ⟨.lineFault, .grout, none, some (pumpPort i), some i.val, .strokeTimeout, s.ring.number,
            s.adv.x⟩ s t
        ∧ told i l.state .faulted .strokeTimeout .overdue t
        ∧ (∀ j, j ≠ i → t.line j = s.line j) ∧ Acted (.lines :: .out :: permitReach) s t)
    ∧ (∀ d, l.timer = some (.delivery, d) →
        ∃ t, exec (.pulseDeliveryTimerExpiry i) s = .next t
          ∧ t.line i = { l with state := .pulsePause, timer := some (.pause, l.timings.tS) }
          ∧ told i l.state .pulsePause .none l.phase t
          ∧ (∀ j, j ≠ i → t.line j = s.line j) ∧ Acted (.lines :: permitReach) s t)
    ∧ (∀ d, l.timer = some (.pause, d) → (s.portUp (pumpPort i) = true ∨ l.phase ≠ .none) →
        ∃ t, exec (.pulsePauseTimerExpiry i) s = .next t
          ∧ t.line i = { l with
              state := .pulseDeliver, timings := l.staged.getD l.timings, staged := none
              timer := some (.delivery, (l.staged.getD l.timings).tP), phase := (t.line i).phase }
          ∧ told i l.state .pulseDeliver .none l.phase t
          ∧ (l.phase = .none → StrokeIssued i t) ∧ (l.phase ≠ .none → (t.line i).phase = l.phase)
          ∧ (∀ j, j ≠ i → t.line j = s.line j) ∧ Acted (.lines :: permitReach) s t)
    ∧ (∀ d, l.timer = some (.prime, d) → (s.portUp (pumpPort i) = true ∨ l.phase ≠ .none) →
        ∃ t, exec (.primeTimerExpiry i) s = .next t
          ∧ t.line i = { l with
              state := .primeStroke, timings := l.staged.getD l.timings, staged := none, timer := none
              phase := (t.line i).phase }
          ∧ told i l.state .primeStroke .none l.phase t
          ∧ (l.phase = .none → StrokeIssued i t) ∧ (l.phase ≠ .none → (t.line i).phase = l.phase)
          ∧ (∀ j, j ≠ i → t.line j = s.line j) ∧ Acted (.lines :: permitReach) s t)
    ∧ (s.portUp (pumpPort i) = false → l.phase = .none →
        (∀ d, l.timer = some (.pause, d) →
          ∃ t, exec (.pulsePauseTimerExpiry i) s = .next t ∧ lost .pulseDeliver t)
        ∧ (∀ d, l.timer = some (.prime, d) →
          ∃ t, exec (.primeTimerExpiry i) s = .next t ∧ lost .primeStroke t))

/-! ## The ring (chapter 06) -/

/-- RING_OPEN: the tests of R98 in their order, and the opening of R99 with the tellings of R11, R37, R66 and R93. That the
reply's eight plan entries stand with no count byte is the model's choice (log 8). -/
def Obligations.RingOpens : Prop :=
  ∀ (tag : Byte) (n key : Nat) (s : State), handsOn s →
    let said := fun st => exec (.ringOpen tag n key) s = .next (withReply tag 0x28 st [] s)
    let named := (1 ≤ n ∧ n ≤ 65535) ∧ key < 8
    let wR := s.adv.geometry.width + s.adv.geometry.clearance
    (¬ named → said .badValue)
    ∧ (named → s.ring.state ≠ .none → said .wrongState)
    ∧ (named → s.ring.state = .none → s.adv.geometry.configured = false → said .notConfigured)
    ∧ (named → s.ring.state = .none → s.adv.geometry.configured = true → s.out.mode ≠ .normal → said .wrongState)
    ∧ (named → s.ring.state = .none → s.adv.geometry.configured = true → s.out.mode = .normal →
        n ≤ s.ring.lastNumber → said .badValue)
    ∧ (named → s.ring.state = .none → s.adv.geometry.configured = true → s.out.mode = .normal →
        s.ring.lastNumber < n → s.adv.geometry.strokeLimit < s.adv.m + wR → said .strokeRange)
    ∧ (named → s.ring.state = .none → s.adv.geometry.configured = true → s.out.mode = .normal →
        s.ring.lastNumber < n → s.adv.m + wR ≤ s.adv.geometry.strokeLimit → s.adv.state = .idle →
        ∀ k : Fin 8, k.val = key →
        ∃ t, exec (.ringOpen tag n key) s = .next t
          ∧ t.ring = { s.ring with
              state := .boring, plan := buildPlan k
              current := some { Record.opened n k with
                startStroke := s.adv.readings.map fun r => if r.valid then some r.value else none } }
          ∧ t.adv.a = s.adv.m ∧ t.adv.m = s.adv.m ∧ t.adv.x = 0 ∧ t.adv.c1 = 0 ∧ t.adv.c2 = 0 ∧ t.adv.c3 = 0
          ∧ t.adv.state = .idle
          ∧ t.muck = { s.muck with measured := 0, releasedExp := 0, e := 0, vApplied := 0 }
          ∧ (∀ i, t.line i = { s.line i with ringDelivered := 0 })
          ∧ (∀ src : Source, (t.permit.table.get src.idx).raises ≤ if src = .muck ∨ src = .grout then 1 else 0)
          ∧ Answered (.lines :: .muck :: .tick :: permitReach) s t tag 0x28 .ok
              (u16 n ++ u8 key ++ (buildPlan k).flatMap fun e => u8 e.slot.val ++ u8 e.kind.code))

/-- The Build Plan of a key slot, as the table of R100 gives it; it names every slot once, and the next plan entry is
the one at the number of placed pieces. -/
def Obligations.BuildPlanRule : Prop :=
  ∀ k : Fin 8,
    buildPlan k
        = [⟨k + 4, .a⟩, ⟨k + 3, .a⟩, ⟨k + 5, .a⟩, ⟨k + 2, .a⟩, ⟨k + 6, .a⟩, ⟨k + 1, .c⟩, ⟨k + 7, .c⟩, ⟨k, .k⟩]
      ∧ (∀ slot : Fin 8, ∃ e ∈ buildPlan k, e.slot = slot) ∧ ((buildPlan k).map (·.slot)).Nodup
      ∧ (∀ u : Ring, u.plan = buildPlan k →
          (u.current = none → u.next = none)
          ∧ (∀ r, u.current = some r → r.placed.length = 8 → u.next = none)
          ∧ (∀ r, u.current = some r → r.placed.length < 8 →
              ∃ e, u.next = some (r.placed.length, e) ∧ (buildPlan k)[r.placed.length]? = some e))

/-- BUILD_START: the ring and its record BUILDING, the advance IDLE, the cutter STOPPED, the end stroke captured
(R101, R12). That the reply has a presence byte 1 before the end stroke's four readings is the model's choice (log 28). -/
def Obligations.BuildStarts : Prop :=
  ∀ (tag : Byte) (s : State), handsOn s →
    (∀ r, s.ring.state = .boring → s.adv.state = .strokeComplete → s.ring.current = some r →
      let stroke := s.adv.readings.map fun d => if d.valid then some d.value else none
      ∃ t, exec (.buildStart tag) s = .next t
        ∧ t.ring = { s.ring with
            state := .building, current := some { r with state := .building, endStroke := some stroke } }
        ∧ t.adv.state = .idle ∧ t.adv.cutter = .stopped ∧ t.adv.x = s.adv.x ∧ t.adv.a = s.adv.a
        ∧ t.adv.c1 = s.adv.c1 ∧ t.adv.c2 = s.adv.c2 ∧ t.adv.c3 = s.adv.c3
        ∧ Answered (.tick :: permitReach) s t tag 0x29 .ok (u16 r.number ++ u8 1 ++ strokeBytes stroke))
    ∧ ((s.ring.state ≠ .boring ∨ s.adv.state ≠ .strokeComplete) →
        exec (.buildStart tag) s = .next (withReply tag 0x29 .wrongState [] s))

/-- RING_CLOSE and RING_ABANDON: the record enters the history with its last state, the advance returns to rest, the
sectors and the step are freed with every group at HOLD, the grant ends, and RING_CLOSED is reported; RING_ABANDON with an
accounted distance is refused (R102, R103, R104, R107, R13, R131). -/
def Obligations.RingFinishes : Prop :=
  ∀ (tag : Byte) (s : State), handsOn s →
    let after := fun (r : Record) (st : RecordState) =>
      { s.ring with
        state := .none, current := none, plan := [], lastNumber := r.number
        history := if s.ring.history.length < 16 then s.ring.history ++ [{ r with state := st }]
          else s.ring.history.drop 1 ++ [{ r with state := st }] }
    let rests := fun (t : State) =>
      t.adv.state = .idle ∧ t.adv.a = s.adv.m ∧ t.adv.x = 0 ∧ t.adv.c1 = 0 ∧ t.adv.c2 = 0 ∧ t.adv.c3 = 0
        ∧ t.build.step = none ∧ t.build.grant = .free ∧ (∀ sec, t.build.owners.get sec = .none)
        ∧ (∀ g, t.build.groups.get g = .hold)
    (∀ r, s.ring.state = .building → s.ring.current = some r → r.placed.length = 8 → s.build.step = none →
      ∃ t, exec (.ringClose tag) s = .next t ∧ t.ring = after r .closed ∧ rests t
        ∧ Reported (.ringClosed { r with state := .closed }) t
        ∧ Answered (.tick :: permitReach) s t tag 0x2A .ok (u16 r.number))
    ∧ (∀ r, s.ring.state = .boring → s.ring.current = some r → r.x = 0 →
      ∃ t, exec (.ringAbandon tag) s = .next t ∧ t.ring = after r .abandoned ∧ rests t
        ∧ Reported (.ringClosed { r with state := .abandoned }) t
        ∧ Answered (.tick :: permitReach) s t tag 0x2B .ok [])
    ∧ (s.ring.state ≠ .building → exec (.ringClose tag) s = .next (withReply tag 0x2A .wrongState [0] s))
    ∧ (s.ring.state = .building → s.ring.placedCount ≠ 8 →
        exec (.ringClose tag) s = .next (withReply tag 0x2A .wrongState [1] s))
    ∧ (s.ring.state = .building → s.ring.placedCount = 8 → s.build.step ≠ none →
        exec (.ringClose tag) s = .next (withReply tag 0x2A .wrongState [2] s))
    ∧ ((s.ring.state ≠ .boring ∨ ∃ r, s.ring.current = some r ∧ r.x ≠ 0) →
        exec (.ringAbandon tag) s = .next (withReply tag 0x2B .wrongState [] s))

/-- PIECE_ARRIVED from port 11: the tests of R110 in their order, the piece at the tail when all hold, a PIECE report in
every case, and the event answer (R110, R113). PIECE_DISCARD: refused on an empty queue, refused while a step is active,
else the head leaves and the discard is reported (R112). -/
def Obligations.SegmentQueueRule : Prop :=
  (∀ (seq : Byte) (kind serial : Nat) (s : State), s.portUp 11 = true →
    let told := fun (st : EventStatus) (ev : PieceEvent) (why : PieceReason) (u : State) =>
      exec (.pieceArrived 11 seq kind serial) s
        = .next (sendField 11 (eventAnswerFrame seq st)
            (report (.piece ev kind serial why u.ring.queue.length u.ring.next) u))
    let queued := s.ring.queue.any (·.serial == serial)
    let placed := ∃ r, s.ring.current = some r ∧ ∃ e ∈ r.placed, e.serial = serial
    (2 < kind → told .badKind .refused .badKind s)
    ∧ (kind ≤ 2 → serial = 0 → told (.status .badValue) .refused .badValue s)
    ∧ (kind ≤ 2 → serial ≠ 0 → (queued = true ∨ placed) → told .duplicateSerial .refused .duplicateSerial s)
    ∧ (kind ≤ 2 → serial ≠ 0 → queued = false → ¬ placed → 8 ≤ s.ring.queue.length →
        told .queueFull .refused .queueFull s)
    ∧ (∀ named : PieceKind, named.code = kind → serial ≠ 0 → queued = false → ¬ placed →
        s.ring.queue.length < 8 →
        told (.status .ok) .arrived .none
          (s.setRing { s.ring with queue := s.ring.queue ++ [⟨named, serial⟩] })))
    ∧ (∀ (tag : Byte) (s : State), handsOn s →
      (s.ring.queue = [] → exec (.pieceDiscard tag) s = .next (withReply tag 0x2C .queueEmpty [] s))
      ∧ (s.ring.queue ≠ [] → s.build.step ≠ none →
          exec (.pieceDiscard tag) s = .next (withReply tag 0x2C .wrongState [] s))
      ∧ (∀ piece rest, s.ring.queue = piece :: rest → s.build.step = none →
          exec (.pieceDiscard tag) s
            = .next (withReply tag 0x2C .ok (u8 piece.kind.code ++ u32 piece.serial)
                (report (.piece .discarded piece.kind.code piece.serial .none rest.length s.ring.next)
                  (s.setRing { s.ring with queue := rest })))))

/-! ## Placement steps (chapter 07) -/

/-- PLACE_NEXT by the host with the grant free, and PLACE_REQUEST by the pendant that holds it: the tests of R119 in their
order, each with its status, and the step on the next plan entry's sector, the sector owned, its groups RETRACTING, RETRACT
asked. A pendant without the grant is answered NOT_EXPECTED (R119, R129, R120). -/
def Obligations.PlacementStarts : Prop :=
  ∀ s : State,
    let may := s.ring.state = .building ∧ s.build.step = none ∧ s.out.mode = .normal
    let holds := fun (p : PortNo) => p = 14 ∧ s.build.grant = .port14 ∨ p = 15 ∧ s.build.grant = .port15
    let host := fun (tag : Byte) (st : Status) => exec (.placeNext tag) s = .next (withReply tag 0x30 st [] s)
    let pendant := fun (p : PortNo) (seq : Byte) (st : EventStatus) =>
      exec (.placeRequest p seq) s = .next (sendField p (eventAnswerFrame seq st) s)
    let refused := fun (st : Status) =>
      (∀ tag, handsOn s → s.build.grant = .free → host tag st)
        ∧ (∀ p seq, holds p → s.portUp p = true → pendant p seq (.status st))
    (¬ may → refused .wrongState ∧ (∀ tag, handsOn s → host tag .wrongState))
    ∧ (may → s.build.grant ≠ .free → ∀ tag, handsOn s → host tag .localControl)
    ∧ (∀ p seq, p = 14 ∨ p = 15 → ¬ holds p → s.portUp p = true → pendant p seq .notExpected)
    ∧ (may → s.ring.next = none → refused .wrongState)
    ∧ (may → s.ring.next ≠ none → s.ring.queue = [] → refused .queueEmpty)
    ∧ (∀ position e piece rest, may → s.ring.next = some (position, e) → s.ring.queue = piece :: rest →
      let ready := (s.ports.get 10).state = .ready ∧ (s.ports.get (if e.slot.val < 4 then 0 else 1)).state = .ready
      let st := fun (by_ : StartedBy) =>
        ({ state := .retracting, direction := .forward, sector := e.slot, position := position, kind := piece.kind
           serial := piece.serial, startedBy := by_, action := .none, faultedPhase := none, backoutState := none
           cause := none, timer := none } : Step)
      let placed := fun (by_ : StartedBy) (t : State) =>
        PhaseIssued (st by_) t ∧ t.build.owners = put s.build.owners e.slot .build
          ∧ t.build.groups.get (sectorGroups e.slot).1 = .retracting
          ∧ t.build.groups.get (sectorGroups e.slot).2 = .retracting ∧ t.build.grant = s.build.grant
      (piece.kind ≠ e.kind → refused .pieceMismatch)
      ∧ (piece.kind = e.kind → ¬ ready → refused .portNotReady)
      ∧ (piece.kind = e.kind → ready →
        (∀ tag, handsOn s → s.build.grant = .free →
          ∃ t, exec (.placeNext tag) s = .next t ∧ placed .host t
            ∧ Answered [.build, .req] s t tag 0x30 .ok
                (u8 position ++ u8 e.slot.val ++ u8 piece.kind.code ++ u32 piece.serial))
        ∧ (∀ p seq, holds p → s.portUp p = true →
          ∃ t, exec (.placeRequest p seq) s = .next t ∧ placed (if p = 14 then .port14 else .port15) t
            ∧ t.fieldLine = s.fieldLine ++ [(p, eventAnswerFrame seq (.status .ok))]
            ∧ Acted [.build, .req, .fieldLine] s t)))

/-- PLACE_RETRY and PLACE_BACKOUT by the host, RETRY_REQUEST and BACKOUT_REQUEST by the pendant that holds the grant: the
tests of R126 in their order, the phase re-entered or the backout begun by the tables of R126 and R127, the fault cleared,
and the action asked. A pendant without the grant is answered NOT_EXPECTED (R129). -/
def Obligations.FaultedStepsGoOn : Prop :=
  ∀ s : State,
    let may := s.out.mode = .normal ∧ s.build.step.any (·.state == .stepFault) = true
    let holds := fun (p : PortNo) => p = 14 ∧ s.build.grant = .port14 ∨ p = 15 ∧ s.build.grant = .port15
    let host := fun (i : Instr) (tag code : Byte) (st : Status) => exec i s = .next (withReply tag code st [] s)
    let pendant := fun (i : Instr) (p : PortNo) (seq : Byte) (st : EventStatus) =>
      exec i s = .next (sendField p (eventAnswerFrame seq st) s)
    let backoutRefused := fun (st : Status) =>
      (∀ tag, handsOn s → s.build.grant = .free → host (.placeBackout tag) tag 0x32 st)
        ∧ (∀ p seq, holds p → s.portUp p = true → pendant (.backoutRequest p seq) p seq (.status st))
    let refused := fun (st : Status) => backoutRefused st
      ∧ (∀ tag, handsOn s → s.build.grant = .free → host (.placeRetry tag) tag 0x31 st)
      ∧ (∀ p seq, holds p → s.portUp p = true → pendant (.retryRequest p seq) p seq (.status st))
    (¬ may → refused .wrongState
        ∧ (∀ tag, handsOn s → host (.placeRetry tag) tag 0x31 .wrongState
          ∧ host (.placeBackout tag) tag 0x32 .wrongState))
    ∧ (may → s.build.grant ≠ .free → ∀ tag, handsOn s →
        host (.placeRetry tag) tag 0x31 .localControl ∧ host (.placeBackout tag) tag 0x32 .localControl)
    ∧ (∀ p seq, p = 14 ∨ p = 15 → ¬ holds p → s.portUp p = true →
        pendant (.retryRequest p seq) p seq .notExpected ∧ pendant (.backoutRequest p seq) p seq .notExpected)
    ∧ (∀ st, may → s.build.step = some st →
      let again : StepState × GroupState := match st.faultedPhase, st.backoutState with
        | some .retracting, _ => (.retracting, .retracting)
        | some .placing, _ => (.placing, .retracted)
        | some .backout, some .returning => (.returning, .retracted)
        | _, _ => (.extending, .extending)
      let back : Option (StepState × GroupState) := match st.faultedPhase with
        | some .placing => some (.returning, .retracted)
        | some .retracting => some (.extending, .extending)
        | _ => none
      let ready := s.portUp (if again.1 = .placing ∨ again.1 = .returning then 10
        else if st.sector.val < 4 then 0 else 1) = true
      let goes := fun (d : Direction) (p : StepState × GroupState) (t : State) =>
        PhaseIssued { st with
            state := p.1, direction := d, action := .none, timer := none, faultedPhase := none, backoutState := none
            cause := none } t
          ∧ t.build.owners = s.build.owners ∧ t.build.groups.get (sectorGroups st.sector).1 = p.2
          ∧ t.build.groups.get (sectorGroups st.sector).2 = p.2 ∧ t.build.grant = s.build.grant
      (¬ ready → refused .portNotReady)
      ∧ (ready → back = none → backoutRefused .wrongState)
      ∧ (ready →
        (∀ tag, handsOn s → s.build.grant = .free →
          ∃ t, exec (.placeRetry tag) s = .next t ∧ goes st.direction again t
            ∧ Answered [.build, .req] s t tag 0x31 .ok (u8 again.1.code))
        ∧ (∀ p seq, holds p → s.portUp p = true →
          ∃ t, exec (.retryRequest p seq) s = .next t ∧ goes st.direction again t
            ∧ t.fieldLine = s.fieldLine ++ [(p, eventAnswerFrame seq (.status .ok))]
            ∧ Acted [.build, .req, .fieldLine] s t))
      ∧ (∀ b, ready → back = some b →
        (∀ tag, handsOn s → s.build.grant = .free →
          ∃ t, exec (.placeBackout tag) s = .next t ∧ goes .backout b t
            ∧ Answered [.build, .req] s t tag 0x32 .ok (u8 b.1.code))
        ∧ (∀ p seq, holds p → s.portUp p = true →
          ∃ t, exec (.backoutRequest p seq) s = .next t ∧ goes .backout b t
            ∧ t.fieldLine = s.fieldLine ++ [(p, eventAnswerFrame seq (.status .ok))]
            ∧ Acted [.build, .req, .fieldLine] s t)))

/-- RETRACTED, PLACED, RETURNED and HOLDING accepted: answered OK, the groups, the next phase with its action asked, or
faulted PORT_LOST with the next phase's port out of service, the piece moved into the ring at PLACED, and the step ended at
HOLDING (R122, R111, R117, R120). An event that fails a test of R122 is answered NOT_EXPECTED and changes nothing. -/
def Obligations.StepEventsAccepted : Prop :=
  (∀ (p : PortNo) (seq : Byte) (s : State), s.portUp p = true →
    let awaited := fun (state : StepState) (names : Step → Bool) => s.build.step.any fun st =>
      st.state == state && names st
        && (st.action == .accepted || s.req.table.any fun e => st.action == .requested e.seqNo && e.state.onLine)
    let thrust := fun (st : Step) => p == (if st.sector.val < 4 then 0 else 1)
    let refused := fun (i : Instr) => exec i s = .next (sendField p (eventAnswerFrame seq .notExpected) s)
    (∀ sector,
      (awaited .retracting (fun st => thrust st && st.sector.val == sector) = false →
          refused (.retracted p seq sector))
        ∧ (awaited .extending (fun st => thrust st && st.sector.val == sector) = false →
          refused (.holding p seq sector)))
    ∧ (∀ serial, awaited .placing (fun st => p == 10 && st.serial == serial) = false → refused (.placed p seq serial))
    ∧ (awaited .returning (fun _ => p == 10) = false → refused (.returned p seq)))
  ∧ ∀ (seq : Byte) (s : State) (st : Step), s.build.step = some st →
    (st.action = .accepted ∨ ∃ n, st.action = .requested n ∧ s.req.onLine n = true) →
    let thrust : PortNo := if st.sector.val < 4 then 0 else 1
    let moved := fun (state : StepState) (g : GroupState) (t : State) =>
      PhaseIssued { st with state := state, action := .none, timer := none } t
        ∧ t.build.owners = s.build.owners ∧ t.build.groups.get (sectorGroups st.sector).1 = g
        ∧ t.build.groups.get (sectorGroups st.sector).2 = g ∧ t.build.grant = s.build.grant
    let answered := fun (p : PortNo) (t : State) =>
      t.fieldLine = s.fieldLine ++ [(p, eventAnswerFrame seq (.status .ok))]
    let lost := fun (i : Instr) (p : PortNo) (state : StepState) (g : GroupState) (u : State) =>
      exec i s = .next (sendField p (eventAnswerFrame seq (.status .ok)) (stepFault .portLost
        (setStep (some { st with state := state, action := .none, timer := none }) (setGroups st.sector g u))))
    (st.state = .retracting → s.portUp thrust = true → s.portUp 10 = false →
      lost (.retracted thrust seq st.sector.val) thrust .placing .retracted s)
    ∧ (∀ r pos e piece rest, st.state = .placing → s.portUp 10 = true → s.portUp thrust = false →
        s.ring.current = some r → s.ring.next = some (pos, e) → s.ring.queue = piece :: rest →
        lost (.placed 10 seq st.serial) 10 .extending .extending (s.setRing { s.ring with
          current := some { r with placed := r.placed ++ [⟨e.slot, e.kind, piece.serial⟩] }, queue := rest }))
    ∧ (st.state = .returning → s.portUp 10 = true → s.portUp thrust = false →
        lost (.returned 10 seq) 10 .extending .extending s)
    ∧ (st.state = .retracting → s.portUp thrust = true → s.portUp 10 = true →
      ∃ t, exec (.retracted thrust seq st.sector.val) s = .next t ∧ moved .placing .retracted t ∧ answered thrust t
        ∧ Acted [.build, .req, .fieldLine] s t)
    ∧ (∀ r pos e piece rest, st.state = .placing → s.portUp 10 = true → s.portUp thrust = true →
        s.ring.current = some r → s.ring.next = some (pos, e) → s.ring.queue = piece :: rest →
        ∃ t, exec (.placed 10 seq st.serial) s = .next t ∧ moved .extending .extending t ∧ answered 10 t
          ∧ t.ring = { s.ring with
              current := some { r with placed := r.placed ++ [⟨e.slot, e.kind, piece.serial⟩] }, queue := rest }
          ∧ Acted [.build, .req, .ring, .fieldLine] s t)
    ∧ (st.state = .returning → s.portUp 10 = true → s.portUp thrust = true →
        ∃ t, exec (.returned 10 seq) s = .next t ∧ moved .extending .extending t ∧ answered 10 t
          ∧ Acted [.build, .req, .fieldLine] s t)
    ∧ (st.state = .extending → s.portUp thrust = true →
        ∃ t, exec (.holding thrust seq st.sector.val) s = .next t ∧ t.build.step = none ∧ answered thrust t
          ∧ t.build.owners = put s.build.owners st.sector .none ∧ t.build.grant = s.build.grant
          ∧ (s.adv.state ≠ .boring → t.build.groups.get (sectorGroups st.sector).1 = .hold
              ∧ t.build.groups.get (sectorGroups st.sector).2 = .hold)
          ∧ (s.out.mode = .normal → SetpointsHeld t)
          ∧ Reported (.placement s.ring.number st.position st.sector st.kind st.serial
              (match st.direction with | .forward => .placed | .backout => .backedOut) st.startedBy) t
          ∧ Acted [.build, .req, .fieldLine] s t)

/-- A fault of a running step: the record of R124, its action's entry withdrawn (R152), the sector and its groups kept, the
fault record and the report; a step in STEP_FAULT, or none, is not touched (R124). PHASE_TIMER_EXPIRY faults the step with
TIMEOUT when its timer runs (R123); that it changes nothing when no phase timer runs is the model's choice (log 4). -/
def Obligations.StepFaultRule : Prop :=
  (∀ (cause : StepCause) (s : State),
      let t := stepFault cause s
      (∀ st, s.build.step = some st → st.state.running = true →
        let ph : FaultedPhase := if st.direction = .backout then .backout
          else match st.state with
            | .retracting => .retracting
            | .placing => .placing
            | _ => .extending
        t.build.step = some { st with
            state := .stepFault, action := .none, timer := none, faultedPhase := some ph, cause := some cause
            backoutState := if st.direction = .backout then
              some (if st.state = .returning then .returning else .extending) else none }
          ∧ t.build.owners = s.build.owners ∧ t.build.grant = s.build.grant
          ∧ (s.build.owners.get st.sector = .build →
              t.build.groups.get (sectorGroups st.sector).1 = s.build.groups.get (sectorGroups st.sector).1
                ∧ t.build.groups.get (sectorGroups st.sector).2 = s.build.groups.get (sectorGroups st.sector).2)
          ∧ (s.out.faults.length < 8 → t.build.groups = s.build.groups
              ∧ t.req = match st.action with
                | .pending => { s.req with waits := s.req.waits.filter (·.origin != .build) }
                | .requested n => { s.req with table := s.req.table.filter fun e =>
                    !(e.seqNo == n && e.state.offLine) }
                | .none | .accepted => s.req)
          ∧ FaultAdded ⟨.stepFault, .build, none, some (phasePort st.state st.sector), none, cause.record,
              s.ring.number, s.adv.x⟩ s t
          ∧ Reported (.stepFault s.ring.number st.position st.sector st.serial ph cause st.direction) t
          ∧ Acted (.out :: permitReach) s t)
      ∧ ((s.build.step = none ∨ ∃ st, s.build.step = some st ∧ st.state.running = false) → t = s))
    ∧ (∀ s : State,
      (∀ st, s.build.step = some st → st.timer ≠ none → exec .phaseTimerExpiry s = .next (stepFault .timeout s))
      ∧ ((s.build.step = none ∨ ∃ st, s.build.step = some st ∧ st.timer = none) →
          exec .phaseTimerExpiry s = .next s))

/-- The grant is free at power-on. LOCAL_REQUEST and LOCAL_RELEASE: the tests of R128 in their order, the grant taken or
given back, its report, and the event answer (R128; the release is one of the endings of R130). -/
def Obligations.LocalControlRule : Prop :=
  (∀ (estop : Bool) (straps : Vector Straps 16), (State.powered estop straps).build.grant = .free)
  ∧ ∀ (p : PortNo) (seq : Byte) (s : State), (p = 14 ∨ p = 15) → s.portUp p = true →
    let mine : Grant := if p = 14 then .port14 else .port15
    let said := fun (i : Instr) (st : EventStatus) (u : State) =>
      exec i s = .next (sendField p (eventAnswerFrame seq st) u)
    (s.build.grant = mine →
      said (.localRequest p seq) (.status .already) s
        ∧ said (.localRelease p seq) (.status .ok)
            (report (.localControl .ended p s.ring.number .released)
              (s.setBuild { s.build with grant := .free })))
    ∧ (s.build.grant ≠ mine → s.build.grant ≠ .free → said (.localRequest p seq) (.status .inUse) s)
    ∧ (s.build.grant = .free →
        (s.ring.state ≠ .building ∨ s.build.step ≠ none ∨ s.out.mode ≠ .normal
          ∨ (s.ports.get p).state ≠ .ready) →
        said (.localRequest p seq) .notExpected s)
    ∧ (s.build.grant = .free → s.ring.state = .building → s.build.step = none → s.out.mode = .normal →
        (s.ports.get p).state = .ready →
        said (.localRequest p seq) (.status .ok)
          (report (.localControl .granted p s.ring.number .none) (s.setBuild { s.build with grant := mine })))
    ∧ (s.build.grant ≠ mine → said (.localRelease p seq) .notExpected s)

/-! ## The station ports (chapter 08) -/

/-- STRAP_LINE_CHANGE: a detect line in EMPTY, SETTLING and the later states, in BYPASSED, and a sense line. A station
removed leaves no request and no confirmed value behind (R156), and one removed in service a PORT_LOST record
(R134, R142, R143, R144, R146). That the strap readings R142 clears are then all open is the model's reading (log 21). -/
def Obligations.StrapLinesMoveThePort : Prop :=
  ∀ (p : PortNo) (l : StrapLine) (level : Bool) (s : State),
    let pt := s.ports.get p
    let w := withLevel pt.straps l level
    let made := (w.d1 || w.d2) = true
    let partial_ := if w.d1 = w.d2 then none else some 2000
    let stands := fun (t : State) => ∀ q, q ≠ p → t.ports.get q = s.ports.get q
    let cleared := fun (t : State) => (∀ e ∈ t.req.table, e.port ≠ p) ∧ (∀ w ∈ t.req.waits, w.port ≠ p)
      ∧ (∀ i, (t.req.point p i).confirmed = none)
    (strapLevel pt.straps l = level → exec (.strapLineChange p l level) s = .next s)
    ∧ (strapLevel pt.straps l ≠ level → ((l = .s1 ∨ l = .s2) ∨ pt.state = .bypassed) →
        exec (.strapLineChange p l level) s = .next (s.setPorts (put s.ports p { pt with straps := w })))
    ∧ (strapLevel pt.straps l ≠ level → (l = .d1 ∨ l = .d2) →
        (pt.state = .empty → made →
          ∃ t, exec (.strapLineChange p l level) s = .next t ∧ stands t
            ∧ t.ports.get p = { pt with
                state := .settling, cause := .inserted, supply := false, identity := none, straps := w
                debounce := some 50, partialTimer := partial_, settle := none, stale := none }
            ∧ Reported (.port p .empty .settling .inserted false none none) t ∧ Acted portReach s t)
        ∧ (pt.state = .settling → made →
          exec (.strapLineChange p l level) s
            = .next (s.setPorts (put s.ports p { pt with
                straps := w, debounce := some 50, partialTimer := partial_ })))
        ∧ (pt.state = .settling → ¬ made →
          ∃ t, exec (.strapLineChange p l level) s = .next t ∧ stands t
            ∧ t.ports.get p = { pt with
                state := .empty, cause := .removed, supply := false, identity := none, straps := w
                debounce := none, partialTimer := none, settle := none, stale := none }
            ∧ cleared t
            ∧ Reported (.port p .settling .empty .removed false none none) t ∧ Acted portReach s t)
        ∧ ((pt.state = .powering ∨ pt.state = .identifying ∨ pt.state = .ready ∨ pt.state = .stale
              ∨ pt.state = .refused ∨ pt.state = .faulted) → level = false →
          ∃ t, exec (.strapLineChange p l level) s = .next t ∧ stands t
            ∧ t = detect p (changePort p .empty .removed none (s.setPorts (put s.ports p { pt with
                straps := w, strapRead := Straps.open, noAnswer := 0 })))
            ∧ (t.ports.get p).state = (if w.d1 || w.d2 then .settling else .empty)
            ∧ (t.ports.get p).supply = false ∧ (t.ports.get p).identity = none ∧ (t.ports.get p).noAnswer = 0
            ∧ cleared t
            ∧ ((pt.state = .ready ∨ pt.state = .stale) →
                Recorded ⟨.portLost, .port, none, some p, none, .removed, s.ring.number, s.adv.x⟩ t)
            ∧ Reported (.port p pt.state .empty .removed false none none) t ∧ Acted portReach s t)
        ∧ ((pt.state = .powering ∨ pt.state = .identifying ∨ pt.state = .ready ∨ pt.state = .stale
              ∨ pt.state = .refused ∨ pt.state = .faulted) → level = true →
          exec (.strapLineChange p l level) s = .next (s.setPorts (put s.ports p { pt with straps := w }))))

/-- The four timers of a port at their expiries: the sense decode by the table of R135, a partial insertion, the end of
the settle with its IDENTIFY, and the missing sample (R134, R135, R136, R137, R140). That the decode stores the levels of
D1 and D2 with those of S1 and S2 is the model's choice (log 34). -/
def Obligations.PortTimersExpire : Prop :=
  ∀ (p : PortNo) (s : State),
    let pt := s.ports.get p
    let stands := fun (t : State) => ∀ q, q ≠ p → t.ports.get q = s.ports.get q
    let high := Config.supply48 (Config.portClass p)
    let found : PortState × PortCause := match pt.straps.s1, pt.straps.s2 with
      | true, true => (.refused, .reservedCode)
      | true, false => (.powering, .accepted)
      | false, true => if high then (.powering, .accepted) else (.refused, .supplyMismatch)
      | false, false => if high then (.refused, .supplyMismatch) else (.powering, .accepted)
    (pt.debounce ≠ none → pt.straps.d1 = true → pt.straps.d2 = true →
      ∃ t, exec (.debounceTimerExpiry p) s = .next t ∧ stands t
        ∧ t.ports.get p = { pt with
            state := found.1, cause := found.2, supply := found.1 = .powering, identity := none
            strapRead := pt.straps, noAnswer := if found.1 = .powering then 0 else pt.noAnswer
            debounce := none, partialTimer := none, stale := none
            settle := if found.1 = .powering then some 250 else none }
        ∧ Acted portReach s t)
    ∧ (pt.debounce ≠ none → ¬ (pt.straps.d1 = true ∧ pt.straps.d2 = true) →
        exec (.debounceTimerExpiry p) s = .next (s.setPorts (put s.ports p { pt with debounce := none })))
    ∧ (pt.partialTimer ≠ none →
        ∃ t, exec (.partialTimerExpiry p) s = .next t ∧ stands t
          ∧ t = changePort p .refused .partialInsertion none s ∧ (t.ports.get p).state = .refused
          ∧ (t.ports.get p).cause = .partialInsertion ∧ (t.ports.get p).supply = false ∧ Acted portReach s t)
    ∧ (pt.settle ≠ none →
        ∃ t, exec (.settleTimerExpiry p) s = .next t ∧ stands t ∧ (t.ports.get p).state = .identifying
          ∧ (t.ports.get p).cause = .settled ∧ (t.ports.get p).supply = true
          ∧ t.req.identifying p = true ∧ Acted portReach s t)
    ∧ (pt.stale ≠ none →
        ∃ t, exec (.staleTimerExpiry p) s = .next t ∧ stands t ∧ t = changePort p .stale .noSample none s
          ∧ t.ports.get p = { pt with
              state := .stale, cause := .noSample, supply := true, debounce := none, partialTimer := none
              settle := none, stale := none }
          ∧ Acted portReach s t)

/-- SAMPLE_FRAME in service: the stale timer restarts, STALE returns to READY, and the readings go to the block of the
class; a body that does not hold the declared channels, and a port out of service, take nothing, but for the belt sample
that had reached its unit before port 6 was lost, which is taken once (R70; that the row of an unpowered port stands for it
is the model's choice, log 25). An event on a port out of service, or of a kind the port's class does not send, is answered
NOT_EXPECTED while the port is powered. A bad field frame leaves no trace, and the bytes of a good one act as its row
(R139, R140, R163, R164; log 23). -/
def Obligations.StationFramesAreTaken : Prop :=
  (∀ (p : PortNo) (body : List Byte) (rs : List Reading) (idn : Identity) (s : State),
    (s.ports.get p).identity = some idn → s.portUp p = true → sampleReadings idn.channels body = some rs →
    let stale := some (3 * Config.reportPeriod (Config.portClass p))
    let fresh := s.setPorts (put s.ports p { s.ports.get p with stale := stale })
    let took := fun (u : State) =>
      if p = 2 then strokeSample rs u
      else if p = 3 then chamberSample rs u
      else if p = 4 then cutterSample (readingValue rs 0) u
      else if p = 6 then beltSample (readingValue rs 0) (readingValue rs 1) u
      else u
    ((s.ports.get p).state = .ready → exec (.sampleFrame p body) s = .next (took fresh))
      ∧ ((s.ports.get p).state = .stale →
          exec (.sampleFrame p body) s = .next (took (movePort p .ready .sample fresh))
            ∧ (movePort p .ready .sample fresh).ports.get p
              = { s.ports.get p with
                  state := .ready, cause := .sample, supply := true, stale := stale, debounce := none
                  partialTimer := none, settle := none }))
    ∧ (∀ (p : PortNo) (body : List Byte) (s : State),
        let late := p = 6 ∧ s.muck.late = true ∧ (s.ports.get p).state.powered = false
        (∀ idn, (s.ports.get p).identity = some idn →
            (s.portUp p = false ∨ body.length ≠ 1 + 3 * idn.channels ∨ fld body 0 1 ≠ idn.channels) →
            exec (.sampleFrame p body) s = .next s)
          ∧ ((s.ports.get p).identity = none → (¬ late ∨ sampleReadings 2 body = none) →
            exec (.sampleFrame p body) s = .next s)
          ∧ (∀ rs, (s.ports.get p).identity = none → late → sampleReadings 2 body = some rs →
            exec (.sampleFrame p body) s
              = .next (beltSample (readingValue rs 0) (readingValue rs 1)
                  (s.setMuck { s.muck with late := false }))))
    ∧ (∀ (p : PortNo) (bytes : List Byte) (s : State),
        let row := fun (seq : Byte) (e : StationEvent) => match e with
          | .retracted sector => Instr.retracted p seq sector
          | .holding sector => .holding p seq sector
          | .placed serial => .placed p seq serial
          | .returned => .returned p seq
          | .strokeDone line delivered peak => .strokeDone p seq line delivered peak
          | .pieceArrived kind serial => .pieceArrived p seq kind serial
          | .localRequest => .localRequest p seq
          | .localRelease => .localRelease p seq
          | .placeRequest => .placeRequest p seq
          | .retryRequest => .retryRequest p seq
          | .backoutRequest => .backoutRequest p seq
        let powered := (s.ports.get p).state.powered = true
        let notExpected := fun (seq : Byte) =>
          if powered then sendField p (eventAnswerFrame seq .notExpected) s else s
        (fieldFrame bytes = none → exec (.fieldFrameDiscard p bytes) s = .next s)
        ∧ (∀ seq body, fieldFrame bytes = some (.answer seq body) →
            exec (.fieldFrameDiscard p bytes) s = exec (.answerFrame p seq body) s)
        ∧ (∀ body, fieldFrame bytes = some (.sample body) →
            exec (.fieldFrameDiscard p bytes) s = exec (.sampleFrame p body) s)
        ∧ (∀ seq body e, fieldFrame bytes = some (.event seq body) → eventBody body = .event e →
            exec (.fieldFrameDiscard p bytes) s = exec (row seq e) s)
        ∧ (∀ seq body, fieldFrame bytes = some (.event seq body) → eventBody body = .unknownKind →
            exec (.fieldFrameDiscard p bytes) s = .next (notExpected seq))
        ∧ (∀ seq body cls, fieldFrame bytes = some (.event seq body) → eventBody body = .misfit cls →
            exec (.fieldFrameDiscard p bytes) s
              = .next (if s.portUp p = true ∧ Config.portClass p = cls then s else notExpected seq))
        ∧ (∀ seq e, (s.portUp p = false ∨ Config.portClass p ≠ e.sentBy) →
            exec (row seq e) s = .next (notExpected seq)))
    ∧ (∀ (torque : Nat) (s : State),
        let v := min torque 2000
        let u := s.setAdv { s.adv with torque := v }
        let w := if v < s.adv.tWarn then writeEntry .torque .clear .none u
          else if v < 1000 then writeEntry .torque .reduced .warn u
          else writeEntry .torque .hold .over u
        cutterSample torque s
          = if s.ring.state = .boring then
              w.setRing { w.ring with
                current := w.ring.current.map fun r => { r with peakTorque := max r.peakTorque v } }
            else w)

/-- PORT_BYPASS and PORT_RESTORE: their tests, the port's new entry, and the reply; a port above 15 is BAD_VALUE (R145). -/
def Obligations.BypassAndRestore : Prop :=
  (∀ (tag : Byte) (port : Nat) (s : State), handsOn s → 15 < port →
    exec (.portBypass tag port) s = .next (withReply tag 0x38 .badValue [] s)
      ∧ exec (.portRestore tag port) s = .next (withReply tag 0x39 .badValue [] s))
  ∧ ∀ (tag : Byte) (p : PortNo) (s : State), handsOn s →
    let pt := s.ports.get p
    let may := p.val = 6 ∨ p.val = 7 ∨ p.val = 8 ∨ p.val = 9 ∨ p.val = 12 ∨ p.val = 13 ∨ p.val = 14 ∨ p.val = 15
    let stands := fun (t : State) => ∀ q, q ≠ p → t.ports.get q = s.ports.get q
    (¬ may → exec (.portBypass tag p.val) s = .next (withReply tag 0x38 .badValue [] s))
    ∧ (may → pt.state = .bypassed → exec (.portBypass tag p.val) s = .next (withReply tag 0x38 .already [] s))
    ∧ (may → pt.state ≠ .bypassed →
        ∃ t, exec (.portBypass tag p.val) s = .next t ∧ stands t
          ∧ t = withReply tag 0x38 .ok (u8 pt.state.code ++ [8])
              (changePort p .bypassed .bypass none (s.setPorts (put s.ports p { pt with noAnswer := 0 })))
          ∧ t.ports.get p = { pt with
              state := .bypassed, cause := .bypass, supply := false, identity := none, noAnswer := 0
              debounce := none, partialTimer := none, settle := none, stale := none }
          ∧ (∀ e ∈ t.req.table, e.port ≠ p) ∧ (∀ w ∈ t.req.waits, w.port ≠ p)
          ∧ (∀ i, (t.req.point p i).confirmed = none)
          ∧ Reported (.port p pt.state .bypassed .bypass false none none) t
          ∧ Answered portReach s t tag 0x38 .ok (u8 pt.state.code ++ [8]))
    ∧ ((pt.state = .bypassed ∨ pt.state = .faulted ∨ pt.state = .refused) →
        ∃ t, exec (.portRestore tag p.val) s = .next t ∧ stands t
          ∧ t = withReply tag 0x39 .ok []
              (detect p (changePort p .empty .restore none (s.setPorts (put s.ports p { pt with noAnswer := 0 }))))
          ∧ (t.ports.get p).state = (if pt.straps.d1 || pt.straps.d2 then .settling else .empty)
          ∧ (t.ports.get p).cause = (if pt.straps.d1 || pt.straps.d2 then .inserted else .restore)
          ∧ (t.ports.get p).noAnswer = 0 ∧ (t.ports.get p).supply = false
          ∧ Answered portReach s t tag 0x39 .ok [])
    ∧ (pt.state ≠ .bypassed → pt.state ≠ .faulted → pt.state ≠ .refused →
        exec (.portRestore tag p.val) s = .next (withReply tag 0x39 .wrongState [] s))

/-- A change of a port's state enters the new state, reports it, and takes each of its tellings once, in some order (R143,
R32); among them, for a port out of service, the one of its class. That the rows of the port make their changes so stands
in StrapLinesMoveThePort, PortTimersExpire and BypassAndRestore. Each says what it does: STROKE_REF BLIND (R3), the cutter
STOPPED with the torque 0 (R22), CHAMBER BLIND with P held (R43), MUCK BLIND (R63), the lines of a pump FAULTED (R90), the
running step PORT_LOST (R125), the grant ended (R130), the port's requests PORT_LOST and its confirmed values absent (R156),
and the fault record (R144). That an invalid reading keeps its number (log 9), and the flag of a late belt sample that
markLate sets or clears at a change of port 6 (log 25), are the model's choices; that the entry and the PORT report come
before the tellings is its reading (log 16). -/
def Obligations.LostPortsAreTold : Prop :=
  (∀ (p : PortNo) (new : PortState) (cause : PortCause) (outcome : Option ReqOutcome) (s : State),
      let old := (s.ports.get p).state
      let u := portReport p old outcome (modPort p (Port.enter new cause) s)
      let v := if p = 6 then markLate old new u else u
      ∃ order : List (State → State), order.Perm (portTellings p old new (portRecord old cause outcome))
        ∧ changePort p new cause outcome s = order.foldl (fun s f => f s) (v.setTick (v.tick + 1)))
    ∧ (∀ (p : PortNo) (old new : PortState) (cause : Option FaultCause),
      let told := portTellings p old new cause
      (∀ c, cause = some c → recordPort p (some c) ∈ told)
      ∧ ((new = .empty ∨ new = .refused ∨ new = .faulted ∨ new = .bypassed) → loseRequests p ∈ told)
      ∧ (p.val ≤ 5 → stationTelling ∈ told)
      ∧ (new ≠ .ready → new ≠ .stale →
          (p = 2 → loseStroke ∈ told) ∧ (p = 3 → loseChamber ∈ told) ∧ (p = 4 → loseCutter ∈ told)
          ∧ (p = 6 → loseScale ∈ told) ∧ (p = 7 ∨ p = 8 ∨ p = 9 → losePump p ∈ told)
          ∧ (p = 0 ∨ p = 1 ∨ p = 10 → loseStepPort p ∈ told))
      ∧ (p = 14 ∨ p = 15 → old = .ready → loseGrantPort p ∈ told))
    ∧ (∀ (old : PortState) (outcome : ReqOutcome),
      portRecord old .removed none = (if old = .ready ∨ old = .stale then some .removed else none)
        ∧ portRecord old .noAnswer none = some .noAnswer
        ∧ portRecord old .identifyFailed (some outcome) = some (.identifyFailed outcome))
    ∧ (∀ (p : PortNo) (c : FaultCause) (s : State),
      recordPort p (some c) s
        = handFault ⟨.portLost, .port, none, some p, none, c, s.ring.number, s.adv.x⟩ s)
    ∧ (∀ s : State,
      loseStroke s = writeEntry .strokeRef .hold .blind (s.setAdv { s.adv with
          readings := s.adv.readings.map fun r => { r with valid := false } })
        ∧ loseChamber s = writeEntry .chamber .hold .blind (s.setPres { s.pres with
          readings := s.pres.readings.map fun r => { r with valid := false }, held := true })
        ∧ loseScale s = writeEntry .muck .reduced .blind (s.setMuck { s.muck with blind := true }))
    ∧ (∀ s : State,
      let t := loseCutter s
      t.adv.cutter = .stopped ∧ t.adv.torque = 0
        ∧ (s.adv.cutter ≠ .stopped → t.adv.state = if s.adv.state.active then .idle else s.adv.state)
        ∧ (t.permit.table.get Source.torque.idx).level = .clear
        ∧ (t.permit.table.get Source.torque.idx).cause = .none ∧ Acted permitReach s t)
    ∧ (∀ (p : PortNo) (s : State),
      let t := losePump p s
      (∀ i, t.line i =
          if pumpPort i ≠ p then s.line i
          else if (s.line i).state = .stopped then { s.line i with phase := .none }
          else { s.line i with
            phase := .none, state := .faulted, timer := none
            timings := (s.line i).staged.getD (s.line i).timings, staged := none })
        ∧ (∀ i, pumpPort i = p → (s.line i).state ≠ .stopped → (s.line i).state ≠ .faulted →
          Recorded ⟨.lineFault, .grout, none, some p, some i.val, .portLost, s.ring.number, s.adv.x⟩ t
            ∧ Reported (.line i (s.line i).state .faulted (s.line i).mode .portLost (s.line i).backlog .none
                s.ring.number) t)
        ∧ (t.permit.table.get Source.grout.idx).level = (groutLevel s.ring.state t.lines).1
        ∧ Acted (.lines :: .out :: permitReach) s t)
    ∧ (∀ (p : PortNo) (s : State),
      (∀ st, s.build.step = some st → st.state.running = true → phasePort st.state st.sector = p →
          loseStepPort p s = stepFault .portLost s)
        ∧ ((s.build.step = none ∨ ∃ st, s.build.step = some st
            ∧ (st.state.running = false ∨ phasePort st.state st.sector ≠ p)) → loseStepPort p s = s))
    ∧ (∀ (p : PortNo) (s : State),
      let holds := p = 14 ∧ s.build.grant = .port14 ∨ p = 15 ∧ s.build.grant = .port15
      (holds → loseGrantPort p s
          = report (.localControl .ended p s.ring.number .port) (s.setBuild { s.build with grant := .free }))
        ∧ (¬ holds → loseGrantPort p s = s))
    ∧ (∀ (p : PortNo) (s : State), s.portUp p = false →
      let t := loseRequests p s
      (∀ e ∈ t.req.table, e.port ≠ p) ∧ (∀ w ∈ t.req.waits, w.port ≠ p)
        ∧ (∀ i, (t.req.point p i).confirmed = none)
        ∧ t.ports = s.ports
        ∧ ((s.req.table.map (·.seqNo)).Nodup → ∀ e ∈ s.req.table, e.port = p →
          (e.origin = .safe → t.out.outstanding.get p = false)
          ∧ (∀ tag, e.origin = .host → e.tag = some tag →
            Reported (.requestDone tag e.seqNo p e.kind .portLost
              (match e.state with | .inFlight _ => e.attempts | .queued | .retryWait => e.attempts - 1)) t)
          ∧ (∀ pairs, e.origin ≠ .safe → e.kind = .write pairs →
            Recorded ⟨.writeFailed, e.origin, e.tag, some p, e.kind.firstPoint, .portLost, s.ring.number,
              s.adv.x⟩ t)))

/-! ## Field requests and the Output Image (chapter 09) -/

/-- STATION_READ and STATION_WRITE: the tests of R149 in their order, the entry registered as the newest, and for a
write the points asked; a port above 15 is BAD_VALUE (R148, R149, R159). -/
def Obligations.StationRequestsRegister : Prop :=
  (∀ (tag : Byte) (port : Nat) (points : List Nat) (pairs : List (Nat × Nat)) (s : State), handsOn s → 15 < port →
    exec (.stationRead tag port points) s = .next (withReply tag 0x40 .badValue [] s)
      ∧ exec (.stationWrite tag port pairs) s = .next (withReply tag 0x41 .badValue [] s))
  ∧ ∀ (tag : Byte) (p : PortNo) (points : List Nat) (pairs : List (Nat × Nat)) (s : State), handsOn s →
    pairs.map (·.1) = points →
    let listed := (1 ≤ points.length ∧ points.length ≤ 8) ∧ (∀ i ∈ points, i < 16) ∧ points.Nodup
    let fresh := ∀ e ∈ s.req.table, e.origin = .host → e.tag ≠ some tag
    let room := (s.req.table.filter (·.origin == .host)).length < 24 ∧ s.req.table.length < 32
    let live := ∀ i ∈ points, ∀ idn, (s.ports.get p).identity = some idn → i < idn.points
    let n := if s.req.counter = 4294967295 then 1 else s.req.counter + 1
    let both := fun (st : Status) =>
      exec (.stationRead tag p.val points) s = .next (withReply tag 0x40 st [] s)
        ∧ exec (.stationWrite tag p.val pairs) s = .next (withReply tag 0x41 st [] s)
    (¬ listed → both .badValue)
    ∧ (listed → ¬ fresh → both .duplicateTag)
    ∧ (listed → fresh → ¬ room → both .tableFull)
    ∧ (listed → fresh → room → s.portUp p = false → both .portNotReady)
    ∧ (listed → fresh → room → s.portUp p = true → (s.ports.get p).identity ≠ none → ¬ live → both .badValue)
    ∧ (listed → fresh → room → s.portUp p = true → (s.ports.get p).identity ≠ none → live →
        exec (.stationRead tag p.val points) s
            = .next (withReply tag 0x40 .ok (u32 n) (s.setReq { s.req with
                counter := n
                table := s.req.table ++ [⟨.host, some tag, p, .read points, .queued, 1, n⟩] }))
          ∧ ((∃ i ∈ points, Config.pointOwner p i ≠ .free) →
              exec (.stationWrite tag p.val pairs) s = .next (withReply tag 0x41 .pointOwned [] s))
          ∧ ((∀ i ∈ points, Config.pointOwner p i = .free) →
              ∃ t, exec (.stationWrite tag p.val pairs) s = .next t
                ∧ t.req.table = s.req.table ++ [⟨.host, some tag, p, .write pairs, .queued, 1, n⟩]
                ∧ t.req.counter = n ∧ t.req.waits = s.req.waits
                ∧ (∀ (i : Fin 16) (v : Nat), (i.val, v) ∈ pairs →
                    t.req.point p i = { s.req.point p i with commanded := some v, state := .pending })
                ∧ (∀ (q : PortNo) (i : Fin 16), (q ≠ p ∨ i.val ∉ points) → t.req.point q i = s.req.point q i)
                ∧ Answered [.req] s t tag 0x41 .ok (u32 n)))

/-- GET_STATUS, GET_QUEUES, GET_RING and SAMPLE_OUTPUTS are taken in every state and change nothing, but that GET_STATUS
clears the overflow flag after its reply has taken it; the replies hold the fields that R185 (with R53, R71, R94, R113, R132,
R146, R162 and R168), R186, R108 (with R105) and R162 list, in their order. The bytes of named values in running text (log
7), the flags and the groups without a count byte (log 8), and the layouts the rules leave open (log 28) are the model's. -/
def Obligations.ReadsChangeNothing : Prop :=
  ∀ (tag : Byte) (s : State), handsOn s →
    let reading := fun (r : Reading) => u16 r.value ++ flag r.valid
    let timings := fun (t : Timings) => u16 t.tP ++ u16 t.tS ++ u16 t.tW
    let pair := fun (pv : Nat × Nat) => u8 pv.1 ++ u16 pv.2
    let slot := fun (e : PlanEntry) => u8 e.slot.val ++ u8 e.kind.code
    let identity := fun (i : Identity) => u8 i.cls.code ++ u8 i.revision ++ u8 i.points ++ u8 i.channels
    let link := flag s.link.overflow ++ u8 s.link.reports.length ++ u8 s.link.replies.length
      ++ u16 s.link.lengthErrors ++ u16 s.link.gapDiscards ++ u16 s.link.crcErrors ++ u16 s.link.overruns
    let permit := u8 s.permit.level.code ++ u8 s.permit.deciding.code
    let adv := u8 s.adv.state.code ++ u8 s.adv.rReq ++ u8 s.adv.cutter.code ++ u16 s.adv.cutter.speed
      ++ s.adv.readings.toList.flatMap reading ++ u16 s.adv.m ++ u16 s.adv.a ++ u16 s.adv.x
      ++ u8 s.adv.c1 ++ u32 s.adv.c2 ++ u32 s.adv.c3 ++ u16 s.adv.torque ++ flag s.adv.geometry.configured
      ++ u32 s.adv.geometry.aF ++ u16 s.adv.geometry.aA ++ u16 s.adv.geometry.width
      ++ u16 s.adv.geometry.clearance ++ u16 s.adv.geometry.strokeLimit
      ++ u16 s.adv.ground.rho ++ u16 s.adv.ground.fill ++ u16 s.adv.ground.voidCap
      ++ u16 s.adv.fRed ++ u16 s.adv.tWarn
    let settings := fun (a : PSettings) => u16 a.pSet ++ u16 a.bS ++ u16 a.bH ++ u16 a.gain ++ u8 a.rate
      ++ u8 a.sMin ++ u8 a.sMax ++ u16 a.dOvx
    let pres := s.pres.readings.toList.flatMap reading ++ u16 s.pres.p ++ flag s.pres.held
      ++ settings s.pres.active ++ flag s.pres.waiting.isSome ++ u8 s.pres.setpoint
      ++ u8 (screwCeil s.pres.active s.pres.muckTold) ++ u8 s.pres.muckTold.code
    let muck := u32 s.muck.measured ++ u32 s.muck.releasedExp ++ s48 s.muck.e ++ u32 s.muck.vApplied
      ++ u16 s.muck.active.lT ++ u16 s.muck.active.lOvx ++ flag s.muck.waiting.isSome ++ flag s.muck.blind
    let line := fun (l : Line) => u8 l.mode.code ++ u8 l.state.code ++ u8 l.weight ++ u16 l.vs ++ u16 l.pLimit
      ++ u32 l.lag ++ u32 l.backlog ++ u16 l.rem ++ u8 l.phase.code ++ timings l.timings ++ opt timings l.staged
      ++ u32 l.ringDelivered ++ u32 l.lifetime
    let ring := u8 s.ring.state.code ++ u16 (s.ring.current.elim 0 (·.number))
      ++ opt (fun r => u8 r.key.val) s.ring.current ++ u8 (s.ring.current.elim 0 (·.placed.length))
      ++ opt (fun e => u8 e.1 ++ slot e.2) s.ring.next ++ u16 s.ring.lastNumber ++ u8 s.ring.queue.length
    let step := fun (st : Step) => u8 st.direction.code ++ u8 st.sector.val ++ u8 st.position ++ u8 st.kind.code
      ++ u32 st.serial ++ u8 st.startedBy.code ++ u8 st.action.code ++ opt (fun f => u8 f.code) st.faultedPhase
      ++ opt (fun b => u8 b.code) st.backoutState ++ opt (fun c => u8 c.code) st.cause ++ flag st.timer.isSome
    let build := s.build.owners.toList.flatMap (fun o => u8 o.code)
      ++ s.build.groups.toList.flatMap (fun g => u8 g.code) ++ u8 (s.build.step.elim 0 (·.state.code))
      ++ opt step s.build.step ++ u8 s.build.grant.code
    let port := fun (pt : Port) => u8 pt.state.code ++ u8 pt.cause.code ++ u8 (if pt.supply then 0 else 1)
      ++ u8 (if pt.strapRead.d1 then 0 else 1) ++ u8 (if pt.strapRead.d2 then 0 else 1)
      ++ u8 (if pt.strapRead.s1 then 1 else 0) ++ u8 (if pt.strapRead.s2 then 1 else 0)
      ++ opt identity pt.identity ++ u8 pt.noAnswer
    let dirty := ((List.finRange 16).map fun p =>
      ((List.finRange 16).filter fun i => (s.req.point p i).state == .dirty).length).sum
    let req := u8 s.req.table.length ++ u8 (s.req.table.filter (·.origin == .host)).length
      ++ u8 s.req.waits.length ++ u16 dirty
    let out := u8 s.out.mode.code ++ u8 s.out.cause.code ++ u8 (if s.out.estop then 0 else 1)
      ++ listOf (fun p => u8 p.val) ((List.finRange 16).filter fun p => s.out.outstanding.get p)
      ++ s.out.safe.toList.flatMap (listOf pair) ++ u8 s.out.faults.length
    let kind := fun (k : ReqKind) => u8 k.code ++ (match k with
      | .read points => listOf u8 points
      | .write pairs => listOf pair pairs
      | .action _ => [])
    let stroke := fun (v : Vector (Option Nat) 4) => v.toList.flatMap (opt u16)
    let record := fun (r : Record) => u16 r.number ++ u8 r.key.val ++ u8 r.state.code ++ stroke r.startStroke
      ++ opt stroke r.endStroke ++ (u16 r.x ++ u32 r.volume ++ u32 r.mass ++ u32 r.demand ++ u32 r.unassigned
        ++ u32 r.unmet ++ r.delivered.toList.flatMap u32 ++ u32 r.vApplied ++ u32 r.measured ++ u32 r.releasedExp
        ++ s48 r.finalE ++ opt (fun p => u16 p.1) r.pMinMax ++ opt (fun p => u16 p.2) r.pMinMax
        ++ u16 r.peakTorque ++ u16 r.holdCount)
      ++ listOf (fun e => u8 e.slot.val ++ u8 e.kind.code ++ u32 e.serial) r.placed ++ (buildPlan r.key).flatMap slot
    let found := fun (number : Nat) (r : Record) =>
      exec (.getRing tag number) s = .next (withReply tag 0x2D .ok (record r) s)
    exec (.getStatus tag) s
        = .next (withReply tag 0x50 .ok
            (link ++ permit ++ adv ++ pres ++ muck ++ (u16 (trackWeight s.lines) ++ s.lines.toList.flatMap line) ++ ring
              ++ build ++ s.ports.toList.flatMap port ++ req ++ out)
            (s.setLink { s.link with overflow := false }))
    ∧ exec (.getQueues tag) s
        = .next (withReply tag 0x52 .ok
            (listOf (fun q => u48 q.mass ++ u32 q.due ++ u16 q.ring) s.muck.queue ++ u48 (queuedMass s.muck.queue)
              ++ u32 s.muck.odometer ++ u48 s.muck.generated ++ u48 s.muck.released
              ++ listOf (fun q => u8 q.kind.code ++ u32 q.serial) s.ring.queue
              ++ listOf (fun e => [e.tag.getD 0] ++ u32 e.seqNo ++ u8 e.port.val ++ kind e.kind ++ u8 e.state.code
                  ++ u8 e.attempts) (s.req.table.filter (·.origin == .host))) s)
    ∧ (∀ p : PortNo,
        exec (.sampleOutputs tag p.val) s
          = .next (withReply tag 0x42 .ok
              (u8 (s.ports.get p).state.code ++ opt (fun i => u8 i.points) (s.ports.get p).identity
                ++ (List.finRange 16).flatMap (fun i => u8 (Config.pointOwner p i.val).code
                  ++ opt u16 (s.req.point p i).commanded ++ opt u16 (s.req.point p i).confirmed
                  ++ u8 (s.req.point p i).state.code)
                ++ listOf (fun e => u8 e.origin.code ++ u8 e.kind.code ++ u8 e.state.code ++ u8 e.attempts)
                  (s.req.table.filter (·.port == p))) s))
    ∧ (∀ port, 16 ≤ port → exec (.sampleOutputs tag port) s = .next (withReply tag 0x42 .badValue [] s))
    ∧ (∀ r number, s.ring.current = some r → (number = 0 ∨ number = r.number) → found number r)
    ∧ (∀ r number, (∀ c, s.ring.current = some c → number ≠ 0 ∧ number ≠ c.number) → number ≠ 0 →
        s.ring.history.find? (·.number == number) = some r → found number r)
    ∧ (∀ number, (∀ c, s.ring.current = some c → number ≠ 0 ∧ number ≠ c.number) →
        (number = 0 ∨ ∀ r ∈ s.ring.history, r.number ≠ number) →
        exec (.getRing tag number) s = .next (withReply tag 0x2D .notFound [] s))

/-- ANSWER_FRAME, ANSWER_TIMER_EXPIRY and RETRY_WAIT_EXPIRY for the host's READ in flight on a port in service: DONE,
REFUSED, BUSY and no answer, each with the REQUEST_DONE report, the no-answer count and the fault at 3; an answer that
does not match or does not fit, a DONE with another number of values among them, is no frame (R154, R155, R141, R162,
R144). That RETRY_WAIT_EXPIRY names its entry by
its place in the table is the model's choice (log 27). -/
def Obligations.AnswersEndRequests : Prop :=
  ∀ (p : PortNo) (e : Entry) (seq tag : Byte) (points : List Nat) (s : State),
    (s.req.table.find? fun d => d.port == p && d.state.onLine) = some e →
    e = ⟨.host, some tag, p, .read points, .inFlight seq, e.attempts, e.seqNo⟩ → s.portUp p = true →
    let pt := s.ports.get p
    let ends := fun (o : ReqOutcome) (count : Nat) (t : State) =>
      t.req = { s.req with table := s.req.table.erase e }
        ∧ t.ports = put s.ports p { pt with noAnswer := count }
        ∧ Reported (.requestDone tag e.seqNo p (.read points) o e.attempts) t ∧ Acted [.req, .ports, .tick] s t
    (∀ data, data.length = 2 * points.length → points.length < 256 →
      ∃ t, exec (.answerFrame p seq ([0] ++ u8 points.length ++ data)) s = .next t
        ∧ ends (.done (wordItems data)) 0 t)
    ∧ (∀ reason, ∃ t, exec (.answerFrame p seq [1, reason]) s = .next t ∧ ends (.refused reason) 0 t)
    ∧ (e.attempts < 4 →
        exec (.answerFrame p seq [2]) s
          = .next (s.setReq { s.req with
              table := replaceFirst (fun d => d == e)
                (fun d => { d with attempts := d.attempts + 1, state := .retryWait }) s.req.table }))
    ∧ (4 ≤ e.attempts → ∃ t, exec (.answerFrame p seq [2]) s = .next t ∧ ends .busyExhausted 0 t)
    ∧ (∀ other body, other ≠ seq → exec (.answerFrame p other body) s = .next s)
    ∧ (∀ result rest, 2 < result.toNat → exec (.answerFrame p seq (result :: rest)) s = .next s)
    ∧ (∀ count data, count < 256 → count ≠ points.length →
        exec (.answerFrame p seq ([0] ++ u8 count ++ data)) s = .next s)
    ∧ (∀ data, data.length ≠ 1 + 2 * points.length → exec (.answerFrame p seq ([0] ++ data)) s = .next s)
    ∧ (pt.noAnswer < 2 →
        ∃ t, exec (.answerTimerExpiry p) s = .next t ∧ ends .noAnswer (pt.noAnswer + 1) t)
    ∧ (pt.noAnswer = 2 →
        ∃ t, exec (.answerTimerExpiry p) s = .next t ∧ (t.ports.get p).state = .faulted
          ∧ (t.ports.get p).cause = .noAnswer ∧ (t.ports.get p).supply = false ∧ e ∉ t.req.table
          ∧ Recorded ⟨.portLost, .port, none, some p, none, .noAnswer, s.ring.number, s.adv.x⟩ t
          ∧ Acted portReach s t)
    ∧ (∀ place d, s.req.table[place]? = some d → d.state = .retryWait →
        exec (.retryWaitExpiry place) s
          = .next (s.setReq { s.req with table := s.req.table.set place { d with state := .queued } }))

/-- The outcome of the entry on a port's line, handed to the party that asked: a WRITE (the image, WRITE_FAILED and the host's
report; R155, R159, R160), a SAFE request (the outstanding set, SAFE_FAILED, the passage to CLAMPED; R170, R171), the step's
action (R121), a line's stroke (R79), and the IDENTIFY of a port (READY with its identity, REFUSED with its cause, FAULTED
with IDENTIFY_FAILED, the refresh of the job-owned points, and what the output mode asks of the station; R137, R138, R161,
R170). That an entry of another origin than HOST has no tag is kept by StepKeepsRecordLaws (R148). That a class with any
channel count takes a count above 16 (log 32), and that the PORT report of a refused identification carries no identity
(log 33), are the model's choices. -/
def Obligations.OutcomesReachTheirOwners : Prop :=
  ∀ (p : PortNo) (e : Entry) (seq : Byte) (s : State),
    (s.req.table.find? fun d => d.port == p && d.state.onLine) = some e → e.state = .inFlight seq →
    (e.tag.isSome = true ↔ e.origin = .host) →
    let pt := s.ports.get p
    let done := fun (t : State) => exec (.answerFrame p seq [0]) s = .next t
    let refusal := fun (reason : Byte) (t : State) => exec (.answerFrame p seq [1, reason]) s = .next t
    let left : Requests := { s.req with table := s.req.table.erase e }
    let failed := fun (format : FaultFormat) (cause : FaultCause) (t : State) =>
      FaultAdded ⟨format, e.origin, e.tag, some p, e.kind.firstPoint, cause, s.ring.number, s.adv.x⟩ s t
    (∀ pairs, e.kind = .write pairs → (e.origin = .host ∨ e.origin = .advance ∨ e.origin = .pressure) →
      (∃ t, done t ∧ t.req = left.endWrite p e.kind (.done [])
        ∧ (∀ tag, e.origin = .host → e.tag = some tag →
            Reported (.requestDone tag e.seqNo p e.kind (.done []) e.attempts) t)
        ∧ Acted [.req, .ports, .tick] s t)
      ∧ (∀ reason, ∃ t, refusal reason t
        ∧ (s.out.faults.length < 8 → t.req = left.endWrite p e.kind (.refused reason))
        ∧ failed .writeFailed (.refused reason) t
        ∧ (∀ tag, e.origin = .host → e.tag = some tag →
            Reported (.requestDone tag e.seqNo p e.kind (.refused reason) e.attempts) t)
        ∧ Acted (.ports :: .out :: .tick :: permitReach) s t))
    ∧ (e.origin = .safe → ((∃ pairs, e.kind = .write pairs) ∨ e.kind = .action .relinquish) →
      let passes := s.out.mode = .clamping ∧ s.out.outstanding.get p = true
        ∧ ∀ q, q ≠ p → s.out.outstanding.get q = false
      let leaves := fun (o : ReqOutcome) (t : State) => t.out.outstanding = put s.out.outstanding p false
        ∧ (s.out.faults.length < 8 → t.req = left.endWrite p e.kind o)
        ∧ t.out.mode = (if passes then .clamped else s.out.mode) ∧ t.out.cause = s.out.cause
        ∧ (passes → Reported (.outputMode .clamping .clamped s.out.cause s.out.estop 0) t)
        ∧ Acted (.ports :: .out :: .tick :: permitReach) s t
      (∃ t, done t ∧ leaves (.done []) t ∧ t.out.faults = s.out.faults)
      ∧ (∀ reason, ∃ t, refusal reason t ∧ leaves (.refused reason) t ∧ failed .safeFailed (.refused reason) t))
    ∧ (∀ a, e.origin = .build → e.kind = .action a → (∀ period, a ≠ .identify period) →
      (∀ st, s.build.step = some st → st.state.running = true → st.action = .requested e.seqNo →
        (∃ t, done t ∧ t.build = { s.build with step := some { st with action := .accepted } }
          ∧ Acted [.req, .ports, .build, .tick] s t)
        ∧ (∀ reason, ∃ t, refusal reason t
          ∧ t.build.step = some (st.faulted (.refused reason))
          ∧ FaultAdded ⟨.stepFault, .build, none, some (phasePort st.state st.sector), none, .refused reason,
              s.ring.number, s.adv.x⟩ s t
          ∧ Acted (.ports :: .out :: .tick :: permitReach) s t))
      ∧ ((s.build.step = none ∨ ∃ st, s.build.step = some st
            ∧ (st.state.running = false ∨ st.action ≠ .requested e.seqNo)) →
        (∃ t, done t ∧ Acted [.req, .ports, .tick] s t)
        ∧ (∀ reason, ∃ t, refusal reason t ∧ Acted [.req, .ports, .tick] s t)))
    ∧ (∀ (i : LineNo) (volume : Nat), e.origin = .grout → e.kind = .action (.stroke i volume) →
      (s.line i).phase = .requested e.seqNo →
      ∃ t, done t ∧ t.lines = put s.lines i { s.line i with phase := .running }
        ∧ Acted [.req, .ports, .lines, .tick] s t)
    ∧ (∀ period, e.origin = .port → e.kind = .action (.identify period) → pt.state = .identifying →
      let identity := fun (cls rev points channels : Byte) (t : State) =>
        exec (.answerFrame p seq [0, cls, rev, points, channels]) s = .next t
      let fits := fun (points channels : Byte) => Config.minPoints (Config.portClass p) ≤ points.toNat
        ∧ points.toNat ≤ 16 ∧ ∀ n, Config.channels (Config.portClass p) = some n → channels.toNat = n
      let stands := fun (t : State) => ∀ q, q ≠ p → t.ports.get q = s.ports.get q
      let off := fun (state : PortState) (cause : PortCause) (outcome : Option ReqOutcome) (t : State) =>
        t.ports.get p = { pt with
            state := state, cause := cause, supply := false, identity := none, noAnswer := (t.ports.get p).noAnswer
            debounce := none, partialTimer := none, settle := none, stale := none }
          ∧ stands t ∧ Reported (.port p .identifying state cause false none outcome) t
          ∧ (∀ d ∈ t.req.table, d.port ≠ p) ∧ Acted portReach s t
      (∀ cls rev points channels, classOf cls.toNat = some (Config.portClass p) → fits points channels →
        let idn : Identity := ⟨Config.portClass p, rev.toNat, points.toNat, channels.toNat⟩
        ∃ t, identity cls rev points channels t
          ∧ t.ports.get p = { pt with
              state := .ready, cause := .identified, supply := true, identity := some idn, noAnswer := 0
              debounce := none, partialTimer := none, settle := none
              stale := some (3 * Config.reportPeriod (Config.portClass p)) }
          ∧ stands t ∧ Reported (.port p .identifying .ready .identified true (some idn) none) t
          ∧ (∀ i : Fin 16, Config.pointOwner p i.val ≠ .free →
              (s.out.mode = .normal → (t.req.point p i).state = .dirty ∨ t.req.writeStands p i.val = true)
              ∧ (s.out.mode ≠ .normal → s.req.writeStands p i.val = false →
                  (s.out.mode = .released ∨ ∀ v, (i.val, v) ∉ s.out.safe.get p) →
                  t.req.point p i = { s.req.point p i with commanded := none, state := .clean }))
          ∧ ((s.out.mode = .clamping ∨ s.out.mode = .clamped) → safePairs t p ≠ [] → SafeAsked p (safePairs t p) t)
          ∧ (s.out.mode = .clamping → safePairs t p ≠ [] → t.out.outstanding.get p = true)
          ∧ (s.out.mode = .released →
              (∃ d ∈ t.req.table, d.origin = .safe ∧ d.port = p ∧ d.kind = .action .relinquish)
                ∨ ⟨.safe, p, .action .relinquish⟩ ∈ t.req.waits)
          ∧ Acted portReach s t)
      ∧ (∀ cls rev points channels, classOf cls.toNat ≠ some (Config.portClass p) →
        ∃ t, identity cls rev points channels t ∧ off .refused .classMismatch none t)
      ∧ (∀ cls rev points channels, classOf cls.toNat = some (Config.portClass p) → ¬ fits points channels →
        ∃ t, identity cls rev points channels t ∧ off .refused .identityMismatch none t)
      ∧ (∀ reason, ∃ t, refusal reason t ∧ off .faulted .identifyFailed (some (.refused reason)) t
        ∧ Recorded ⟨.portLost, .port, none, some p, none, .identifyFailed (.refused reason), s.ring.number,
            s.adv.x⟩ t)
      ∧ (∃ t, exec (.answerTimerExpiry p) s = .next t ∧ off .faulted .identifyFailed (some .noAnswer) t
        ∧ Recorded ⟨.portLost, .port, none, some p, none, .identifyFailed .noAnswer, s.ring.number, s.adv.x⟩ t))

/-- The state of a point follows the writes asked of it and their completions, by the table of R159: the end of a write of
any distinct points; a job's write, folded, registered or not registered (R150); a safe write, registered, waiting or
PORT_LOST at once (R150). A folded entry carries the new value and keeps its place, state and attempts (R150); that it is
the newest of those that could take the value is the model's reading (log 11). That a safe write with no room stands at
the tail of the Action Wait List is the model's choice (log 35). -/
def Obligations.PointStateRule : Prop :=
  (∀ (p : PortNo) (pairs : List (Nat × Nat)) (o : ReqOutcome) (r : Requests), (pairs.map (·.1)).Nodup →
    let ended := r.endWrite p (.write pairs) o
    (∀ (i : Fin 16) (v : Nat), (i.val, v) ∈ pairs →
      let pt := r.point p i
      let stands := ∃ e ∈ r.table, e.port = p ∧ ∃ others, e.kind = .write others ∧ ∃ w, (i.val, w) ∈ others
      let after := ended.point p i
      ((∃ vs, o = .done vs) →
        after = { pt with
          confirmed := some v, state := if pt.state = .dirty then pt.state else after.state }
        ∧ (¬ stands → pt.state ≠ .dirty → after.state = .clean) ∧ (stands → after.state = pt.state))
      ∧ ((o = .noAnswer ∨ o = .busyExhausted ∨ o = .portLost ∨ ∃ reason, o = .refused reason) →
          after = { pt with state := if pt.state = .dirty then .dirty else .failed })
      ∧ (o = .cancelled → (stands ∨ pt.state = .dirty) → after = pt)
      ∧ (o = .cancelled → ¬ stands → pt.state ≠ .dirty →
          after = match pt.confirmed with
            | some c => { pt with commanded := some c, state := .clean }
            | none => { pt with state := .failed }))
    ∧ (∀ (q : PortNo) (j : Fin 16), (q ≠ p ∨ ∀ v, (j.val, v) ∉ pairs) → ended.point q j = r.point q j)
    ∧ ended = { r with image := ended.image })
  ∧ (∀ (open_ : Bool) (origin : Origin) (p : PortNo) (i : Fin 16) (v : Nat) (r : Requests),
    let n := if r.counter = 4294967295 then 1 else r.counter + 1
    let takes := fun (e : Entry) => e.origin = origin ∧ e.port = p ∧ e.state.offLine = true
      ∧ ∃ w, e.kind = .write [(i.val, w)]
    let folds := ∃ e ∈ r.table, takes e
    let t := r.jobWrite open_ origin p i v
    let asked := fun (state : PointState) => t.point p i = { r.point p i with commanded := some v, state := state }
    (folds → asked .pending ∧ t.table.map (·.seqNo) = r.table.map (·.seqNo)
        ∧ ∃ before e after, r.table = before ++ e :: after ∧ takes e ∧ (∀ d ∈ after, ¬ takes d)
          ∧ t.table = before ++ { e with kind := .write [(i.val, v)] } :: after)
    ∧ (¬ folds → open_ = true → r.table.length < 32 → asked .pending
        ∧ t.table = r.table ++ [⟨origin, none, p, .write [(i.val, v)], .queued, 1, n⟩])
    ∧ (¬ folds → (open_ = false ∨ 32 ≤ r.table.length) → asked .dirty ∧ t.table = r.table)
    ∧ (∀ (q : PortNo) (j : Fin 16), (q ≠ p ∨ j ≠ i) → t.point q j = r.point q j) ∧ t.waits = r.waits)
  ∧ (∀ (mode : OutMode) (state : PortState) (p : PortNo) (pairs : List (Nat × Nat)) (r : Requests),
    (pairs.map (·.1)).Nodup →
    let n := if r.counter = 4294967295 then 1 else r.counter + 1
    let w : WaitItem := ⟨.safe, p, .write pairs⟩
    let t := (r.placeItem mode state w).1
    let asked := fun (x : PointState) =>
      (∀ (i : Fin 16) (v : Nat), (i.val, v) ∈ pairs →
        t.point p i = { r.point p i with commanded := some v, state := x })
      ∧ ∀ (q : PortNo) (j : Fin 16), (q ≠ p ∨ ∀ v, (j.val, v) ∉ pairs) → t.point q j = r.point q j
    (state.inService = false → t = r)
    ∧ (state.inService = true → r.table.length < 32 → asked .pending ∧ t.waits = r.waits
        ∧ t.table = r.table ++ [⟨.safe, none, p, .write pairs, .queued, 1, n⟩])
    ∧ (state.inService = true → 32 ≤ r.table.length → asked .dirty ∧ t.waits = r.waits ++ [w] ∧ t.table = r.table))

/-- REQUEST_DISPATCH: one entry on the line per port, SAFE before the rest, the oldest first, the IDENTIFY alone on a
port in IDENTIFYING, the next sequence byte and the REQUEST frame (R153, R163). -/
def Obligations.DispatchRule : Prop :=
  ∀ (p : PortNo) (s : State),
    let busy := ∃ e ∈ s.req.table, e.port = p ∧ ∃ q, e.state = .inFlight q
    let oldest := fun (q : Entry → Bool) => s.req.table.find? fun e => e.port == p && e.state == .queued && q e
    let seq := s.req.seqBytes.get p + 1
    let sends := fun (e : Entry) => exec (.requestDispatch p) s
      = .next ((s.setReq { s.req with
          table := replaceFirst (fun d => d == e) (fun d => { d with state := .inFlight seq }) s.req.table
          seqBytes := put s.req.seqBytes p seq }).setFieldLine
            (s.fieldLine ++ [(p, frameBytes 0x5A 0x01 seq e.kind.bytes)]))
    (busy → exec (.requestDispatch p) s = .next s)
    ∧ (¬ busy → s.portUp p = true → ∀ e, oldest (·.origin == .safe) = some e → sends e)
    ∧ (¬ busy → s.portUp p = true → oldest (·.origin == .safe) = none → ∀ e, oldest (fun _ => true) = some e → sends e)
    ∧ (¬ busy → (s.ports.get p).state = .identifying →
        ∀ e, oldest (fun d => isIdentify d.origin d.kind) = some e → sends e)
    ∧ (s.portUp p = false → (s.ports.get p).state ≠ .identifying → exec (.requestDispatch p) s = .next s)
    ∧ (oldest (fun _ => true) = none → exec (.requestDispatch p) s = .next s)

/-- TABLE_FILL registers one waiting request after another while the table has room and one can register: first the SAFE items
that can, then the other items that can, oldest first, then the DIRTY points in port and point order, each with its owner
as origin and its commanded value, and PENDING from then on (R151, R157, R159). An item can register in a mode that admits
its origin, on a port in service, or, for the IDENTIFY, in IDENTIFYING (R150, R157). It joins the table as the newest entry
(R148), its owner is told, a line's phase and a step's action turn from PENDING to REQUESTED, the step's phase timer starts
(R78, R120), and the points of a safe write are PENDING; that they take its values is the model's reading (log 12), and so
is that a DIRTY point with no commanded value is not registered (log 20). That the phase and the action hold the entry's
sequence number is the model's form of REQUESTED (log 14). That a waiting safe write registers the pairs it was asked with,
whatever the Safe Table now holds (log 36), and that it registers after a RELINQUISH that was waiting before it (log 35),
are the model's choices. -/
def Obligations.TableFillRule : Prop :=
  ∀ s : State,
    let able := fun (p : PortNo) (i : Fin 16) => (s.req.point p i).state = .dirty ∧ s.out.mode = .normal
      ∧ s.portUp p = true ∧ Config.pointOwner p i.val ≠ .free ∧ (s.req.point p i).commanded ≠ none
    let n := if s.req.counter = 4294967295 then 1 else s.req.counter + 1
    let ready := fun (w : WaitItem) =>
      (s.out.mode = .normal ∨ w.origin = .host ∨ w.origin = .safe ∨ w.origin = .port ∧ s.out.mode ≠ .released)
      ∧ (s.portUp w.port = true
          ∨ (s.ports.get w.port).state = .identifying ∧ w.origin = .port ∧ ∃ period, w.kind = .action (.identify period))
    let time : StepState → Nat
      | .retracting | .extending => 30000 | .placing | .returning => 120000 | .stepFault => 0
    let registers := fun (w : WaitItem) (rest : List WaitItem) =>
      ∃ u, fillOne s = some u ∧ u.req.counter = n ∧ u.req.waits = rest ∧ u.req.seqBytes = s.req.seqBytes
        ∧ u.req.table = s.req.table ++ [⟨w.origin, none, w.port, w.kind, .queued, 1, n⟩]
        ∧ (∀ pairs, w.kind = .write pairs → (pairs.map (·.1)).Nodup → ∀ (i : Fin 16) (v : Nat), (i.val, v) ∈ pairs →
            u.req.point w.port i = { s.req.point w.port i with commanded := some v, state := .pending })
        ∧ (∀ (q : PortNo) (j : Fin 16), (q ≠ w.port ∨ ∀ pairs, w.kind = .write pairs → ∀ v, (j.val, v) ∉ pairs) →
            u.req.point q j = s.req.point q j)
        ∧ u.lines = (match w.origin, w.kind with
            | .grout, .action (.stroke i _) =>
              if (s.line i).phase = .pending then put s.lines i { s.line i with phase := .requested n } else s.lines
            | _, _ => s.lines)
        ∧ u.build = (match w.origin, s.build.step with
            | .build, some st =>
              if st.action = .pending then
                { s.build with step := some { st with action := .requested n, timer := some (time st.state) } }
              else s.build
            | _, _ => s.build)
        ∧ AgreeBut [.req, .lines, .build] s u
    (∀ u, s.req.table.length < 32 → fillOne s = some u → exec .tableFill s = exec .tableFill u)
    ∧ ((¬ s.req.table.length < 32 ∨ fillOne s = none) → exec .tableFill s = .next s)
    ∧ (s.req.table.length ≤ 32 →
      ∃ t, exec .tableFill s = .next t ∧ (t.req.table.length = 32 ∨ fillOne t = none)
        ∧ s.req.table <+: t.req.table ∧ t.req.table.length ≤ 32
        ∧ Acted [.req, .lines, .build] s t)
    ∧ (∀ before w after, s.req.waits = before ++ w :: after → w.origin = .safe → ready w →
        (∀ b ∈ before, b.origin ≠ .safe ∨ ¬ ready b) → registers w (before ++ after))
    ∧ (∀ before w after, s.req.waits = before ++ w :: after → ready w →
        (∀ b ∈ s.req.waits, b.origin ≠ .safe ∨ ¬ ready b) → (∀ b ∈ before, ¬ ready b) →
        registers w (before ++ after))
    ∧ ((∀ b ∈ s.req.waits, ¬ ready b) →
        (fillOne s = none ↔ ∀ p i, ¬ able p i)
        ∧ (∀ p i v, able p i → (s.req.point p i).commanded = some v →
          (∀ q j, q < p ∨ q = p ∧ j < i → ¬ able q j) →
          let origin : Origin := if Config.pointOwner p i.val = .pressure then .pressure else .advance
          ∃ u, fillOne s = some u ∧ u.req.counter = n ∧ u.req.waits = s.req.waits
            ∧ u.req.table = s.req.table ++ [⟨origin, none, p, .write [(i.val, v)], .queued, 1, n⟩]
            ∧ u.req.point p i = { s.req.point p i with state := .pending }
            ∧ (∀ q j, (q ≠ p ∨ j ≠ i) → u.req.point q j = s.req.point q j)
            ∧ AgreeBut [.req] s u))

/-! ## Safe outputs, the emergency stop and the faults (chapter 10) -/

/-- CLAMP, RESUME and an emergency stop enter CLAMPING and pass on to CLAMPED when no safe write is outstanding: the jobs
stand stopped, OUTPUT and the permit at STOP, and no job's entry waits in the table. Each port in service whose safe record
names a live point has its safe write asked, of those values, and is outstanding, with the ports whose safe write still
stood in CLAMPED; the changes are reported (R167, R168, R169, R34, R92, R125, R157, R159). That the outstanding set is
empty outside CLAMPING is kept by StepKeepsStopLaws. The points of a safe write in the table are PENDING, those of one that
still waits for room DIRTY (R159). That the OUTPUT_MODE report follows the asking of the safe writes is the model's reading
(log 17). -/
def Obligations.ClampStopsTheMachine : Prop :=
  ∀ s : State,
    let clamped := fun (cause : OutCause) (t : State) =>
      ((t.out.mode = .clamping ∧ ∃ p, t.out.outstanding.get p = true)
          ∨ (t.out.mode = .clamped ∧ ∀ p, t.out.outstanding.get p = false))
        ∧ t.out.cause = cause ∧ JobsStopped t
        ∧ (t.permit.table.get Source.output.idx).level = .stop
        ∧ (t.permit.table.get Source.output.idx).cause = cause.restriction ∧ t.permit.level = .stop
        ∧ (∀ e ∈ t.req.table, e.origin ≠ .safe → e.origin ≠ .port → e.state.offLine = false)
        ∧ t.out.safe = s.out.safe ∧ t.muck = s.muck ∧ t.ports = s.ports
        ∧ (t.out.mode = .clamping → ∀ p, t.out.outstanding.get p = true ↔ s.portUp p = true
            ∧ (safePairs s p ≠ [] ∨ s.out.mode = .clamped ∧ t.req.safeStands p = true))
        ∧ (t.out.mode = .clamped → ∀ p, s.portUp p = true → safePairs s p = []
            ∧ (s.out.mode = .clamped → t.req.safeStands p = false))
        ∧ (∀ p, s.portUp p = true → safePairs s p ≠ [] → t.req.safeStands p = true
            ∧ (s.out.mode ≠ .clamped ∨ s.req.safeStands p = false →
                SafeAsked p (safePairs s p) t
                  ∧ (((s.out.safe.get p).map (·.1)).Nodup → SafeCommanded p (safePairs s p) t)))
        ∧ Reported (.outputMode s.out.mode .clamping cause t.out.estop t.out.outstandingCount) t
        ∧ (t.out.mode = .clamped → Reported (.outputMode .clamping .clamped cause t.out.estop 0) t)
    let reach : List Part := .lines :: .out :: .tick :: permitReach
    let data := fun (t : State) => u8 t.out.mode.code ++ u8 t.out.cause.code ++ u8 t.out.outstandingCount
    (s.out.outstanding = Vector.replicate 16 false →
      (∀ tag, handsOn s → (s.out.mode = .normal ∨ s.out.mode = .released) →
        ∃ t, exec (.clamp tag) s = .next t ∧ clamped .host t ∧ t.out.estop = s.out.estop
          ∧ Answered reach s t tag 0x48 .ok (data t))
      ∧ (∀ tag, handsOn s → s.out.mode = .released →
        ∃ t, exec (.resume tag) s = .next t ∧ clamped .resume t ∧ t.out.estop = s.out.estop
          ∧ Answered reach s t tag 0x4B .ok (data t))
      ∧ (s.out.estop = false → s.out.mode ≠ .clamping →
        ∃ t, exec .estopAsserted s = .next t ∧ clamped .estop t ∧ t.out.estop = true ∧ Acted reach s t))
    ∧ (s.out.estop = false → s.out.mode = .clamping → s.out.cause ≠ .estop →
        ∃ t, exec .estopAsserted s = .next t ∧ t.out = { s.out with estop := true, cause := .estop }
          ∧ (t.permit.table.get Source.output.idx).cause = .estop
          ∧ Reported (.outputMode .clamping .clamping .estop true s.out.outstandingCount) t
          ∧ Acted (.out :: permitReach) s t)
    ∧ (∀ tag, handsOn s → (s.out.mode = .clamping ∨ s.out.mode = .clamped) →
        exec (.clamp tag) s = .next (withReply tag 0x48 .already [] s))
    ∧ (∀ tag, handsOn s → s.out.mode ≠ .released →
        exec (.resume tag) s = .next (withReply tag 0x4B .wrongState [] s))

/-- UNCLAMP, RELEASE and the deassertion of the emergency stop: what each takes, what it leaves stopped, and when it is
refused (R167, R168, R171, R172). -/
def Obligations.UnclampAndRelease : Prop :=
  ∀ s : State,
    let data := fun (t : State) => u8 t.out.mode.code ++ u8 t.out.cause.code ++ u8 t.out.outstandingCount
    (∀ tag, handsOn s → s.out.mode = .clamped → s.out.estop = false → s.adv.state.active = false →
      ∃ t, exec (.unclamp tag) s = .next t ∧ t.out = { s.out with mode := .normal, cause := .none }
        ∧ (t.permit.table.get Source.output.idx).level = .clear ∧ t.adv.state = s.adv.state
        ∧ SetpointsHeld t ∧ (s.portUp 5 = true → (t.req.point 5 0).commanded = some t.pres.setpoint)
        ∧ Answered (.out :: .tick :: permitReach) s t tag 0x49 .ok (data t))
    ∧ (∀ tag, handsOn s → (s.out.mode = .normal ∨ s.out.mode = .clamped) → s.out.estop = false →
      ∃ t, exec (.release tag) s = .next t ∧ t.out.mode = .released ∧ t.out.cause = .release ∧ JobsStopped t
        ∧ (∀ p, t.out.outstanding.get p = false) ∧ t.permit.level = .stop
        ∧ (∀ p, s.portUp p = true →
            (∃ e ∈ t.req.table, e.origin = .safe ∧ e.port = p ∧ e.kind = .action .relinquish)
              ∨ ⟨.safe, p, .action .relinquish⟩ ∈ t.req.waits)
        ∧ Answered (.lines :: .out :: .tick :: permitReach) s t tag 0x4A .ok (data t))
    ∧ exec .estopDeasserted s = .next (s.setOut { s.out with estop := false })
    ∧ (∀ tag, handsOn s →
        (s.out.mode = .normal → exec (.unclamp tag) s = .next (withReply tag 0x49 .already [] s))
        ∧ ((s.out.mode = .clamping ∨ s.out.mode = .released) →
            exec (.unclamp tag) s = .next (withReply tag 0x49 .wrongState [] s))
        ∧ (s.out.mode = .clamped → s.out.estop = true →
            exec (.unclamp tag) s = .next (withReply tag 0x49 .estopActive [] s))
        ∧ ((s.out.mode = .normal ∨ s.out.mode = .clamped) → s.out.estop = true →
            exec (.release tag) s = .next (withReply tag 0x4A .estopActive [] s))
        ∧ (s.out.mode = .clamping → exec (.release tag) s = .next (withReply tag 0x4A .wrongState [] s))
        ∧ (s.out.mode = .released → exec (.release tag) s = .next (withReply tag 0x4A .already [] s)))

/-- SET_SAFE: the four tests of R166 in their order, a port above 15 failing the first, and the record replaced whole. -/
def Obligations.SafeRecordIsSet : Prop :=
  (∀ (tag : Byte) (port : Nat) (pairs : List (Nat × Nat)) (s : State), handsOn s → 15 < port →
    exec (.setSafe tag port pairs) s = .next (withReply tag 0x4C .badValue [] s))
  ∧ ∀ (tag : Byte) (p : PortNo) (pairs : List (Nat × Nat)) (s : State), handsOn s →
    let listed := pairs.length ≤ 8 ∧ (∀ i ∈ pairs.map (·.1), i < 16) ∧ (pairs.map (·.1)).Nodup
    let required := (p.val ≤ 1 → ∀ i, 1 ≤ i → i ≤ 8 → (i, 0) ∈ pairs)
      ∧ ((p.val = 4 ∨ p.val = 5) → (0, 0) ∈ pairs)
    let owned := ∀ i v, (i, v) ∈ pairs → Config.pointOwner p i ≠ .free → v = 0
    (¬ (listed ∧ required ∧ owned) →
      exec (.setSafe tag p.val pairs) s = .next (withReply tag 0x4C .badValue [] s))
    ∧ (listed → required → owned → s.out.mode = .clamping →
        exec (.setSafe tag p.val pairs) s = .next (withReply tag 0x4C .wrongState [] s))
    ∧ (listed → required → owned → s.out.mode ≠ .clamping →
        exec (.setSafe tag p.val pairs) s
          = .next (withReply tag 0x4C .ok (u8 pairs.length ++ pairs.flatMap fun pv => u8 pv.1 ++ u16 pv.2)
              (s.setOut { s.out with safe := put s.out.safe p pairs })))

/-- GET_FAULTS reads the list; ACK_FAULT is refused on an empty list, and else removes the oldest record and writes
FAULT_BACKLOG CLEAR; a record that comes with the list full is stored when the acknowledgement is first, and lost when
it is second (R175, with the two orders it gives). -/
def Obligations.FaultsAreReadAndAcknowledged : Prop :=
  ∀ (tag : Byte) (s : State), handsOn s →
    exec (.getFaults tag) s
        = .next (withReply tag 0x4D .ok
            (u8 s.out.faults.length ++ s.out.faults.flatMap faultBytes
              ++ u8 (s.permit.table.get Source.faultBacklog.idx).level.code) s)
    ∧ (s.out.faults = [] → exec (.ackFault tag) s = .next (withReply tag 0x4E .queueEmpty [] s))
    ∧ (∀ f rest, s.out.faults = f :: rest →
        exec (.ackFault tag) s
          = .next (withReply tag 0x4E .ok (faultBytes f)
              (writeEntry .faultBacklog .clear .none (s.setOut { s.out with faults := rest }))))
    ∧ (∀ f rest g, s.out.faults = f :: rest → rest.length = 7 →
        (handFault g (takeAckFault s).1).out.faults = rest ++ [g]
          ∧ ((handFault g (takeAckFault s).1).permit.table.get Source.faultBacklog.idx).level = .clear
          ∧ (takeAckFault (handFault g s)).1.out.faults = rest
          ∧ ((handFault g s).permit.table.get Source.faultBacklog.idx).level = .hold
          ∧ ((takeAckFault (handFault g s)).1.permit.table.get Source.faultBacklog.idx).level = .clear)

/-- RESET_PART from any mode: the mode and its cause, the ring, the advance, the queues, the lines, the sectors with their
groups and the step, the table and the Fault List as the tables of R26, R72, R95, R115, R131, R165 and R177 give them, the
configuration kept, no point DIRTY (R165), and the safe writes of step 7 asked, their points PENDING, with the reports of
R168 (R176, R169, R159). The premise StopLaws is the invariant StepKeepsStopLaws.
That A is M after a reset with no ring open follows R26's table (log 26), and that the OUTPUT_MODE report is queued at
step 1 (log 17) is the model's reading. -/
def Obligations.ResetPartRule : Prop :=
  ∀ (tag : Byte) (s : State), handsOn s → StopLaws s →
    ∃ t, exec (.resetPart tag) s = .next t
      ∧ ((t.out.mode = .clamping ∧ ∃ p, t.out.outstanding.get p = true)
          ∨ (t.out.mode = .clamped ∧ ∀ p, t.out.outstanding.get p = false))
      ∧ t.out.cause = .reset ∧ t.out.faults = [] ∧ t.out.safe = s.out.safe ∧ t.out.estop = s.out.estop
      ∧ t.permit.level = .stop ∧ (t.permit.table.get Source.faultBacklog.idx).level = .clear
      ∧ t.ring.current = none ∧ t.ring.queue = []
      ∧ (s.ring.current ≠ none → t.ring.state = .none)
      ∧ (s.ring.current = none → t.ring.state = s.ring.state ∧ t.ring.history = s.ring.history)
      ∧ t.adv.cutter = .stopped ∧ t.build.grant = .free
      ∧ (∀ p, t.out.outstanding.get p = true ↔ s.portUp p = true ∧ safePairs s p ≠ [])
      ∧ (∀ p, s.portUp p = true → safePairs s p ≠ [] → SafeAsked p (safePairs s p) t
          ∧ (((s.out.safe.get p).map (·.1)).Nodup → SafeCommanded p (safePairs s p) t))
      ∧ (¬ (s.out.mode = .clamping ∧ s.out.cause = .reset) →
          Reported (.outputMode s.out.mode .clamping .reset s.out.estop s.out.outstandingCount) t)
      ∧ (t.out.mode = .clamped → Reported (.outputMode .clamping .clamped .reset s.out.estop 0) t)
      ∧ t.adv.state = .idle ∧ t.adv.m = s.adv.m ∧ t.adv.a = s.adv.m ∧ t.adv.x = 0
      ∧ t.adv.c1 = 0 ∧ t.adv.c2 = 0 ∧ t.adv.c3 = 0 ∧ t.adv.readings = s.adv.readings
      ∧ t.adv.geometry = s.adv.geometry ∧ t.adv.ground = s.adv.ground ∧ t.adv.fRed = s.adv.fRed
      ∧ t.adv.tWarn = s.adv.tWarn ∧ t.adv.torque = s.adv.torque ∧ t.adv.rReq = s.adv.rReq
      ∧ t.pres.active = s.pres.active ∧ t.pres.waiting = s.pres.waiting ∧ t.pres.p = s.pres.p
      ∧ t.muck = { s.muck with
          queue := [], generated := 0, released := 0, measured := 0, releasedExp := 0, e := 0, vApplied := 0 }
      ∧ (∀ i, (t.line i).mode = .none ∧ (t.line i).state = .stopped ∧ (t.line i).backlog = 0 ∧ (t.line i).rem = 0
          ∧ (t.line i).phase = .none ∧ (t.line i).weight = (s.line i).weight ∧ (t.line i).vs = (s.line i).vs
          ∧ (t.line i).lifetime = (s.line i).lifetime ∧ (t.line i).staged = none)
      ∧ (∀ e ∈ t.req.table, e.origin = .safe ∨ e.origin = .port)
      ∧ (∀ p i, (t.req.point p i).state ≠ .dirty)
      ∧ (∀ sec, t.build.owners.get sec = .none) ∧ (∀ g, t.build.groups.get g = .hold) ∧ t.build.step = none
      ∧ t.ports = s.ports
      ∧ Answered (.lines :: .muck :: .out :: .tick :: permitReach) s t tag 0x4F .ok
          (u8 t.out.mode.code ++ u8 t.out.outstandingCount)

/-! ## Laws kept by every step -/

/-- Every step keeps the law of the permit (R29), the capacities (R55, R107, R109, R148, R173, R181, R184), the law of the
Request Table (at most 24 host entries, no two of one tag, one entry of a port on the line, tags for origin HOST only; R148), the law of the transit
(R57), the law of the backlogs (R76) and the law of the Segment Queue (R109). -/
def Obligations.StepKeepsRecordLaws : Prop :=
  ∀ s t : State, RecordLaws s → step s = .next t → RecordLaws t

/-- Every step keeps the law of the permit (R29), the law of the advance state with the Advance Unit's copy of the permit
(R14, R30), the law of the clamp with the cutter STOPPED and the grant free (R171, R18, R130), the law of the OUTPUT entry
(R34), the record and the advance's rest outside BORING (R96, R12, R13, R14), the law of the sectors with the HOLD of the
groups outside NORMAL (R116, R117), and the screw at 0 outside BORING (R49). -/
def Obligations.StepKeepsStopLaws : Prop :=
  ∀ s t : State, StopLaws s → step s = .next t → StopLaws t

/-- Every step keeps the laws of the accounted distance: X below W_r until the stroke is complete and never above W_r + 499
(R10), the record's distance X, and its volume with c1 the exact product (R6), on a geometry in its ranges (R23, R98). -/
def Obligations.StepKeepsAccountLaws : Prop :=
  ∀ s t : State, AccountLaws s → step s = .next t → AccountLaws t

/-- The three sets of laws hold after reset. -/
def Obligations.LawsHoldAtReset : Prop :=
  RecordLaws State.reset ∧ StopLaws State.reset ∧ AccountLaws State.reset
end

