-- ==== Sys2Proof/Laws/State.lean ====
section
/-! SUPPORT. Each field of State after each of its updates. -/

namespace Sys2Proof.Machine

variable (s : State)

@[simp] theorem State.setLink_link (v : Link) : (s.setLink v).link = v := rfl
@[simp] theorem State.setLink_adv (v : Link) : (s.setLink v).adv = s.adv := rfl
@[simp] theorem State.setLink_permit (v : Link) : (s.setLink v).permit = s.permit := rfl
@[simp] theorem State.setLink_pres (v : Link) : (s.setLink v).pres = s.pres := rfl
@[simp] theorem State.setLink_muck (v : Link) : (s.setLink v).muck = s.muck := rfl
@[simp] theorem State.setLink_lines (v : Link) : (s.setLink v).lines = s.lines := rfl
@[simp] theorem State.setLink_ring (v : Link) : (s.setLink v).ring = s.ring := rfl
@[simp] theorem State.setLink_build (v : Link) : (s.setLink v).build = s.build := rfl
@[simp] theorem State.setLink_ports (v : Link) : (s.setLink v).ports = s.ports := rfl
@[simp] theorem State.setLink_req (v : Link) : (s.setLink v).req = s.req := rfl
@[simp] theorem State.setLink_out (v : Link) : (s.setLink v).out = s.out := rfl
@[simp] theorem State.setLink_hostLine (v : Link) : (s.setLink v).hostLine = s.hostLine := rfl
@[simp] theorem State.setLink_fieldLine (v : Link) : (s.setLink v).fieldLine = s.fieldLine := rfl
@[simp] theorem State.setLink_tick (v : Link) : (s.setLink v).tick = s.tick := rfl
@[simp] theorem State.setLink_pending (v : Link) : (s.setLink v).pending = s.pending := rfl
@[simp] theorem State.setLink_setLink (v w : Link) : (s.setLink v).setLink w = s.setLink w := rfl
@[simp] theorem State.setLink_self : s.setLink s.link = s := rfl

@[simp] theorem State.setAdv_link (v : Advance) : (s.setAdv v).link = s.link := rfl
@[simp] theorem State.setAdv_adv (v : Advance) : (s.setAdv v).adv = v := rfl
@[simp] theorem State.setAdv_permit (v : Advance) : (s.setAdv v).permit = s.permit := rfl
@[simp] theorem State.setAdv_pres (v : Advance) : (s.setAdv v).pres = s.pres := rfl
@[simp] theorem State.setAdv_muck (v : Advance) : (s.setAdv v).muck = s.muck := rfl
@[simp] theorem State.setAdv_lines (v : Advance) : (s.setAdv v).lines = s.lines := rfl
@[simp] theorem State.setAdv_ring (v : Advance) : (s.setAdv v).ring = s.ring := rfl
@[simp] theorem State.setAdv_build (v : Advance) : (s.setAdv v).build = s.build := rfl
@[simp] theorem State.setAdv_ports (v : Advance) : (s.setAdv v).ports = s.ports := rfl
@[simp] theorem State.setAdv_req (v : Advance) : (s.setAdv v).req = s.req := rfl
@[simp] theorem State.setAdv_out (v : Advance) : (s.setAdv v).out = s.out := rfl
@[simp] theorem State.setAdv_hostLine (v : Advance) : (s.setAdv v).hostLine = s.hostLine := rfl
@[simp] theorem State.setAdv_fieldLine (v : Advance) : (s.setAdv v).fieldLine = s.fieldLine := rfl
@[simp] theorem State.setAdv_tick (v : Advance) : (s.setAdv v).tick = s.tick := rfl
@[simp] theorem State.setAdv_pending (v : Advance) : (s.setAdv v).pending = s.pending := rfl
@[simp] theorem State.setAdv_setAdv (v w : Advance) : (s.setAdv v).setAdv w = s.setAdv w := rfl
@[simp] theorem State.setAdv_self : s.setAdv s.adv = s := rfl

@[simp] theorem State.setPermit_link (v : Permit) : (s.setPermit v).link = s.link := rfl
@[simp] theorem State.setPermit_adv (v : Permit) : (s.setPermit v).adv = s.adv := rfl
@[simp] theorem State.setPermit_permit (v : Permit) : (s.setPermit v).permit = v := rfl
@[simp] theorem State.setPermit_pres (v : Permit) : (s.setPermit v).pres = s.pres := rfl
@[simp] theorem State.setPermit_muck (v : Permit) : (s.setPermit v).muck = s.muck := rfl
@[simp] theorem State.setPermit_lines (v : Permit) : (s.setPermit v).lines = s.lines := rfl
@[simp] theorem State.setPermit_ring (v : Permit) : (s.setPermit v).ring = s.ring := rfl
@[simp] theorem State.setPermit_build (v : Permit) : (s.setPermit v).build = s.build := rfl
@[simp] theorem State.setPermit_ports (v : Permit) : (s.setPermit v).ports = s.ports := rfl
@[simp] theorem State.setPermit_req (v : Permit) : (s.setPermit v).req = s.req := rfl
@[simp] theorem State.setPermit_out (v : Permit) : (s.setPermit v).out = s.out := rfl
@[simp] theorem State.setPermit_hostLine (v : Permit) : (s.setPermit v).hostLine = s.hostLine := rfl
@[simp] theorem State.setPermit_fieldLine (v : Permit) : (s.setPermit v).fieldLine = s.fieldLine := rfl
@[simp] theorem State.setPermit_tick (v : Permit) : (s.setPermit v).tick = s.tick := rfl
@[simp] theorem State.setPermit_pending (v : Permit) : (s.setPermit v).pending = s.pending := rfl
@[simp] theorem State.setPermit_setPermit (v w : Permit) : (s.setPermit v).setPermit w = s.setPermit w := rfl
@[simp] theorem State.setPermit_self : s.setPermit s.permit = s := rfl

@[simp] theorem State.setPres_link (v : Pressure) : (s.setPres v).link = s.link := rfl
@[simp] theorem State.setPres_adv (v : Pressure) : (s.setPres v).adv = s.adv := rfl
@[simp] theorem State.setPres_permit (v : Pressure) : (s.setPres v).permit = s.permit := rfl
@[simp] theorem State.setPres_pres (v : Pressure) : (s.setPres v).pres = v := rfl
@[simp] theorem State.setPres_muck (v : Pressure) : (s.setPres v).muck = s.muck := rfl
@[simp] theorem State.setPres_lines (v : Pressure) : (s.setPres v).lines = s.lines := rfl
@[simp] theorem State.setPres_ring (v : Pressure) : (s.setPres v).ring = s.ring := rfl
@[simp] theorem State.setPres_build (v : Pressure) : (s.setPres v).build = s.build := rfl
@[simp] theorem State.setPres_ports (v : Pressure) : (s.setPres v).ports = s.ports := rfl
@[simp] theorem State.setPres_req (v : Pressure) : (s.setPres v).req = s.req := rfl
@[simp] theorem State.setPres_out (v : Pressure) : (s.setPres v).out = s.out := rfl
@[simp] theorem State.setPres_hostLine (v : Pressure) : (s.setPres v).hostLine = s.hostLine := rfl
@[simp] theorem State.setPres_fieldLine (v : Pressure) : (s.setPres v).fieldLine = s.fieldLine := rfl
@[simp] theorem State.setPres_tick (v : Pressure) : (s.setPres v).tick = s.tick := rfl
@[simp] theorem State.setPres_pending (v : Pressure) : (s.setPres v).pending = s.pending := rfl
@[simp] theorem State.setPres_setPres (v w : Pressure) : (s.setPres v).setPres w = s.setPres w := rfl
@[simp] theorem State.setPres_self : s.setPres s.pres = s := rfl

@[simp] theorem State.setMuck_link (v : Muck) : (s.setMuck v).link = s.link := rfl
@[simp] theorem State.setMuck_adv (v : Muck) : (s.setMuck v).adv = s.adv := rfl
@[simp] theorem State.setMuck_permit (v : Muck) : (s.setMuck v).permit = s.permit := rfl
@[simp] theorem State.setMuck_pres (v : Muck) : (s.setMuck v).pres = s.pres := rfl
@[simp] theorem State.setMuck_muck (v : Muck) : (s.setMuck v).muck = v := rfl
@[simp] theorem State.setMuck_lines (v : Muck) : (s.setMuck v).lines = s.lines := rfl
@[simp] theorem State.setMuck_ring (v : Muck) : (s.setMuck v).ring = s.ring := rfl
@[simp] theorem State.setMuck_build (v : Muck) : (s.setMuck v).build = s.build := rfl
@[simp] theorem State.setMuck_ports (v : Muck) : (s.setMuck v).ports = s.ports := rfl
@[simp] theorem State.setMuck_req (v : Muck) : (s.setMuck v).req = s.req := rfl
@[simp] theorem State.setMuck_out (v : Muck) : (s.setMuck v).out = s.out := rfl
@[simp] theorem State.setMuck_hostLine (v : Muck) : (s.setMuck v).hostLine = s.hostLine := rfl
@[simp] theorem State.setMuck_fieldLine (v : Muck) : (s.setMuck v).fieldLine = s.fieldLine := rfl
@[simp] theorem State.setMuck_tick (v : Muck) : (s.setMuck v).tick = s.tick := rfl
@[simp] theorem State.setMuck_pending (v : Muck) : (s.setMuck v).pending = s.pending := rfl
@[simp] theorem State.setMuck_setMuck (v w : Muck) : (s.setMuck v).setMuck w = s.setMuck w := rfl
@[simp] theorem State.setMuck_self : s.setMuck s.muck = s := rfl

@[simp] theorem State.setLines_link (v : Vector Line 6) : (s.setLines v).link = s.link := rfl
@[simp] theorem State.setLines_adv (v : Vector Line 6) : (s.setLines v).adv = s.adv := rfl
@[simp] theorem State.setLines_permit (v : Vector Line 6) : (s.setLines v).permit = s.permit := rfl
@[simp] theorem State.setLines_pres (v : Vector Line 6) : (s.setLines v).pres = s.pres := rfl
@[simp] theorem State.setLines_muck (v : Vector Line 6) : (s.setLines v).muck = s.muck := rfl
@[simp] theorem State.setLines_lines (v : Vector Line 6) : (s.setLines v).lines = v := rfl
@[simp] theorem State.setLines_ring (v : Vector Line 6) : (s.setLines v).ring = s.ring := rfl
@[simp] theorem State.setLines_build (v : Vector Line 6) : (s.setLines v).build = s.build := rfl
@[simp] theorem State.setLines_ports (v : Vector Line 6) : (s.setLines v).ports = s.ports := rfl
@[simp] theorem State.setLines_req (v : Vector Line 6) : (s.setLines v).req = s.req := rfl
@[simp] theorem State.setLines_out (v : Vector Line 6) : (s.setLines v).out = s.out := rfl
@[simp] theorem State.setLines_hostLine (v : Vector Line 6) : (s.setLines v).hostLine = s.hostLine := rfl
@[simp] theorem State.setLines_fieldLine (v : Vector Line 6) : (s.setLines v).fieldLine = s.fieldLine := rfl
@[simp] theorem State.setLines_tick (v : Vector Line 6) : (s.setLines v).tick = s.tick := rfl
@[simp] theorem State.setLines_pending (v : Vector Line 6) : (s.setLines v).pending = s.pending := rfl
@[simp] theorem State.setLines_setLines (v w : Vector Line 6) : (s.setLines v).setLines w = s.setLines w := rfl
@[simp] theorem State.setLines_self : s.setLines s.lines = s := rfl

@[simp] theorem State.setRing_link (v : Ring) : (s.setRing v).link = s.link := rfl
@[simp] theorem State.setRing_adv (v : Ring) : (s.setRing v).adv = s.adv := rfl
@[simp] theorem State.setRing_permit (v : Ring) : (s.setRing v).permit = s.permit := rfl
@[simp] theorem State.setRing_pres (v : Ring) : (s.setRing v).pres = s.pres := rfl
@[simp] theorem State.setRing_muck (v : Ring) : (s.setRing v).muck = s.muck := rfl
@[simp] theorem State.setRing_lines (v : Ring) : (s.setRing v).lines = s.lines := rfl
@[simp] theorem State.setRing_ring (v : Ring) : (s.setRing v).ring = v := rfl
@[simp] theorem State.setRing_build (v : Ring) : (s.setRing v).build = s.build := rfl
@[simp] theorem State.setRing_ports (v : Ring) : (s.setRing v).ports = s.ports := rfl
@[simp] theorem State.setRing_req (v : Ring) : (s.setRing v).req = s.req := rfl
@[simp] theorem State.setRing_out (v : Ring) : (s.setRing v).out = s.out := rfl
@[simp] theorem State.setRing_hostLine (v : Ring) : (s.setRing v).hostLine = s.hostLine := rfl
@[simp] theorem State.setRing_fieldLine (v : Ring) : (s.setRing v).fieldLine = s.fieldLine := rfl
@[simp] theorem State.setRing_tick (v : Ring) : (s.setRing v).tick = s.tick := rfl
@[simp] theorem State.setRing_pending (v : Ring) : (s.setRing v).pending = s.pending := rfl
@[simp] theorem State.setRing_setRing (v w : Ring) : (s.setRing v).setRing w = s.setRing w := rfl
@[simp] theorem State.setRing_self : s.setRing s.ring = s := rfl

@[simp] theorem State.setBuild_link (v : Build) : (s.setBuild v).link = s.link := rfl
@[simp] theorem State.setBuild_adv (v : Build) : (s.setBuild v).adv = s.adv := rfl
@[simp] theorem State.setBuild_permit (v : Build) : (s.setBuild v).permit = s.permit := rfl
@[simp] theorem State.setBuild_pres (v : Build) : (s.setBuild v).pres = s.pres := rfl
@[simp] theorem State.setBuild_muck (v : Build) : (s.setBuild v).muck = s.muck := rfl
@[simp] theorem State.setBuild_lines (v : Build) : (s.setBuild v).lines = s.lines := rfl
@[simp] theorem State.setBuild_ring (v : Build) : (s.setBuild v).ring = s.ring := rfl
@[simp] theorem State.setBuild_build (v : Build) : (s.setBuild v).build = v := rfl
@[simp] theorem State.setBuild_ports (v : Build) : (s.setBuild v).ports = s.ports := rfl
@[simp] theorem State.setBuild_req (v : Build) : (s.setBuild v).req = s.req := rfl
@[simp] theorem State.setBuild_out (v : Build) : (s.setBuild v).out = s.out := rfl
@[simp] theorem State.setBuild_hostLine (v : Build) : (s.setBuild v).hostLine = s.hostLine := rfl
@[simp] theorem State.setBuild_fieldLine (v : Build) : (s.setBuild v).fieldLine = s.fieldLine := rfl
@[simp] theorem State.setBuild_tick (v : Build) : (s.setBuild v).tick = s.tick := rfl
@[simp] theorem State.setBuild_pending (v : Build) : (s.setBuild v).pending = s.pending := rfl
@[simp] theorem State.setBuild_setBuild (v w : Build) : (s.setBuild v).setBuild w = s.setBuild w := rfl
@[simp] theorem State.setBuild_self : s.setBuild s.build = s := rfl

@[simp] theorem State.setPorts_link (v : Vector Port 16) : (s.setPorts v).link = s.link := rfl
@[simp] theorem State.setPorts_adv (v : Vector Port 16) : (s.setPorts v).adv = s.adv := rfl
@[simp] theorem State.setPorts_permit (v : Vector Port 16) : (s.setPorts v).permit = s.permit := rfl
@[simp] theorem State.setPorts_pres (v : Vector Port 16) : (s.setPorts v).pres = s.pres := rfl
@[simp] theorem State.setPorts_muck (v : Vector Port 16) : (s.setPorts v).muck = s.muck := rfl
@[simp] theorem State.setPorts_lines (v : Vector Port 16) : (s.setPorts v).lines = s.lines := rfl
@[simp] theorem State.setPorts_ring (v : Vector Port 16) : (s.setPorts v).ring = s.ring := rfl
@[simp] theorem State.setPorts_build (v : Vector Port 16) : (s.setPorts v).build = s.build := rfl
@[simp] theorem State.setPorts_ports (v : Vector Port 16) : (s.setPorts v).ports = v := rfl
@[simp] theorem State.setPorts_req (v : Vector Port 16) : (s.setPorts v).req = s.req := rfl
@[simp] theorem State.setPorts_out (v : Vector Port 16) : (s.setPorts v).out = s.out := rfl
@[simp] theorem State.setPorts_hostLine (v : Vector Port 16) : (s.setPorts v).hostLine = s.hostLine := rfl
@[simp] theorem State.setPorts_fieldLine (v : Vector Port 16) : (s.setPorts v).fieldLine = s.fieldLine := rfl
@[simp] theorem State.setPorts_tick (v : Vector Port 16) : (s.setPorts v).tick = s.tick := rfl
@[simp] theorem State.setPorts_pending (v : Vector Port 16) : (s.setPorts v).pending = s.pending := rfl
@[simp] theorem State.setPorts_setPorts (v w : Vector Port 16) : (s.setPorts v).setPorts w = s.setPorts w := rfl
@[simp] theorem State.setPorts_self : s.setPorts s.ports = s := rfl

@[simp] theorem State.setReq_link (v : Requests) : (s.setReq v).link = s.link := rfl
@[simp] theorem State.setReq_adv (v : Requests) : (s.setReq v).adv = s.adv := rfl
@[simp] theorem State.setReq_permit (v : Requests) : (s.setReq v).permit = s.permit := rfl
@[simp] theorem State.setReq_pres (v : Requests) : (s.setReq v).pres = s.pres := rfl
@[simp] theorem State.setReq_muck (v : Requests) : (s.setReq v).muck = s.muck := rfl
@[simp] theorem State.setReq_lines (v : Requests) : (s.setReq v).lines = s.lines := rfl
@[simp] theorem State.setReq_ring (v : Requests) : (s.setReq v).ring = s.ring := rfl
@[simp] theorem State.setReq_build (v : Requests) : (s.setReq v).build = s.build := rfl
@[simp] theorem State.setReq_ports (v : Requests) : (s.setReq v).ports = s.ports := rfl
@[simp] theorem State.setReq_req (v : Requests) : (s.setReq v).req = v := rfl
@[simp] theorem State.setReq_out (v : Requests) : (s.setReq v).out = s.out := rfl
@[simp] theorem State.setReq_hostLine (v : Requests) : (s.setReq v).hostLine = s.hostLine := rfl
@[simp] theorem State.setReq_fieldLine (v : Requests) : (s.setReq v).fieldLine = s.fieldLine := rfl
@[simp] theorem State.setReq_tick (v : Requests) : (s.setReq v).tick = s.tick := rfl
@[simp] theorem State.setReq_pending (v : Requests) : (s.setReq v).pending = s.pending := rfl
@[simp] theorem State.setReq_setReq (v w : Requests) : (s.setReq v).setReq w = s.setReq w := rfl
@[simp] theorem State.setReq_self : s.setReq s.req = s := rfl

@[simp] theorem State.setOut_link (v : Output) : (s.setOut v).link = s.link := rfl
@[simp] theorem State.setOut_adv (v : Output) : (s.setOut v).adv = s.adv := rfl
@[simp] theorem State.setOut_permit (v : Output) : (s.setOut v).permit = s.permit := rfl
@[simp] theorem State.setOut_pres (v : Output) : (s.setOut v).pres = s.pres := rfl
@[simp] theorem State.setOut_muck (v : Output) : (s.setOut v).muck = s.muck := rfl
@[simp] theorem State.setOut_lines (v : Output) : (s.setOut v).lines = s.lines := rfl
@[simp] theorem State.setOut_ring (v : Output) : (s.setOut v).ring = s.ring := rfl
@[simp] theorem State.setOut_build (v : Output) : (s.setOut v).build = s.build := rfl
@[simp] theorem State.setOut_ports (v : Output) : (s.setOut v).ports = s.ports := rfl
@[simp] theorem State.setOut_req (v : Output) : (s.setOut v).req = s.req := rfl
@[simp] theorem State.setOut_out (v : Output) : (s.setOut v).out = v := rfl
@[simp] theorem State.setOut_hostLine (v : Output) : (s.setOut v).hostLine = s.hostLine := rfl
@[simp] theorem State.setOut_fieldLine (v : Output) : (s.setOut v).fieldLine = s.fieldLine := rfl
@[simp] theorem State.setOut_tick (v : Output) : (s.setOut v).tick = s.tick := rfl
@[simp] theorem State.setOut_pending (v : Output) : (s.setOut v).pending = s.pending := rfl
@[simp] theorem State.setOut_setOut (v w : Output) : (s.setOut v).setOut w = s.setOut w := rfl
@[simp] theorem State.setOut_self : s.setOut s.out = s := rfl

@[simp] theorem State.setHostLine_link (v : List (List Byte)) : (s.setHostLine v).link = s.link := rfl
@[simp] theorem State.setHostLine_adv (v : List (List Byte)) : (s.setHostLine v).adv = s.adv := rfl
@[simp] theorem State.setHostLine_permit (v : List (List Byte)) : (s.setHostLine v).permit = s.permit := rfl
@[simp] theorem State.setHostLine_pres (v : List (List Byte)) : (s.setHostLine v).pres = s.pres := rfl
@[simp] theorem State.setHostLine_muck (v : List (List Byte)) : (s.setHostLine v).muck = s.muck := rfl
@[simp] theorem State.setHostLine_lines (v : List (List Byte)) : (s.setHostLine v).lines = s.lines := rfl
@[simp] theorem State.setHostLine_ring (v : List (List Byte)) : (s.setHostLine v).ring = s.ring := rfl
@[simp] theorem State.setHostLine_build (v : List (List Byte)) : (s.setHostLine v).build = s.build := rfl
@[simp] theorem State.setHostLine_ports (v : List (List Byte)) : (s.setHostLine v).ports = s.ports := rfl
@[simp] theorem State.setHostLine_req (v : List (List Byte)) : (s.setHostLine v).req = s.req := rfl
@[simp] theorem State.setHostLine_out (v : List (List Byte)) : (s.setHostLine v).out = s.out := rfl
@[simp] theorem State.setHostLine_hostLine (v : List (List Byte)) : (s.setHostLine v).hostLine = v := rfl
@[simp] theorem State.setHostLine_fieldLine (v : List (List Byte)) : (s.setHostLine v).fieldLine = s.fieldLine := rfl
@[simp] theorem State.setHostLine_tick (v : List (List Byte)) : (s.setHostLine v).tick = s.tick := rfl
@[simp] theorem State.setHostLine_pending (v : List (List Byte)) : (s.setHostLine v).pending = s.pending := rfl
@[simp] theorem State.setHostLine_setHostLine (v w : List (List Byte)) : (s.setHostLine v).setHostLine w = s.setHostLine w := rfl
@[simp] theorem State.setHostLine_self : s.setHostLine s.hostLine = s := rfl

@[simp] theorem State.setFieldLine_link (v : List (PortNo × List Byte)) : (s.setFieldLine v).link = s.link := rfl
@[simp] theorem State.setFieldLine_adv (v : List (PortNo × List Byte)) : (s.setFieldLine v).adv = s.adv := rfl
@[simp] theorem State.setFieldLine_permit (v : List (PortNo × List Byte)) : (s.setFieldLine v).permit = s.permit := rfl
@[simp] theorem State.setFieldLine_pres (v : List (PortNo × List Byte)) : (s.setFieldLine v).pres = s.pres := rfl
@[simp] theorem State.setFieldLine_muck (v : List (PortNo × List Byte)) : (s.setFieldLine v).muck = s.muck := rfl
@[simp] theorem State.setFieldLine_lines (v : List (PortNo × List Byte)) : (s.setFieldLine v).lines = s.lines := rfl
@[simp] theorem State.setFieldLine_ring (v : List (PortNo × List Byte)) : (s.setFieldLine v).ring = s.ring := rfl
@[simp] theorem State.setFieldLine_build (v : List (PortNo × List Byte)) : (s.setFieldLine v).build = s.build := rfl
@[simp] theorem State.setFieldLine_ports (v : List (PortNo × List Byte)) : (s.setFieldLine v).ports = s.ports := rfl
@[simp] theorem State.setFieldLine_req (v : List (PortNo × List Byte)) : (s.setFieldLine v).req = s.req := rfl
@[simp] theorem State.setFieldLine_out (v : List (PortNo × List Byte)) : (s.setFieldLine v).out = s.out := rfl
@[simp] theorem State.setFieldLine_hostLine (v : List (PortNo × List Byte)) : (s.setFieldLine v).hostLine = s.hostLine := rfl
@[simp] theorem State.setFieldLine_fieldLine (v : List (PortNo × List Byte)) : (s.setFieldLine v).fieldLine = v := rfl
@[simp] theorem State.setFieldLine_tick (v : List (PortNo × List Byte)) : (s.setFieldLine v).tick = s.tick := rfl
@[simp] theorem State.setFieldLine_pending (v : List (PortNo × List Byte)) : (s.setFieldLine v).pending = s.pending := rfl
@[simp] theorem State.setFieldLine_setFieldLine (v w : List (PortNo × List Byte)) : (s.setFieldLine v).setFieldLine w = s.setFieldLine w := rfl
@[simp] theorem State.setFieldLine_self : s.setFieldLine s.fieldLine = s := rfl

@[simp] theorem State.setTick_link (v : Nat) : (s.setTick v).link = s.link := rfl
@[simp] theorem State.setTick_adv (v : Nat) : (s.setTick v).adv = s.adv := rfl
@[simp] theorem State.setTick_permit (v : Nat) : (s.setTick v).permit = s.permit := rfl
@[simp] theorem State.setTick_pres (v : Nat) : (s.setTick v).pres = s.pres := rfl
@[simp] theorem State.setTick_muck (v : Nat) : (s.setTick v).muck = s.muck := rfl
@[simp] theorem State.setTick_lines (v : Nat) : (s.setTick v).lines = s.lines := rfl
@[simp] theorem State.setTick_ring (v : Nat) : (s.setTick v).ring = s.ring := rfl
@[simp] theorem State.setTick_build (v : Nat) : (s.setTick v).build = s.build := rfl
@[simp] theorem State.setTick_ports (v : Nat) : (s.setTick v).ports = s.ports := rfl
@[simp] theorem State.setTick_req (v : Nat) : (s.setTick v).req = s.req := rfl
@[simp] theorem State.setTick_out (v : Nat) : (s.setTick v).out = s.out := rfl
@[simp] theorem State.setTick_hostLine (v : Nat) : (s.setTick v).hostLine = s.hostLine := rfl
@[simp] theorem State.setTick_fieldLine (v : Nat) : (s.setTick v).fieldLine = s.fieldLine := rfl
@[simp] theorem State.setTick_tick (v : Nat) : (s.setTick v).tick = v := rfl
@[simp] theorem State.setTick_pending (v : Nat) : (s.setTick v).pending = s.pending := rfl
@[simp] theorem State.setTick_setTick (v w : Nat) : (s.setTick v).setTick w = s.setTick w := rfl
@[simp] theorem State.setTick_self : s.setTick s.tick = s := rfl

@[simp] theorem State.setPending_link (v : List Instr) : (s.setPending v).link = s.link := rfl
@[simp] theorem State.setPending_adv (v : List Instr) : (s.setPending v).adv = s.adv := rfl
@[simp] theorem State.setPending_permit (v : List Instr) : (s.setPending v).permit = s.permit := rfl
@[simp] theorem State.setPending_pres (v : List Instr) : (s.setPending v).pres = s.pres := rfl
@[simp] theorem State.setPending_muck (v : List Instr) : (s.setPending v).muck = s.muck := rfl
@[simp] theorem State.setPending_lines (v : List Instr) : (s.setPending v).lines = s.lines := rfl
@[simp] theorem State.setPending_ring (v : List Instr) : (s.setPending v).ring = s.ring := rfl
@[simp] theorem State.setPending_build (v : List Instr) : (s.setPending v).build = s.build := rfl
@[simp] theorem State.setPending_ports (v : List Instr) : (s.setPending v).ports = s.ports := rfl
@[simp] theorem State.setPending_req (v : List Instr) : (s.setPending v).req = s.req := rfl
@[simp] theorem State.setPending_out (v : List Instr) : (s.setPending v).out = s.out := rfl
@[simp] theorem State.setPending_hostLine (v : List Instr) : (s.setPending v).hostLine = s.hostLine := rfl
@[simp] theorem State.setPending_fieldLine (v : List Instr) : (s.setPending v).fieldLine = s.fieldLine := rfl
@[simp] theorem State.setPending_tick (v : List Instr) : (s.setPending v).tick = s.tick := rfl
@[simp] theorem State.setPending_pending (v : List Instr) : (s.setPending v).pending = v := rfl
@[simp] theorem State.setPending_setPending (v w : List Instr) : (s.setPending v).setPending w = s.setPending w := rfl
@[simp] theorem State.setPending_self : s.setPending s.pending = s := rfl

/-- Two states that agree in every field are one. -/
theorem State.ext_fields {s t : State} (hl : s.link = t.link) (ha : s.adv = t.adv) (hp : s.permit = t.permit)
    (hc : s.pres = t.pres) (hm : s.muck = t.muck) (hg : s.lines = t.lines) (hr : s.ring = t.ring)
    (hb : s.build = t.build) (ho : s.ports = t.ports) (hq : s.req = t.req) (hu : s.out = t.out)
    (hh : s.hostLine = t.hostLine) (hf : s.fieldLine = t.fieldLine) (ht : s.tick = t.tick)
    (hn : s.pending = t.pending) : s = t := by
  cases s; cases t; simp_all

end Sys2Proof.Machine
end

