-- ==== Sys2Proof/Laws/Ops.lean ====
section
/-! SUPPORT. What each shared operation does, said once. -/

namespace Sys2Proof.Machine

/-! ## Tables -/

theorem get_put {α : Type} {n : Nat} (v : Vector α n) (i j : Fin n) (x : α) :
    (put v i x).get j = if i = j then x else v.get j := by
  simp only [put, Vector.get_eq_getElem, Vector.getElem_set, Fin.ext_iff]

@[simp] theorem get_put_self {α : Type} {n : Nat} (v : Vector α n) (i : Fin n) (x : α) :
    (put v i x).get i = x := by simp [get_put]

theorem get_put_ne {α : Type} {n : Nat} (v : Vector α n) {i j : Fin n} (h : i ≠ j) (x : α) :
    (put v i x).get j = v.get j := by simp [get_put, h]

@[simp] theorem get_map {α β : Type} {n : Nat} (v : Vector α n) (f : α → β) (i : Fin n) :
    (v.map f).get i = f (v.get i) := by simp [Vector.get_eq_getElem]

@[simp] theorem line_setLine (i j : LineNo) (l : Line) (s : State) :
    (setLine i l s).line j = if i = j then l else s.line j := by
  simp [setLine, State.line, get_put]

/-! ## The Output Image -/

theorem point_setPoint (r : Requests) (p q : PortNo) (i j : Fin 16) (pt : Point) :
    (r.setPoint p i pt).point q j = if p = q ∧ i = j then pt else r.point q j := by
  simp only [Requests.point, Requests.setPoint, get_put]
  by_cases hp : p = q <;> by_cases hi : i = j <;> simp [hp, hi, get_put]

theorem point_modPoint (r : Requests) (p q : PortNo) (i : Nat) (j : Fin 16) (f : Point → Point) :
    (r.modPoint p i f).point q j = if p = q ∧ i = j.val then f (r.point q j) else r.point q j := by
  unfold Requests.modPoint
  split
  · rename_i h
    rw [point_setPoint]
    by_cases hp : p = q <;> by_cases hi : i = j.val <;> simp [hp, hi, Fin.ext_iff]
  · rename_i h
    rw [if_neg]
    rintro ⟨-, rfl⟩
    exact h j.isLt

/-- A point that a request does not write stands. -/
theorem point_modWritten_ne (r : Requests) (p q : PortNo) (j : Fin 16) (pairs : List (Nat × Nat))
    (f : Nat → Nat → Point → Point) (h : q ≠ p ∨ j.val ∉ pairs.map (·.1)) :
    (r.modWritten p (.write pairs) f).point q j = r.point q j := by
  simp only [Requests.modWritten]
  induction pairs generalizing r with
  | nil => rfl
  | cons x xs ih =>
    rw [List.foldl_cons, ih _ (by simp at h ⊢; tauto), point_modPoint, if_neg]
    rintro ⟨rfl, hx⟩
    simp [← hx] at h

/-- A point that a write of distinct points names is changed by f of its number and its value. -/
theorem point_modWritten (r : Requests) (p : PortNo) (i : Fin 16) (v : Nat) (pairs : List (Nat × Nat))
    (f : Nat → Nat → Point → Point) (hn : (pairs.map (·.1)).Nodup) (h : (i.val, v) ∈ pairs) :
    (r.modWritten p (.write pairs) f).point p i = f i.val v (r.point p i) := by
  induction pairs generalizing r with
  | nil => simp at h
  | cons x xs ih =>
    have hc : r.modWritten p (.write (x :: xs)) f = (r.modPoint p x.1 (f x.1 x.2)).modWritten p (.write xs) f := rfl
    rw [hc]
    simp only [List.map_cons, List.nodup_cons] at hn
    rcases List.mem_cons.mp h with rfl | h'
    · rw [point_modWritten_ne _ _ _ _ _ _ (.inr hn.1), point_modPoint, if_pos ⟨rfl, rfl⟩]
    · rw [ih _ hn.2 h', point_modPoint, if_neg]
      rintro ⟨-, hx⟩
      exact hn.1 (hx ▸ List.mem_map_of_mem h')

/-- No point is DIRTY once the points are cleaned. -/
theorem cleanPoints_not_dirty (r : Requests) (p : PortNo) (i : Fin 16) :
    (r.cleanPoints.point p i).state ≠ .dirty := by
  simp only [Requests.point, Requests.cleanPoints, get_map, Point.cleaned]
  split <;> simp_all

/-- A request's points are all that the change of its points changes. -/
theorem modWritten_image (r : Requests) (p : PortNo) (k : ReqKind) (f : Nat → Nat → Point → Point) :
    r.modWritten p k f = { r with image := (r.modWritten p k f).image } := by
  unfold Requests.modWritten
  split
  · rename_i pairs
    induction pairs generalizing r with
    | nil => rfl
    | cons x xs ih =>
      rw [List.foldl_cons, ih]
      unfold Requests.modPoint
      split <;> rfl
  · rfl
  · rfl

/-! ## The last element that satisfies a test -/

theorem replaceLast_none {α : Type} (q : α → Bool) (f : α → α) :
    ∀ l : List α, replaceLast q f l = none ↔ ∀ x ∈ l, q x = false
  | [] => by simp [replaceLast]
  | x :: xs => by
    have ih := replaceLast_none q f xs
    unfold replaceLast
    cases h : replaceLast q f xs with
    | some ys => simp [← ih, h]
    | none => cases hx : q x <;> simp_all

/-- The last element that satisfies the test is changed, and every other keeps its place. -/
theorem replaceLast_some {α : Type} (q : α → Bool) (f : α → α) :
    ∀ (l : List α) {l' : List α}, replaceLast q f l = some l' →
      ∃ before x after, l = before ++ x :: after ∧ q x = true ∧ (∀ y ∈ after, q y = false)
        ∧ l' = before ++ f x :: after
  | [], _, h => by simp [replaceLast] at h
  | x :: xs, l', h => by
    unfold replaceLast at h
    split at h
    · rename_i ys hys
      cases h
      obtain ⟨b, y, a, h1, h2, h3, h4⟩ := replaceLast_some q f xs hys
      exact ⟨x :: b, y, a, by simp [h1], h2, h3, by simp [h4]⟩
    · rename_i hn
      split at h
      · rename_i hx
        cases h
        exact ⟨[], x, xs, rfl, hx, (replaceLast_none q f xs).mp hn, rfl⟩
      · simp at h

theorem foldable_iff (origin : Origin) (p : PortNo) (i : Nat) (e : Entry) :
    e.foldable origin p i = true ↔
      e.origin = origin ∧ e.port = p ∧ e.state.offLine = true ∧ ∃ w, e.kind = .write [(i, w)] := by
  unfold Entry.foldable
  rcases e with ⟨o, t, q, k, st, a, n⟩
  simp only [Bool.and_eq_true, beq_iff_eq, and_assoc]
  refine and_congr_right fun _ => and_congr_right fun _ => and_congr_right fun _ => ?_
  split <;> simp_all

/-! ## The order of tellings -/

/-- What every telling keeps, all of them together keep, in whatever order. -/
theorem applyInOrder_keeps (P : State → Prop) :
    ∀ (fuel order : Nat) (fs : List (State → State)), (∀ f ∈ fs, ∀ s, P s → P (f s)) →
      ∀ s, P s → P (applyInOrder fuel order fs s) := by
  intro fuel
  induction fuel with
  | zero => intro order fs _ s h; simpa [applyInOrder] using h
  | succ fuel ih =>
    intro order fs hf s h
    match fs with
    | [] => simpa [applyInOrder] using h
    | [f] => simpa [applyInOrder] using hf f (by simp) s h
    | f :: g :: fs =>
      simp only [applyInOrder]
      refine ih _ _ (fun f' hf' => hf f' (List.mem_of_mem_eraseIdx hf')) _ ?_
      have hlt : order % (f :: g :: fs).length < (f :: g :: fs).length := Nat.mod_lt _ (by simp)
      rw [List.getD_eq_getElem _ _ hlt]
      exact hf _ (List.getElem_mem hlt) _ h

/-- What one telling brings about and every other keeps, holds after all of them, in whatever order. -/
theorem applyInOrder_brings (P Q : State → Prop) :
    ∀ (fuel order : Nat) (fs : List (State → State)), fs.length ≤ fuel →
      (∀ f ∈ fs, ∀ s, P s → P (f s)) → (∀ f ∈ fs, ∀ s, P s → Q s → Q (f s)) →
      (∃ f ∈ fs, ∀ s, P s → Q (f s)) → ∀ s, P s → Q (applyInOrder fuel order fs s) := by
  intro fuel
  induction fuel with
  | zero =>
    intro order fs hlen _ _ hex s _
    obtain ⟨f, hf, _⟩ := hex
    have : fs = [] := List.length_eq_zero_iff.mp (by omega)
    simp [this] at hf
  | succ fuel ih =>
    intro order fs hlen hP hQ hex s h
    match fs with
    | [] => obtain ⟨f, hf, _⟩ := hex; simp at hf
    | [f] =>
      obtain ⟨g, hg, hb⟩ := hex
      have : g = f := by simpa using hg
      subst this
      simpa [applyInOrder] using hb s h
    | f :: g :: fs =>
      simp only [applyInOrder]
      have hlt : order % (f :: g :: fs).length < (f :: g :: fs).length := Nat.mod_lt _ (by simp)
      rw [List.getD_eq_getElem _ _ hlt]
      set all := f :: g :: fs with hall
      set k := order % all.length with hk
      have hmem : all[k] ∈ all := List.getElem_mem hlt
      have hsub : ∀ f' ∈ all.eraseIdx k, f' ∈ all := fun f' hf' => List.mem_of_mem_eraseIdx hf'
      obtain ⟨b, hb, hbr⟩ := hex
      by_cases hbk : b = all[k]
      · subst hbk
        have hlen' : (all.eraseIdx k).length ≤ fuel := by
          rw [List.length_eraseIdx_of_lt hlt]; simp [hall] at hlen ⊢; omega
        refine (applyInOrder_keeps (fun s => P s ∧ Q s) fuel _ _ ?_ _ ⟨hP _ hmem _ h, hbr _ h⟩).2
        intro f' hf' s' hs'
        exact ⟨hP _ (hsub _ hf') _ hs'.1, hQ _ (hsub _ hf') _ hs'.1 hs'.2⟩
      · have hlen' : (all.eraseIdx k).length ≤ fuel := by
          rw [List.length_eraseIdx_of_lt hlt]; simp [hall] at hlen ⊢; omega
        refine ih _ _ hlen' (fun f' hf' => hP f' (hsub _ hf')) (fun f' hf' => hQ f' (hsub _ hf')) ?_ _
          (hP _ hmem _ h)
        refine ⟨b, ?_, hbr⟩
        obtain ⟨n, hn, rfl⟩ := List.getElem_of_mem hb
        have : n ≠ k := fun e => hbk (by subst e; rfl)
        exact List.mem_eraseIdx_iff_getElem.mpr ⟨n, hn, this, rfl⟩

/-- The tellings are taken each once, in some order. -/
theorem applyInOrder_perm :
    ∀ (fuel order : Nat) (fs : List (State → State)), fs.length ≤ fuel →
      ∃ gs : List (State → State), gs.Perm fs ∧
        ∀ s, applyInOrder fuel order fs s = gs.foldl (fun s f => f s) s := by
  intro fuel
  induction fuel with
  | zero => intro order fs hlen; exact ⟨[], by simp [List.length_eq_zero_iff.mp (Nat.le_zero.mp hlen)], fun _ => rfl⟩
  | succ fuel ih =>
    intro order fs hlen
    match fs with
    | [] => exact ⟨[], List.Perm.refl _, fun _ => rfl⟩
    | [f] => exact ⟨[f], List.Perm.refl _, fun _ => rfl⟩
    | f :: g :: fs =>
      have hlt : order % (f :: g :: fs).length < (f :: g :: fs).length := Nat.mod_lt _ (by simp)
      obtain ⟨gs, hp, he⟩ := ih (order / (f :: g :: fs).length)
        ((f :: g :: fs).eraseIdx (order % (f :: g :: fs).length))
        (by rw [List.length_eraseIdx_of_lt hlt]; simp at hlen ⊢; omega)
      refine ⟨(f :: g :: fs)[order % (f :: g :: fs).length] :: gs,
        (hp.cons _).trans (List.getElem_cons_eraseIdx_perm hlt), fun s => ?_⟩
      simp only [applyInOrder, List.foldl_cons]
      rw [he, List.getD_eq_getElem _ _ hlt]

/-- What tellAll does: the counter of the free value rises by one, and the tellings are taken each once in some order. -/
theorem tellAll_perm (fs : List (State → State)) (s : State) :
    ∃ gs : List (State → State), gs.Perm fs ∧ tellAll fs s = gs.foldl (fun s f => f s) (s.setTick (s.tick + 1)) := by
  obtain ⟨gs, hp, he⟩ := applyInOrder_perm fs.length (Config.tellingOrder s.tick) fs (Nat.le_refl _)
  exact ⟨gs, hp, he _⟩

end Sys2Proof.Machine
end

