-- ==== Sys2Proof/Laws/Kept.lean ====
section
/-! SUPPORT. What every operation inside a command keeps: the laws of Safety.lean, unit by unit, and the fields that
only the Link Unit's own rows change. -/

namespace Sys2Proof.Machine

/-- What an operation keeps in every output mode. -/
structure Kept (s t : State) : Prop where
  replies : t.link.replies = s.link.replies
  rx : t.link.rx = s.link.rx
  held : t.link.held = s.link.held
  hostLine : t.hostLine = s.hostLine
  pending : t.pending = s.pending
  reports : s.link.reports.length ≤ Config.reportCap → t.link.reports.length ≤ Config.reportCap
  permit : permitDerived s.permit → permitDerived t.permit
  transit : transitBalanced s.muck → transitBalanced t.muck
  transitCap : s.muck.queue.length ≤ Config.transitCap → t.muck.queue.length ≤ Config.transitCap
  history : s.ring.history.length ≤ Config.historyCap → t.ring.history.length ≤ Config.historyCap
  segments : s.ring.queue.length ≤ Config.segmentCap → t.ring.queue.length ≤ Config.segmentCap
  table : s.req.table.length ≤ Config.tableCap → t.req.table.length ≤ Config.tableCap
  faults : s.out.faults.length ≤ Config.faultCap → t.out.faults.length ≤ Config.faultCap
  screw : screwAtRest s → screwAtRest t
  timers : timersHeld s.lines → timersHeld t.lines

/-- What an operation that does not move the output mode into or out of NORMAL keeps besides. -/
structure Still (s t : State) : Prop where
  mode : t.out.mode = .normal ↔ s.out.mode = .normal
  adv : s.out.mode ≠ .normal → s.adv.state.active = false → t.adv.state.active = false
  lines : s.out.mode ≠ .normal → linesRest s.lines → linesRest t.lines
  step : s.out.mode ≠ .normal → stepRest s.build → stepRest t.build

/-- Both. -/
structure Inner (s t : State) : Prop extends Kept s t, Still s t

theorem Kept.refl (s : State) : Kept s s := by constructor <;> simp

theorem Kept.trans {s t u : State} (h : Kept s t) (k : Kept t u) : Kept s u where
  replies := k.replies.trans h.replies
  rx := k.rx.trans h.rx
  held := k.held.trans h.held
  hostLine := k.hostLine.trans h.hostLine
  pending := k.pending.trans h.pending
  reports := k.reports ∘ h.reports
  permit := k.permit ∘ h.permit
  transit := k.transit ∘ h.transit
  transitCap := k.transitCap ∘ h.transitCap
  history := k.history ∘ h.history
  segments := k.segments ∘ h.segments
  table := k.table ∘ h.table
  faults := k.faults ∘ h.faults
  screw := k.screw ∘ h.screw
  timers := k.timers ∘ h.timers

theorem Still.refl (s : State) : Still s s := by constructor <;> simp

theorem Still.trans {s t u : State} (h : Still s t) (k : Still t u) : Still s u where
  mode := k.mode.trans h.mode
  adv hm ha := k.adv (by simpa [h.mode] using hm) (h.adv hm ha)
  lines hm hl := k.lines (by simpa [h.mode] using hm) (h.lines hm hl)
  step hm hs := k.step (by simpa [h.mode] using hm) (h.step hm hs)

theorem Inner.refl (s : State) : Inner s s := ⟨Kept.refl s, Still.refl s⟩

theorem Inner.trans {s t u : State} (h : Inner s t) (k : Inner t u) : Inner s u :=
  ⟨h.toKept.trans k.toKept, h.toStill.trans k.toStill⟩

/-- A refusal changes nothing. -/
theorem inner_refuse (st : Status) (s : State) : Inner s (refuse st s).1 := Inner.refl s

/-! ## Updates of one unit -/

/-- A sameness lemma for updates that touch nothing the laws speak of. -/
theorem Inner.same {s t : State} (hl : t.link = s.link) (ha : t.adv.state = s.adv.state)
    (hp : t.permit = s.permit) (hc : t.pres.setpoint = s.pres.setpoint) (hm : t.muck = s.muck)
    (hg : t.lines = s.lines) (hr : t.ring = s.ring) (hb : t.build.step = s.build.step)
    (hq : t.req = s.req) (hu : t.out = s.out) (hh : t.hostLine = s.hostLine)
    (hn : t.pending = s.pending) : Inner s t := by
  refine ⟨⟨?_, ?_, ?_, ?_, ?_, ?_, ?_, ?_, ?_, ?_, ?_, ?_, ?_, ?_, ?_⟩, ⟨?_, ?_, ?_, ?_⟩⟩ <;>
    simp_all [screwAtRest, stepRest]

theorem inner_report (r : Report) (s : State) : Inner s (report r s) := by
  unfold report Link.queueReport
  refine ⟨⟨?_, ?_, ?_, ?_, ?_, ?_, ?_, ?_, ?_, ?_, ?_, ?_, ?_, ?_, ?_⟩, ⟨?_, ?_, ?_, ?_⟩⟩ <;>
    (try split) <;> simp_all [screwAtRest]

theorem inner_sendField (p : PortNo) (b : List Byte) (s : State) : Inner s (sendField p b s) := by
  apply Inner.same <;> simp [sendField]

theorem inner_setPorts (v : Vector Port 16) (s : State) : Inner s (s.setPorts v) := by
  apply Inner.same <;> simp

theorem inner_setTick (v : Nat) (s : State) : Inner s (s.setTick v) := by apply Inner.same <;> simp

/-- The Advance Unit changes otherwise than in its state. -/
theorem inner_setAdv {v : Advance} {s : State} (h : v.state = s.adv.state) : Inner s (s.setAdv v) := by
  apply Inner.same <;> simp [h]

theorem inner_setPres {v : Pressure} {s : State} (h : v.setpoint = s.pres.setpoint) :
    Inner s (s.setPres v) := by
  apply Inner.same <;> simp [h]

theorem inner_setBuild {v : Build} {s : State} (h : v.step = s.build.step) : Inner s (s.setBuild v) := by
  apply Inner.same <;> simp [h]

theorem inner_setStep {v : Option Step} {s : State}
    (h : s.out.mode ≠ .normal → stepRest s.build → ∀ st, v = some st → st.state.running = false) :
    Inner s (setStep v s) := by
  refine ⟨⟨?_, ?_, ?_, ?_, ?_, ?_, ?_, ?_, ?_, ?_, ?_, ?_, ?_, ?_, ?_⟩, ⟨?_, ?_, ?_, ?_⟩⟩ <;>
    simp_all [setStep, screwAtRest]
  intro hm hs st hst
  exact h hm hs st hst

theorem inner_setMuck {v : Muck} {s : State} (hb : transitBalanced s.muck → transitBalanced v)
    (hc : s.muck.queue.length ≤ Config.transitCap → v.queue.length ≤ Config.transitCap) :
    Inner s (s.setMuck v) := by
  refine ⟨⟨?_, ?_, ?_, ?_, ?_, ?_, ?_, ?_, ?_, ?_, ?_, ?_, ?_, ?_, ?_⟩, ⟨?_, ?_, ?_, ?_⟩⟩ <;>
    simp_all [screwAtRest]

theorem inner_setReq {v : Requests} {s : State}
    (h : s.req.table.length ≤ Config.tableCap → v.table.length ≤ Config.tableCap) :
    Inner s (s.setReq v) := by
  refine ⟨⟨?_, ?_, ?_, ?_, ?_, ?_, ?_, ?_, ?_, ?_, ?_, ?_, ?_, ?_, ?_⟩, ⟨?_, ?_, ?_, ?_⟩⟩ <;>
    simp_all [screwAtRest]

theorem inner_setRing {v : Ring} {s : State}
    (hh : s.ring.history.length ≤ Config.historyCap → v.history.length ≤ Config.historyCap)
    (hq : s.ring.queue.length ≤ Config.segmentCap → v.queue.length ≤ Config.segmentCap) :
    Inner s (s.setRing v) := by
  refine ⟨⟨?_, ?_, ?_, ?_, ?_, ?_, ?_, ?_, ?_, ?_, ?_, ?_, ?_, ?_, ?_⟩, ⟨?_, ?_, ?_, ?_⟩⟩ <;>
    simp_all [screwAtRest]

theorem inner_setOut {v : Output} {s : State} (hm : v.mode = .normal ↔ s.out.mode = .normal)
    (hf : s.out.faults.length ≤ Config.faultCap → v.faults.length ≤ Config.faultCap) :
    Inner s (s.setOut v) := by
  refine ⟨⟨?_, ?_, ?_, ?_, ?_, ?_, ?_, ?_, ?_, ?_, ?_, ?_, ?_, ?_, ?_⟩, ⟨?_, ?_, ?_, ?_⟩⟩ <;>
    simp_all [screwAtRest]

theorem kept_setOut {v : Output} {s : State}
    (hf : s.out.faults.length ≤ Config.faultCap → v.faults.length ≤ Config.faultCap) :
    Kept s (s.setOut v) := by
  refine ⟨?_, ?_, ?_, ?_, ?_, ?_, ?_, ?_, ?_, ?_, ?_, ?_, ?_, ?_, ?_⟩ <;> simp_all [screwAtRest]

theorem inner_setPermit {v : Permit} {s : State} (h : permitDerived s.permit → permitDerived v) :
    Inner s (s.setPermit v) := by
  refine ⟨⟨?_, ?_, ?_, ?_, ?_, ?_, ?_, ?_, ?_, ?_, ?_, ?_, ?_, ?_, ?_⟩, ⟨?_, ?_, ?_, ?_⟩⟩ <;>
    simp_all [screwAtRest]

theorem inner_setLines {v : Vector Line 6} {s : State}
    (ht : timersHeld s.lines → timersHeld v)
    (hr : s.out.mode ≠ .normal → linesRest s.lines → linesRest v) : Inner s (s.setLines v) := by
  refine ⟨⟨?_, ?_, ?_, ?_, ?_, ?_, ?_, ?_, ?_, ?_, ?_, ?_, ?_, ?_, ?_⟩, ⟨?_, ?_, ?_, ?_⟩⟩ <;>
    simp_all [screwAtRest]

theorem permitDerived_write (p : Permit) (src : Source) (level : Level) (cause : RCause) (ring x : Nat) :
    permitDerived (p.write src level cause ring x) := ⟨rfl, rfl⟩

/-- A line's record changes; it stays in its state, or leaves the running states with no timer. -/
theorem inner_setLine {i : LineNo} {l : Line} {s : State}
    (ht : timersHeld s.lines → l.state.running = true ∨ l.timer = none ∨
      (l.state = (s.line i).state ∧ l.timer = (s.line i).timer))
    (hr : l.state.running = true → (s.line i).state.running = true ∨ s.out.mode = .normal) :
    Inner s (setLine i l s) := by
  unfold setLine
  apply inner_setLines
  · intro h j
    rw [get_put]
    split
    · rename_i hij
      subst hij
      rcases ht h with ht | ht | ⟨h1, h2⟩
      · exact .inl ht
      · exact .inr ht
      · rw [h1, h2]; exact h i
    · exact h j
  · intro hm h j
    rw [get_put]
    split
    · rename_i hij
      subst hij
      by_contra hc
      rcases hr (by simpa using hc) with h1 | h1
      · have := h i; simp [State.line] at h1; simp [h1] at this
      · exact hm h1
    · exact h j

end Sys2Proof.Machine
end

