-- ==== Sys2Proof/Laws/KeptOps.lean ====
section
/-! SUPPORT. The shared operations of Machine/Ops.lean keep the laws. -/

namespace Sys2Proof.Machine

/-! ## The Request Unit's table stays within its capacity -/

@[simp] theorem setPoint_table (r : Requests) (p : PortNo) (i : Fin 16) (pt : Point) :
    (r.setPoint p i pt).table = r.table := rfl

@[simp] theorem modPoint_table (r : Requests) (p : PortNo) (i : Nat) (f : Point → Point) :
    (r.modPoint p i f).table = r.table := by
  unfold Requests.modPoint; split <;> rfl

theorem foldl_table {α : Type} (f : Requests → α → Requests) (h : ∀ r a, (f r a).table = r.table) :
    ∀ (l : List α) (r : Requests), (l.foldl f r).table = r.table
  | [], _ => rfl
  | a :: l, r => by simp [foldl_table f h l, h]

@[simp] theorem modWritten_table (r : Requests) (p : PortNo) (k : ReqKind) (f : Nat → Nat → Point → Point) :
    (r.modWritten p k f).table = r.table := by
  unfold Requests.modWritten
  split
  · exact foldl_table _ (fun r a => by simp) _ r
  · rfl
  · rfl

@[simp] theorem register_table (r : Requests) (o : Origin) (t : Option Byte) (p : PortNo) (k : ReqKind) :
    (r.register o t p k).table = r.table ++ [⟨o, t, p, k, .queued, 1, r.nextSeq⟩] := rfl

@[simp] theorem enter_table (r : Requests) (o : Origin) (t : Option Byte) (p : PortNo) (k : ReqKind) :
    (r.enter o t p k).table = r.table ++ [⟨o, t, p, k, .queued, 1, r.nextSeq⟩] := by simp [Requests.enter]

theorem replaceLast_length {α : Type} (q : α → Bool) (f : α → α) :
    ∀ (l : List α) {l' : List α}, replaceLast q f l = some l' → l'.length = l.length
  | [], _, h => by simp [replaceLast] at h
  | x :: xs, l', h => by
    unfold replaceLast at h
    split at h
    · rename_i ys hys
      cases h
      simp [replaceLast_length q f xs hys]
    · split at h
      · cases h; simp
      · simp at h

theorem jobWrite_length (r : Requests) (o : Bool) (org : Origin) (p : PortNo) (i : Fin 16) (v : Nat)
    (h : r.table.length ≤ Config.tableCap) : (r.jobWrite o org p i v).table.length ≤ Config.tableCap := by
  unfold Requests.jobWrite
  dsimp only
  split
  · rename_i t ht
    simpa [replaceLast_length _ _ _ ht] using h
  · split
    · rename_i hc
      simp only [Requests.room, Bool.and_eq_true, decide_eq_true_eq] at hc
      simp; omega
    · simpa using h

theorem placeItem_length (r : Requests) (m : OutMode) (ps : PortState) (w : WaitItem)
    (h : r.table.length ≤ Config.tableCap) : (r.placeItem m ps w).1.table.length ≤ Config.tableCap := by
  unfold Requests.placeItem
  split
  · exact h
  · split
    · rename_i hc
      simp only [Requests.room, Bool.and_eq_true, decide_eq_true_eq] at hc
      simp; omega
    · simpa using h

/-! ## Operations -/

theorem inner_contribute (f : Record → Record) (s : State) : Inner s (contribute f s) := by
  unfold contribute; apply inner_setRing <;> exact id

theorem inner_placeItem (w : WaitItem) (s : State) : Inner s (placeItem w s).1 := by
  unfold placeItem; exact inner_setReq (placeItem_length _ _ _ _)

theorem inner_dropWaits (q : WaitItem → Bool) (s : State) : Inner s (s.setReq (s.req.dropWaits q)) :=
  inner_setReq id

theorem inner_withdrawEntry (n : Nat) (s : State) : Inner s (s.setReq (s.req.withdrawEntry n)) :=
  inner_setReq fun h => le_trans (List.length_filter_le _ _) h

theorem screwRequests_length (force : Bool) (s : State) (h : s.req.table.length ≤ Config.tableCap) :
    (screwRequests force s).table.length ≤ Config.tableCap := by
  unfold screwRequests
  split
  · exact jobWrite_length _ _ _ _ _ _ h
  · exact h

theorem inner_writeScrew (force : Bool) (s : State) : Inner s (writeScrew force s) :=
  inner_setReq (screwRequests_length force s)

/-- The screw setpoint is set to 0, or while the advance is BORING, or lowered. -/
theorem inner_setScrew {v : Nat} {s : State} (h : v = 0 ∨ s.adv.state = .boring ∨ v ≤ s.pres.setpoint) :
    Inner s (setScrew v s) := by
  unfold setScrew
  refine Inner.trans ?_ (inner_writeScrew _ _)
  refine ⟨⟨?_, ?_, ?_, ?_, ?_, ?_, ?_, ?_, ?_, ?_, ?_, ?_, ?_, ?_, ?_⟩, ⟨?_, ?_, ?_, ?_⟩⟩ <;>
    simp_all [screwAtRest]
  rintro (h' | h')
  · exact .inl h'
  · rcases h with h | h | h
    · exact .inr h
    · exact .inl h
    · right; omega

theorem writeTarget_length (s : State) (acc : Requests × Vector GroupState 16) (t : Target)
    (h : acc.1.table.length ≤ Config.tableCap) :
    (writeTarget s acc t).1.table.length ≤ Config.tableCap := by
  unfold writeTarget
  simp only
  split <;> split
  · exact h
  · exact jobWrite_length _ _ _ _ _ _ h
  · exact h
  · exact jobWrite_length _ _ _ _ _ _ h

theorem foldl_writeTarget_length (s : State) :
    ∀ (l : List Target) (acc : Requests × Vector GroupState 16), acc.1.table.length ≤ Config.tableCap →
      (l.foldl (writeTarget s) acc).1.table.length ≤ Config.tableCap
  | [], _, h => h
  | t :: l, acc, h => foldl_writeTarget_length s l _ (writeTarget_length s acc t h)

theorem setpoints_length (s : State) (h : s.req.table.length ≤ Config.tableCap) :
    (setpoints s).1.table.length ≤ Config.tableCap := by
  unfold setpoints
  split
  · exact foldl_writeTarget_length s _ _ h
  · exact h

theorem inner_refresh (s : State) : Inner s (refresh s) :=
  (inner_setReq (setpoints_length s)).trans (inner_setBuild rfl)

/-- The state of the advance after its setpoints follow. -/
@[simp] theorem refresh_adv (s : State) : (refresh s).adv = s.adv := rfl
@[simp] theorem refresh_out (s : State) : (refresh s).out = s.out := rfl
@[simp] theorem refresh_lines (s : State) : (refresh s).lines = s.lines := rfl
@[simp] theorem refresh_step (s : State) : (refresh s).build.step = s.build.step := rfl
@[simp] theorem refresh_ring (s : State) : (refresh s).ring = s.ring := rfl
@[simp] theorem setScrew_adv (v : Nat) (s : State) : (setScrew v s).adv = s.adv := rfl
@[simp] theorem setScrew_out (v : Nat) (s : State) : (setScrew v s).out = s.out := rfl
@[simp] theorem contribute_adv (f : Record → Record) (s : State) : (contribute f s).adv = s.adv := rfl
@[simp] theorem contribute_out (f : Record → Record) (s : State) : (contribute f s).out = s.out := rfl
@[simp] theorem countHold_adv (s : State) : (countHold s).adv = s.adv := rfl
@[simp] theorem countHold_out (s : State) : (countHold s).out = s.out := rfl

/-- A change of the advance's state: into an active state only in NORMAL or from an active state. -/
theorem inner_moveAdvance {new : AdvState} {s : State}
    (h : new.active = true → s.adv.state.active = true ∨ s.out.mode = .normal) :
    Inner s (moveAdvance new s) := by
  unfold moveAdvance
  dsimp only
  refine Inner.trans ?_ (inner_refresh _)
  -- the Advance Unit's new state and the screw's rest are one change
  have key : ∀ t : State, Inner s t → t.adv.state = s.adv.state → t.out.mode = s.out.mode →
      t.pres = s.pres →
      Inner s (if s.adv.state = .boring ∧ new ≠ .boring then
        pressureLeave (t.setAdv { t.adv with state := new }) else t.setAdv { t.adv with state := new }) := by
    intro t ht hst hm hp
    refine ht.trans ?_
    have hq : (setScrew 0 (t.setAdv { t.adv with state := new })).req.table.length ≤ Config.tableCap ∨
        ¬ t.req.table.length ≤ Config.tableCap := by
      by_cases hc : t.req.table.length ≤ Config.tableCap
      · exact .inl (screwRequests_length _ _ (by simpa using hc))
      · exact .inr hc
    split
    · rename_i hb
      refine ⟨⟨?_, ?_, ?_, ?_, ?_, ?_, ?_, ?_, ?_, ?_, ?_, ?_, ?_, ?_, ?_⟩, ⟨?_, ?_, ?_, ?_⟩⟩
      case refine_12 => intro hc; exact hq.resolve_right (by simpa using hc)
      case refine_17 =>
        intro hmn ha
        rw [hst, hb.1] at ha; simp [AdvState.active] at ha
      all_goals simp [pressureLeave, setScrew, writeScrew, screwAtRest]
    · rename_i hb
      refine ⟨⟨?_, ?_, ?_, ?_, ?_, ?_, ?_, ?_, ?_, ?_, ?_, ?_, ?_, ?_, ?_⟩, ⟨?_, ?_, ?_, ?_⟩⟩
      case refine_14 =>
        simp only [screwAtRest, State.setAdv_adv, State.setAdv_pres, hst]
        rintro (h1 | h1)
        · left; by_contra hc; exact hb ⟨h1, hc⟩
        · exact .inr h1
      case refine_17 =>
        simp only [State.setAdv_adv]
        intro hmn ha
        by_contra hc
        rcases h (by simpa using hc) with h1 | h1
        · rw [hst, h1] at ha; simp at ha
        · rw [hm] at hmn; exact hmn h1
      all_goals simp
  by_cases hh : new = .held ∧ s.adv.state ≠ .held
  · have e : (if new = .held ∧ s.adv.state ≠ .held then countHold (s.setAdv { s.adv with state := new })
        else s.setAdv { s.adv with state := new })
        = (countHold s).setAdv { (countHold s).adv with state := new } := by
      rw [if_pos hh]; rfl
    simp only [e]
    exact key _ (inner_contribute _ _) rfl rfl rfl
  · simp only [if_neg hh]
    exact key s (Inner.refl s) rfl rfl rfl

theorem inner_stopAdvance (s : State) : Inner s (stopAdvance s) := by
  unfold stopAdvance
  split
  · exact inner_moveAdvance (by simp [AdvState.active])
  · exact inner_moveAdvance (by simp [AdvState.active])
  · exact Inner.refl s
  · exact Inner.refl s

theorem inner_stopCutter (s : State) : Inner s (stopCutter s) := by
  unfold stopCutter
  split
  · exact Inner.refl s
  · exact ((inner_setAdv (v := { s.adv with cutter := .stopped }) rfl).trans
      (inner_stopAdvance _)).trans (inner_refresh _)

/-- The conditions of a move into BORING include the mode NORMAL (R14). -/
theorem mode_of_mayBore {s : State} (h : mayBore s = true) : s.out.mode = .normal := by
  unfold mayBore at h
  revert h
  cases s.out.mode <;> simp

theorem inner_tellPermit (l : Level) (s : State) : Inner s (tellPermit l s) := by
  unfold tellPermit
  dsimp only
  have h0 : Inner s (s.setAdv { s.adv with permitCopy := l }) := inner_setAdv rfl
  split
  · split
    · rename_i hc
      simp only [Bool.and_eq_true] at hc
      exact h0.trans (inner_moveAdvance fun _ => .inr (mode_of_mayBore hc.2))
    · exact h0.trans (inner_refresh _)
  · split
    · rename_i hc
      simp only [Bool.and_eq_true] at hc
      exact h0.trans (inner_moveAdvance fun _ => .inr (mode_of_mayBore hc.2))
    · exact h0.trans (inner_refresh _)
  · split
    · rename_i hc
      exact h0.trans (inner_moveAdvance fun _ => .inl (by rw [hc]; rfl))
    · exact h0.trans (inner_refresh _)
  · exact ((h0.trans (inner_stopAdvance _)).trans (inner_stopCutter _)).trans (inner_refresh _)

theorem inner_tellMuckLevel (l : Level) (s : State) : Inner s (tellMuckLevel l s) := by
  unfold tellMuckLevel
  dsimp only
  have h0 : Inner s (s.setPres { s.pres with muckTold := l }) := inner_setPres rfl
  split
  · rename_i hc
    exact h0.trans (inner_setScrew (.inr (.inr (le_of_lt hc))))
  · exact h0

theorem inner_writeEntry (src : Source) (l : Level) (c : RCause) (s : State) : Inner s (writeEntry src l c s) := by
  unfold writeEntry
  dsimp only
  have h0 : Inner s (s.setPermit (s.permit.write src l c s.ring.number s.adv.x)) :=
    inner_setPermit fun _ => permitDerived_write ..
  split <;> split
  · exact (h0.trans ((inner_tellPermit _ _).trans (inner_report _ _))).trans (inner_tellMuckLevel _ _)
  · exact h0.trans (inner_tellMuckLevel _ _)
  · exact h0.trans ((inner_tellPermit _ _).trans (inner_report _ _))
  · exact h0

theorem inner_writeLevel (src : Source) (lc : Level × RCause) (s : State) : Inner s (writeLevel src lc s) :=
  inner_writeEntry ..

theorem inner_handFault (f : FaultRec) (s : State) : Inner s (handFault f s) := by
  unfold handFault
  split
  · rename_i h
    refine Inner.trans (inner_setOut (by simp) ?_) (inner_report _ _)
    intro _; simp only [List.length_append, List.length_singleton]; omega
  · exact inner_writeEntry ..

theorem inner_applyInOrder : ∀ (fuel order : Nat) (fs : List (State → State)),
    (∀ f ∈ fs, ∀ s, Inner s (f s)) → ∀ s, Inner s (applyInOrder fuel order fs s) := by
  intro fuel order fs h s
  exact applyInOrder_keeps (fun t => Inner s t) fuel order fs (fun f hf t ht => ht.trans (h f hf t)) s
    (Inner.refl s)

theorem inner_tellAll {fs : List (State → State)} (h : ∀ f ∈ fs, ∀ s, Inner s (f s)) (s : State) :
    Inner s (tellAll fs s) :=
  (inner_setTick _ _).trans (inner_applyInOrder _ _ _ h _)

/-- A fold of operations that keep the laws keeps them. -/
theorem inner_foldl {α : Type} {f : State → α → State} (h : ∀ s a, Inner s (f s a)) :
    ∀ (l : List α) (s : State), Inner s (l.foldl f s)
  | [], s => Inner.refl s
  | a :: l, s => (h s a).trans (inner_foldl h l (f s a))

end Sys2Proof.Machine
end

