-- ==== Sys2Proof/Laws/Frames.lean ====
section
/-! SUPPORT. The frames of the shared operations: which units a write to the Restriction Table, with all it causes, can
reach, and what handing in a fault record does. -/

namespace Sys2Proof.Machine

/-! ## Frames -/

theorem AgreeBut.refl (ps : List Part) (s : State) : AgreeBut ps s s := fun p _ => by cases p <;> rfl

theorem AgreeBut.trans {ps : List Part} {s t u : State} (h : AgreeBut ps s t) (k : AgreeBut ps t u) :
    AgreeBut ps s u := fun p hp => by
  have h := h p hp
  have k := k p hp
  cases p <;> exact Eq.trans k h

theorem AgreeBut.mono {ps qs : List Part} {s t : State} (h : AgreeBut ps s t) (hq : ∀ p ∈ ps, p ∈ qs) :
    AgreeBut qs s t := fun p hp => h p fun hm => hp (hq p hm)

theorem agree_setLink {ps : List Part} (hp : .link ∈ ps) (v : Link) (s : State) : AgreeBut ps s (s.setLink v) := by
  intro p h; cases p <;> first | exact absurd hp h | rfl

theorem agree_setAdv {ps : List Part} (hp : .adv ∈ ps) (v : Advance) (s : State) : AgreeBut ps s (s.setAdv v) := by
  intro p h; cases p <;> first | exact absurd hp h | rfl

theorem agree_setPermit {ps : List Part} (hp : .permit ∈ ps) (v : Permit) (s : State) :
    AgreeBut ps s (s.setPermit v) := by
  intro p h; cases p <;> first | exact absurd hp h | rfl

theorem agree_setPres {ps : List Part} (hp : .pres ∈ ps) (v : Pressure) (s : State) :
    AgreeBut ps s (s.setPres v) := by
  intro p h; cases p <;> first | exact absurd hp h | rfl

theorem agree_setRing {ps : List Part} (hp : .ring ∈ ps) (v : Ring) (s : State) : AgreeBut ps s (s.setRing v) := by
  intro p h; cases p <;> first | exact absurd hp h | rfl

theorem agree_setReq {ps : List Part} (hp : .req ∈ ps) (v : Requests) (s : State) : AgreeBut ps s (s.setReq v) := by
  intro p h; cases p <;> first | exact absurd hp h | rfl

theorem agree_setBuild {ps : List Part} (hp : .build ∈ ps) (v : Build) (s : State) :
    AgreeBut ps s (s.setBuild v) := by
  intro p h; cases p <;> first | exact absurd hp h | rfl

theorem agree_setOut {ps : List Part} (hp : .out ∈ ps) (v : Output) (s : State) : AgreeBut ps s (s.setOut v) := by
  intro p h; cases p <;> first | exact absurd hp h | rfl

/-- The units a change of the advance reaches. -/
def advanceReach : List Part := [.adv, .pres, .ring, .build, .req]

theorem agree_refresh (s : State) : AgreeBut [.build, .req] s (refresh s) :=
  (agree_setReq (by simp) _ s).trans (agree_setBuild (by simp) _ _)

theorem agree_setScrew (v : Nat) (s : State) : AgreeBut [.pres, .req] s (setScrew v s) :=
  (agree_setPres (by simp) _ s).trans (agree_setReq (by simp) _ _)

theorem agree_moveAdvance (new : AdvState) (s : State) : AgreeBut advanceReach s (moveAdvance new s) := by
  have ha : AgreeBut advanceReach s (s.setAdv { s.adv with state := new }) := agree_setAdv (by simp [advanceReach]) _ _
  have hr : ∀ u, AgreeBut advanceReach u (refresh u) := fun u => (agree_refresh u).mono (by simp [advanceReach])
  have hc : ∀ u, AgreeBut advanceReach u (countHold u) := fun u => agree_setRing (by simp [advanceReach]) _ _
  have hl : ∀ u, AgreeBut advanceReach u (pressureLeave u) := fun u =>
    (agree_setScrew 0 u).mono (by simp [advanceReach])
  unfold moveAdvance
  dsimp only
  split <;> split
  · exact ha.trans ((hc _).trans ((hl _).trans (hr _)))
  · exact ha.trans ((hl _).trans (hr _))
  · exact ha.trans ((hc _).trans (hr _))
  · exact ha.trans (hr _)

theorem agree_stopAdvance (s : State) : AgreeBut advanceReach s (stopAdvance s) := by
  unfold stopAdvance
  split <;> first | exact agree_moveAdvance _ _ | exact AgreeBut.refl _ _

theorem agree_stopCutter (s : State) : AgreeBut advanceReach s (stopCutter s) := by
  unfold stopCutter
  split
  · exact AgreeBut.refl _ _
  · exact ((agree_setAdv (by simp [advanceReach]) _ s).trans (agree_stopAdvance _)).trans
      ((agree_refresh _).mono (by simp [advanceReach]))

/-- The telling of a changed permit reaches the advance, the screw, the record, the groups and the requests (R17). -/
theorem agree_tellPermit (l : Level) (s : State) : AgreeBut advanceReach s (tellPermit l s) := by
  have hr : ∀ u, AgreeBut advanceReach u (refresh u) := fun u => (agree_refresh u).mono (by simp [advanceReach])
  have ha : AgreeBut advanceReach s (s.setAdv { s.adv with permitCopy := l }) :=
    agree_setAdv (by simp [advanceReach]) _ _
  unfold tellPermit
  refine ha.trans ?_
  cases l <;> dsimp only
  · split <;> first | exact agree_moveAdvance _ _ | exact hr _
  · split <;> first | exact agree_moveAdvance _ _ | exact hr _
  · split <;> first | exact agree_moveAdvance _ _ | exact hr _
  · exact ((agree_stopAdvance _).trans (agree_stopCutter _)).trans (hr _)

theorem agree_tellMuckLevel (l : Level) (s : State) : AgreeBut [.pres, .req] s (tellMuckLevel l s) := by
  have hp : AgreeBut [.pres, .req] s (s.setPres { s.pres with muckTold := l }) := agree_setPres (by simp) _ s
  unfold tellMuckLevel
  dsimp only
  split
  · exact hp.trans (agree_setScrew _ _)
  · exact hp

/-- A write to the Restriction Table reaches no unit but those of permitReach and the Report Queue (R28, R30, R31,
R35). -/
theorem agree_writeEntry (src : Source) (l : Level) (c : RCause) (s : State) :
    AgreeBut (.link :: permitReach) s (writeEntry src l c s) := by
  have ht : ∀ l' u, AgreeBut (.link :: permitReach) u (tellPermit l' u) := fun l' u =>
    (agree_tellPermit l' u).mono (by simp [advanceReach, permitReach])
  have hm : ∀ l' u, AgreeBut (.link :: permitReach) u (tellMuckLevel l' u) := fun l' u =>
    (agree_tellMuckLevel l' u).mono (by simp [permitReach])
  have hr : ∀ r u, AgreeBut (.link :: permitReach) u (report r u) := fun r u => agree_setLink (by simp) _ _
  have hp : AgreeBut (.link :: permitReach) s
      (s.setPermit (s.permit.write src l c s.ring.number s.adv.x)) := agree_setPermit (by simp [permitReach]) _ _
  unfold writeEntry
  dsimp only
  split <;> split
  · exact hp.trans ((ht _ _).trans ((hr _ _).trans (hm _ _)))
  · exact hp.trans (hm _ _)
  · exact hp.trans ((ht _ _).trans (hr _ _))
  · exact hp

/-! ## Handing in a fault record -/

theorem tellPermit_permit (l : Level) (s : State) : (tellPermit l s).permit = s.permit :=
  agree_tellPermit l s .permit (by simp [advanceReach])

theorem tellMuckLevel_permit (l : Level) (s : State) : (tellMuckLevel l s).permit = s.permit :=
  agree_tellMuckLevel l s .permit (by simp)

/-- The permit after a write to the Restriction Table: the write's own, whatever the tellings do (R28, R29). -/
theorem writeEntry_permit (src : Source) (l : Level) (c : RCause) (s : State) :
    (writeEntry src l c s).permit = s.permit.write src l c s.ring.number s.adv.x := by
  unfold writeEntry
  dsimp only
  split <;> split <;> simp [tellPermit_permit, tellMuckLevel_permit, report]

/-- The written entry has the level and the cause written (R28). -/
theorem write_get (e : REntry) (l : Level) (c : RCause) (ring x : Nat) :
    (e.write l c ring x).level = l ∧ (e.write l c ring x).cause = c := by
  unfold REntry.write
  split <;> exact ⟨rfl, rfl⟩

theorem writeEntry_level (src : Source) (l : Level) (c : RCause) (s : State) :
    ((writeEntry src l c s).permit.table.get src.idx).level = l := by
  rw [writeEntry_permit]
  simp [Permit.write, write_get]

theorem reported_report (r : Report) (s : State) : Reported r (report r s) := by
  unfold Reported report Link.queueReport
  split <;> simp

/-- What handing in a fault record does (R174). -/
theorem handFault_added (f : FaultRec) (s : State) :
    FaultAdded f s (handFault f s) ∧ AgreeBut (.out :: .link :: permitReach) s (handFault f s) := by
  unfold handFault
  split
  · rename_i h
    have h8 : s.out.faults.length < 8 := h
    refine ⟨⟨fun _ => rfl, fun _ => reported_report _ _, fun h' => absurd h8 (by omega)⟩, ?_⟩
    exact (agree_setOut (by simp) _ s).trans (agree_setLink (by simp) _ _)
  · rename_i h
    have h8 : ¬ s.out.faults.length < 8 := h
    refine ⟨⟨fun h' => absurd h' h8, fun h' => absurd h' h8, fun _ => ⟨?_, writeEntry_level _ _ _ _⟩⟩, ?_⟩
    · have ho : (writeEntry .faultBacklog .hold .listFull s).out = s.out :=
        agree_writeEntry .faultBacklog .hold .listFull s .out (by simp [permitReach])
      rw [ho]
    · exact (agree_writeEntry _ _ _ s).mono (by simp [permitReach])

end Sys2Proof.Machine
end

