-- ==== Sys2Proof/Tests/Slice0.lean ====
section
/-! SUPPORT. The model's own tests: the ill-formed commands that are refused, frames and check words written out from the
spec, one step of a command on a small state, and for every statement with hypotheses a state and operands that meet
them. -/

namespace Sys2Proof.Tests

open Sys2Proof Sys2Proof.Machine

-- One theorem at a time: the kernel evaluates each, and a thread for each would fill the memory.
set_option Elab.async false

/-! ## Small states -/

/-- A port READY with a station of its class and 16 points. -/
def up (p : PortNo) (s : State) : State :=
  s.setPorts (put s.ports p { s.ports.get p with
    state := .ready, supply := true
    identity := some ⟨Config.portClass p, 1, 16, (Config.channels (Config.portClass p)).getD 0⟩ })

/-- A port in a state, with nothing else changed. -/
def portIn (p : PortNo) (st : PortState) (s : State) : State :=
  s.setPorts (put s.ports p { s.ports.get p with state := st })

/-- A port with its strap lines at the levels given. -/
def strapped (p : PortNo) (w : Straps) (s : State) : State :=
  s.setPorts (put s.ports p { s.ports.get p with straps := w })

/-- A line changed. -/
def lineIs (i : LineNo) (f : Line → Line) (s : State) : State := setLine i (f (s.line i)) s

/-- The geometry of the worked examples. -/
def geometry : Geometry := ⟨300000, 15000, 12000, 500, 20000⟩

/-- A configured part. -/
def ready : State := State.reset.setAdv { State.reset.adv with geometry := geometry }

/-- A ring in the given state, number 1, key slot 0, with n pieces placed. -/
def ringIn (st : RingState) (n : Nat) (s : State) : State :=
  s.setRing { s.ring with
    state := st, plan := buildPlan 0
    current := some { Record.opened 1 0 with
      placed := (List.finRange 8).take n |>.map fun k => ⟨k, .a, 100 + k.val⟩ } }

/-- The advance in the given state, with the cutter turning and the permit CLEAR. -/
def advIn (st : AdvState) (s : State) : State :=
  s.setAdv { s.adv with state := st, cutter := .turning 100, permitCopy := .clear }

/-- The output mode, with its cause. -/
def modeIn (m : OutMode) (c : OutCause) (s : State) : State := s.setOut { s.out with mode := m, cause := c }

/-- A boring machine. -/
def boring : State := advIn .boring (ringIn .boring 0 ready)

/-- A ring being built, with a piece of the plan's kind at the head of the queue and the stations it needs. -/
def building : State :=
  let s := up 14 (up 15 (up 10 (up 1 (up 0 (ringIn .building 0 ready)))))
  s.setRing { s.ring with queue := [⟨.a, 7⟩] }

/-- A step on sector 4 in the given state. -/
def stepIs (st : StepState) (a : StepAction) : Step :=
  { state := st, direction := .forward, sector := 4, position := 0, kind := .a, serial := 7, startedBy := .host
    action := a, faultedPhase := none, backoutState := none, cause := none, timer := some 30000 }

/-- The step in a building ring. -/
def stepping (st : Step) : State := setStep (some st) building

/-- The step faulted in a phase. -/
def faulted (ph : FaultedPhase) : State :=
  stepping { stepIs .stepFault .none with
    faultedPhase := some ph, backoutState := some .returning, cause := some .timeout, timer := none }

/-- The held slot occupied. -/
def holding (f : HostFrame) (s : State) : State := s.setLink { s.link with held := some f }

/-- The Reply List full. -/
def replyFull (s : State) : State :=
  s.setLink { s.link with replies := List.replicate 4 ⟨0, 0x50, .ok, []⟩ }

/-- The host's READ of points 0 and 1 on port 12, in flight. -/
def reading (attempts : Nat) (noAnswer : Nat) : State :=
  let s := up 12 State.reset
  let s := s.setPorts (put s.ports 12 { s.ports.get 12 with noAnswer := noAnswer })
  s.setReq { s.req with table := [⟨.host, some 9, 12, .read [0, 1], .inFlight 5, attempts, 1⟩] }

/-- A fault record. -/
def aFault : FaultRec := ⟨.lineFault, .grout, none, some 7, some 0, .overpressure 9000, 0, 0⟩

/-- The grant as given. -/
def setBuildGrant (g : Grant) (s : State) : State := s.setBuild { s.build with grant := g }

/-- n fault records. -/
def faultsAre (n : Nat) : State := State.reset.setOut { State.reset.out with faults := List.replicate n aFault }

/-- The state one command leads to. -/
def ran (i : Instr) (s : State) : State :=
  match exec i s with
  | .next t => t
  | .fault _ | .refused _ => s

/-! ## Ill-formed commands -/

theorem test_wellFormed_accepts :
    wellFormed (.advanceStart 0 65535) = true ∧ wellFormed (.stationWrite 0 255 [(255, 65535)]) = true
      ∧ wellFormed .tableFill = true := by decide

theorem test_wellFormed_advance :
    wellFormed (.advanceStart 0 65536) = false ∧ wellFormed (.cutterSet 0 65536) = false
      ∧ wellFormed (.setGeometry 0 4294967296 0 0 0 0) = false ∧ wellFormed (.setGeometry 0 0 65536 0 0 0) = false
      ∧ wellFormed (.setGeometry 0 0 0 65536 0 0) = false ∧ wellFormed (.setGeometry 0 0 0 0 65536 0) = false
      ∧ wellFormed (.setGeometry 0 0 0 0 0 65536) = false ∧ wellFormed (.setGround 0 65536 0 0) = false
      ∧ wellFormed (.setGround 0 0 65536 0) = false ∧ wellFormed (.setGround 0 0 0 65536) = false
      ∧ wellFormed (.setLimits 0 65536 0) = false ∧ wellFormed (.setLimits 0 0 65536) = false := by decide

theorem test_wellFormed_pressure_balance :
    wellFormed (.setPressure 0 65536 0 0 0 0 0 0 0) = false ∧ wellFormed (.setPressure 0 0 65536 0 0 0 0 0 0) = false
      ∧ wellFormed (.setPressure 0 0 0 65536 0 0 0 0 0) = false ∧ wellFormed (.setPressure 0 0 0 0 65536 0 0 0 0) = false
      ∧ wellFormed (.setPressure 0 0 0 0 0 256 0 0 0) = false ∧ wellFormed (.setPressure 0 0 0 0 0 0 256 0 0) = false
      ∧ wellFormed (.setPressure 0 0 0 0 0 0 0 256 0) = false ∧ wellFormed (.setPressure 0 0 0 0 0 0 0 0 65536) = false
      ∧ wellFormed (.setBalance 0 65536 0) = false ∧ wellFormed (.setBalance 0 0 65536) = false := by decide

theorem test_wellFormed_lines :
    wellFormed (.lineRun 0 256 0) = false ∧ wellFormed (.lineRun 0 0 256) = false ∧ wellFormed (.linePrime 0 256) = false
      ∧ wellFormed (.lineStop 0 256) = false ∧ wellFormed (.lineClear 0 256) = false
      ∧ wellFormed (.setLine 0 256 0 0 0 0 0 0 0) = false ∧ wellFormed (.setLine 0 0 256 0 0 0 0 0 0) = false
      ∧ wellFormed (.setLine 0 0 0 65536 0 0 0 0 0) = false ∧ wellFormed (.setLine 0 0 0 0 65536 0 0 0 0) = false
      ∧ wellFormed (.setLine 0 0 0 0 0 4294967296 0 0 0) = false ∧ wellFormed (.setLine 0 0 0 0 0 0 65536 0 0) = false
      ∧ wellFormed (.setLine 0 0 0 0 0 0 0 65536 0) = false
      ∧ wellFormed (.setLine 0 0 0 0 0 0 0 0 65536) = false := by decide

theorem test_wellFormed_ring_ports :
    wellFormed (.ringOpen 0 65536 0) = false ∧ wellFormed (.ringOpen 0 0 256) = false
      ∧ wellFormed (.getRing 0 65536) = false ∧ wellFormed (.portBypass 0 256) = false
      ∧ wellFormed (.portRestore 0 256) = false ∧ wellFormed (.stationRead 0 256 []) = false
      ∧ wellFormed (.stationRead 0 0 [256]) = false ∧ wellFormed (.stationRead 0 0 (List.replicate 249 0)) = false
      ∧ wellFormed (.stationWrite 0 256 []) = false ∧ wellFormed (.stationWrite 0 0 [(256, 0)]) = false
      ∧ wellFormed (.stationWrite 0 0 [(0, 65536)]) = false
      ∧ wellFormed (.stationWrite 0 0 (List.replicate 83 (0, 0))) = false
      ∧ wellFormed (.sampleOutputs 0 256) = false ∧ wellFormed (.setSafe 0 256 []) = false
      ∧ wellFormed (.setSafe 0 0 [(256, 0)]) = false := by decide +kernel

theorem test_wellFormed_stations :
    wellFormed (.sampleFrame 0 (List.replicate 251 0)) = false
      ∧ wellFormed (.answerFrame 0 0 (List.replicate 251 0)) = false ∧ wellFormed (.retryWaitExpiry 32) = false
      ∧ wellFormed (.strokeDone 7 0 256 0 0) = false ∧ wellFormed (.strokeDone 7 0 0 65536 0) = false
      ∧ wellFormed (.strokeDone 7 0 0 0 65536) = false ∧ wellFormed (.retracted 0 0 256) = false
      ∧ wellFormed (.placed 10 0 4294967296) = false ∧ wellFormed (.holding 0 0 256) = false
      ∧ wellFormed (.pieceArrived 11 0 256 1) = false
      ∧ wellFormed (.pieceArrived 11 0 0 4294967296) = false := by decide +kernel

/-! ## Words written out from the spec -/

/-- The check word of the digits 1 to 9, for polynomial 0x1021 and initial value 0xFFFF (R178). -/
theorem test_crc_check_word :
    crc16 [0x31, 0x32, 0x33, 0x34, 0x35, 0x36, 0x37, 0x38, 0x39] = 0x29B1#16 := by decide +kernel

/-- ADVANCE_START of 60 mm/min: code 0x10 and a field of two bytes (R178, R180). -/
theorem test_parse_advanceStart : hostParse 0x10 [0x00, 0x3C] = .command (.advanceStart 60) := by decide

theorem test_parse_setLine :
    hostParse 0x24 [5, 50, 0x13, 0x88, 0x1F, 0x40, 0, 0, 0x3A, 0x98, 0, 20, 0, 60, 0, 5]
      = .command (.setLine 5 50 5000 8000 15000 20 60 5) := by decide

theorem test_parse_setPressure :
    hostParse 0x18 [0x07, 0xD0, 0, 200, 0x01, 0xF4, 0, 32, 5, 10, 150, 0x02, 0xBC]
      = .command (.setPressure ⟨2000, 200, 500, 32, 5, 10, 150, 700⟩) := by decide

/-- STATION_WRITE to port 12 of point 3 := 258: count byte, then three bytes a pair (R149, R180). -/
theorem test_parse_stationWrite :
    hostParse 0x41 [12, 1, 3, 0x01, 0x02] = .command (.stationWrite 12 [(3, 258)])
      ∧ hostParse 0x41 [12, 2, 3, 0x01, 0x02] = .badLength ∧ hostParse 0x40 [12] = .badLength := by decide

theorem test_parse_refused :
    hostParse 0x16 [] = .unknown ∧ hostParse 0x10 [0] = .badLength ∧ hostParse 0x51 [0] = .badLength := by decide

/-- A stroke of line 1, 5,000 cm³, as the pump on port 7 is asked for it (R78, R163). -/
theorem test_request_stroke :
    (requestFrame 9 (.action (.stroke 1 5000))).take 9 = [0x5A, 5, 0x01, 9, 0x03, 0x02, 1, 0x13, 0x88] := by decide

theorem test_request_place :
    (ReqKind.action (.place 258 4)).bytes = [0x03, 0x04, 0, 0, 1, 2, 4]
      ∧ (ReqKind.write [(1, 1), (2, 0)]).bytes = [0x02, 2, 1, 0, 1, 2, 0, 0] := by decide

theorem test_event_bodies :
    eventBody [0x05, 1, 0x13, 0x88, 0x0F, 0xA0] = .event (.strokeDone 1 5000 4000)
      ∧ eventBody [0x06, 2, 0, 0, 0, 9] = .event (.pieceArrived 2 9) ∧ eventBody [0x0C] = .unknownKind
      ∧ eventBody [] = .unknownKind ∧ eventBody [0x04, 0] = .misfit .erector := by decide

theorem test_answer_bodies :
    answerBody [0, 7] = .done [7] ∧ answerBody [1, 4] = .refused 4 ∧ answerBody [2] = .busy
      ∧ answerBody [3] = .misfit ∧ answerBody [2, 0] = .misfit := by decide

theorem test_sample_body :
    sampleReadings 2 [2, 0, 100, 1, 1, 0, 0] = some [⟨100, true⟩, ⟨256, false⟩]
      ∧ sampleReadings 2 [2, 0, 100, 1] = none := by decide

theorem test_no_row_has_bits : decodeTableWord 8 0x10 = none := by decide

/-! ## One step -/

theorem test_step_front :
    step (State.reset.setPending [.advanceStop 3, .clamp 4])
      = .next ((withReply 3 0x11 .already [] State.reset).setPending [.clamp 4]) := by rfl

theorem test_advanceStart :
    (ran (.advanceStart 3 200) (advIn .idle (ringIn .boring 0 ready))).adv.state = .boring
      ∧ (ran (.advanceStart 3 200) (advIn .idle (ringIn .boring 0 ready))).adv.rReq = 120 := by decide +kernel

theorem test_advanceStart_writes_the_rate :
    ((ran (.advanceStart 3 60) (advIn .idle (ringIn .boring 0 ready))).req.point 1 0).commanded = some 60
      ∧ ((ran (.advanceStart 3 60) (advIn .idle (ringIn .boring 0 ready))).req.point 1 8).commanded = some 1 := by
  decide +kernel

theorem test_cutterSet :
    (ran (.cutterSet 3 20) State.reset).adv.cutter = .turning 50
      ∧ ((ran (.cutterSet 3 20) State.reset).req.point 4 0).state = .dirty := by decide +kernel

theorem test_lineRun :
    ((ran (.lineRun 3 0 2) (up 7 State.reset)).line 0).state = .pulseDeliver
      ∧ ((ran (.lineRun 3 0 2) (up 7 State.reset)).req.table.map (·.kind)) = [.action (.stroke 0 5000)] := by
  decide +kernel

theorem test_setLine_default_lag :
    ((ran (.setLine 3 0 50 1000 8000 0 20 60 5) State.reset).line 0).lag = 3000 := by decide +kernel

theorem test_demand :
    let s := lineIs 1 (fun l => { l with mode := .track, state := .tracking, weight := 60 })
      (lineIs 0 (fun l => { l with mode := .track, state := .tracking, weight := 40 }) State.reset)
    ((takeDemand 101 s).line 0).backlog = 40 ∧ ((takeDemand 101 s).line 0).rem = 40
      ∧ ((takeDemand 101 s).line 1).backlog = 60 ∧ ((takeDemand 101 s).line 1).rem = 60 := by decide +kernel

theorem test_screwLaw :
    screwLaw ⟨2000, 200, 500, 32, 5, 10, 150, 700⟩ .clear 2100 0 = 10
      ∧ screwLaw ⟨2000, 200, 500, 32, 5, 10, 150, 700⟩ .reduced 2100 103 = 105
      ∧ screwLaw ⟨2000, 200, 500, 32, 5, 10, 150, 700⟩ .clear 1990 80 = 79 := by decide

theorem test_belt :
    ((Muck.reset.weigh 10 500).e, (muckLevel 2000 2000), (muckLevel 2001 1000), (muckLevel 2000 (-2000)))
      = (500, (.hold, .over), (.reduced, .overWarn), (.reduced, .under)) := by decide

theorem test_placeNext :
    (ran (.placeNext 3) building).build.step.map (·.state) = some .retracting
      ∧ (ran (.placeNext 3) building).build.owners.get 4 = .build
      ∧ (ran (.placeNext 3) building).req.table.map (·.kind) = [.action (.retract 4)] := by decide +kernel

theorem test_placed_moves_the_piece :
    (ran (.placed 10 2 7) (stepping (stepIs .placing .accepted))).ring.queue = []
      ∧ ((ran (.placed 10 2 7) (stepping (stepIs .placing .accepted))).ring.current.map (·.placed))
        = some [⟨4, .a, 7⟩] := by decide +kernel

theorem test_dispatch :
    ((ran (.requestDispatch 12) (ran (.stationRead 9 12 [0, 1]) (up 12 State.reset))).fieldLine.map fun f => f.2.take 8)
      = [[0x5A, 4, 0x01, 1, 0x01, 2, 0, 1]] := by decide +kernel

theorem test_answer_done :
    (ran (.answerFrame 12 5 [0, 2, 0, 7, 0, 8]) (reading 1 1)).req.table = []
      ∧ ((ran (.answerFrame 12 5 [0, 2, 0, 7, 0, 8]) (reading 1 1)).ports.get 12).noAnswer = 0
      ∧ (ran (.answerFrame 12 5 [0, 2, 0, 7, 0, 8]) (reading 1 1)).link.reports
        = [.requestDone 9 1 12 (.read [0, 1]) (.done [7, 8]) 1] := by decide +kernel

theorem test_pieceArrived :
    (ran (.pieceArrived 11 1 2 5) (up 11 State.reset)).ring.queue = [⟨.k, 5⟩]
      ∧ (ran (.pieceArrived 11 1 3 5) (up 11 State.reset)).ring.queue = [] := by decide +kernel

theorem test_hostFrameSent :
    (ran .hostFrameSent (withReply 3 0x11 .already [] State.reset)).hostLine
      = [frameBytes 0xA5 0x01 3 [0x11, 0x07, 0, 1]] := by decide +kernel

theorem test_restrictionWrite :
    (writeEntry .output .stop .host State.reset).permit.level = .stop
      ∧ (writeEntry .output .stop .host State.reset).permit.deciding = .output
      ∧ ((writeEntry .output .stop .host State.reset).permit.table.get 7).raises = 1 := by decide +kernel

/-! ## The hypotheses of the statements are met -/

theorem test_hyps_HostByteRule :
    State.reset.link.rx = .hunt
      ∧ (setRx (.frame [2]) State.reset).link.rx = .frame [2] ∧ 5000 < 5001 ∧ 5000 ≤ 5000
      ∧ (setRx (.frame []) State.reset).link.rx = .frame []
      ∧ ([] : List Byte).length < (0 : Byte).toNat + 3
      ∧ (setRx (.frame [0, 0x11, 7, 9]) State.reset).link.rx = .frame (0 :: 0x11 :: 7 :: ([] ++ [9]))
      ∧ ([] : List Byte).length = (0 : Byte).toNat := by decide

theorem test_hyps_HostFramesSpellTheirCommands :
    wellFormed (.advanceStart 7 65535) = true ∧ hostRow (.advanceStart 7 65535) = some (7, .advanceStart 65535)
      ∧ wellFormed (.stationRead 0 0 (List.replicate 248 255)) = true ∧ State.reset.link.rx = .hunt := by
  decide +kernel

theorem test_hyps_HostCommandPassage :
    hostRow (.clamp 4) = some (4, .clamp) ∧ handsOn State.reset
      ∧ ((replyFull State.reset).link.held = none ∧ ¬ (replyFull State.reset).link.replies.length < 4)
      ∧ (holding ⟨0x48, 1, []⟩ State.reset).link.held = some ⟨0x48, 1, []⟩
      ∧ (holding ⟨0x48, 1, []⟩ State.reset).link.replies.length < 4 ∧ hostParse 0x48 [] = .command .clamp
      ∧ hostParse 0x16 [] = .unknown ∧ hostParse 0x48 [0] = .badLength := by decide

theorem test_hyps_EveryCommandIsAnsweredOnce :
    (hostRow (.getStatus 4) = some (4, .getStatus) ∧ handsOn State.reset)
      ∧ ((takeCommand 4 .unclamp State.reset).2.1 ≠ .ok ∧ (takeCommand 4 .unclamp State.reset).2.1 ≠ .okClamped)
      ∧ (takeCommand 4 .ringClose State.reset).2.1 = .wrongState := by decide +kernel

theorem test_hyps_ReportsAreQueuedAndSent :
    (withReply 3 0x11 .already [] State.reset).link.replies = ⟨3, 0x11, .already, []⟩ :: []
      ∧ (report (.fault aFault 1) State.reset).link.replies = []
      ∧ (report (.fault aFault 1) State.reset).link.reports = .fault aFault 1 :: []
      ∧ State.reset.link.reports = [] := by decide

theorem test_hyps_handsOn : handsOn State.reset ∧ ([0] : List Byte) ≠ [] := by decide

theorem test_hyps_RestrictionWriteRule :
    (writeEntry .output .stop .host State.reset).permit.level ≠ State.reset.permit.level
      ∧ (writeEntry .torque .reduced .warn State.reset).permit.level = State.reset.permit.level
      ∧ (State.reset.permit.table.get Source.muck.idx).level ≠ Level.hold := by decide +kernel

theorem test_hyps_AdvanceStateRule :
    boring.adv.state = .boring ∧ boring.ring.current = some (Record.opened 1 0)
      ∧ (advIn .held boring).adv.state = .held ∧ mayBore (advIn .held boring) = true
      ∧ (advIn .strokeComplete boring).adv.state = .strokeComplete ∧ boring.out.mode = .normal := by decide +kernel

theorem test_hyps_SetpointsFollowTheAdvance :
    State.reset.out.mode = .normal ∧ (modeIn .clamped .host State.reset).out.mode ≠ .normal
      ∧ Config.pointOwner 5 0 ≠ .advance ∧ (setOwner 4 .build State.reset).build.owners.get (sectorOf 8) = .build := by
  decide +kernel

theorem test_hyps_AdvanceStartRule :
    (handsOn boring ∧ boring.adv.state ≠ .strokeComplete ∧ boring.ring.state = .boring ∧ boring.out.mode = .normal
        ∧ boring.adv.cutter ≠ .stopped ∧ boring.adv.permitCopy ≠ .stop)
      ∧ (advIn .strokeComplete boring).adv.state = .strokeComplete
      ∧ (State.reset.adv.state ≠ .strokeComplete ∧ State.reset.ring.state ≠ .boring)
      ∧ ((modeIn .clamped .host boring).ring.state = .boring ∧ (modeIn .clamped .host boring).out.mode ≠ .normal)
      ∧ ((ringIn .boring 0 ready).ring.state = .boring ∧ (ringIn .boring 0 ready).out.mode = .normal
        ∧ (ringIn .boring 0 ready).adv.cutter = .stopped)
      ∧ (boring.setAdv { boring.adv with permitCopy := .stop }).adv.permitCopy = .stop := by decide +kernel

theorem test_hyps_AdvanceStopRule :
    boring.adv.state = .boring ∧ (advIn .held boring).adv.state = .held ∧ State.reset.adv.state = .idle
      ∧ (advIn .strokeComplete boring).adv.state = .strokeComplete ∧ advanceUnmet boring = none := by decide +kernel

theorem test_hyps_CutterSetRule :
    (ringIn .building 0 ready).ring.state = .building ∧ (modeIn .clamped .host State.reset).out.mode ≠ .normal
      ∧ (State.reset.ring.state ≠ .building ∧ State.reset.out.mode = .normal ∧ (50 : Nat) ≠ 0)
      ∧ boring.adv.cutter ≠ .stopped ∧ State.reset.adv.cutter = .stopped := by decide +kernel

theorem test_hyps_ConfigurationIsSet :
    boring.ring.state ≠ .none ∧ State.reset.ring.state = .none
      ∧ (100 ≤ 100 ∧ 100 ≤ 900 ∧ 500 ≤ 990 ∧ 990 ≤ 990) ∧ ¬ (100 ≤ 99)
      ∧ handsOn State.reset ∧ ([0] : List Byte).length ≠ 4 := by decide +kernel

/-- A boring machine with four valid readings at the mean given, its mark at 100. -/
def measured (m : Nat) : State :=
  boring.setAdv { boring.adv with readings := Vector.replicate 4 ⟨m, true⟩, m := m, a := 100 }

theorem test_hyps_StrokeSampleRule :
    (State.reset.ring.state ≠ .boring ∧ (measured 100).adv.m ≤ (measured 100).adv.a)
      ∧ ((measured 601).ring.state = .boring ∧ (measured 601).adv.state.active = true ∧ 2 ≤ (measured 601).adv.validCount
        ∧ (measured 601).adv.a + 500 < (measured 601).adv.m)
      ∧ ((measured 600).adv.a < (measured 600).adv.m ∧ (measured 600).adv.m ≤ (measured 600).adv.a + 500)
      ∧ (boring.adv.x < 12000 + 500 ∧ boring.ring.current = some (Record.opened 1 0)
        ∧ boring.adv.geometry.width + boring.adv.geometry.clearance = 12500) := by
  decide +kernel

/-- A good chamber sample on a boring machine whose other restrictions are clear. -/
def clearTable : State :=
  boring.setPermit ⟨Vector.replicate 8 ⟨.clear, .none, 0, 0, 0⟩, .clear, .chamber⟩

theorem test_hyps_ChamberSampleRule :
    (1 ≤ 2 ∧ 2 ≤ 3) ∧ (⟨9, false⟩ : Reading).valid = false
      ∧ ([⟨2000, true⟩, ⟨2010, true⟩, ⟨1990, true⟩, ⟨0, false⟩, ⟨0, false⟩] : List Reading).length = 5
      ∧ (writeEntry .chamber .clear .none clearTable).adv.state = .boring
      ∧ (writeEntry .chamber .hold .blind clearTable).adv.state ≠ .boring
      ∧ boring.pres.held = true ∧ (boring.setPres { boring.pres with held := false }).pres.held = false
      ∧ boring.ring.state = .boring ∧ boring.adv.state.active = true := by decide +kernel

theorem test_hyps_ScrewLawRule :
    (Level.hold ≠ .clear ∧ screwCeil ⟨2000, 200, 500, 32, 5, 10, 150, 700⟩ .hold = 105)
      ∧ ((10 : Nat) ≤ screwCeil ⟨2000, 200, 500, 32, 5, 10, 150, 700⟩ .clear) ∧ (2000 : Nat) ≤ 2000
      ∧ screwCeil ⟨2000, 200, 500, 32, 5, 100, 50, 300⟩ .hold < 100 := by decide

theorem test_hyps_DerivedEntriesRule :
    let all := up 5 (up 4 (up 3 (up 2 (up 1 (up 0 State.reset)))))
    (∀ p : PortNo, p.val ≤ 5 → (all.ports.get p).state = .ready)
      ∧ ((portIn 3 .stale all).ports.get 3).state ≠ .ready
      ∧ (∀ q : Fin 6, q < 3 → ((portIn 3 .stale all).ports.get (Fin.castLE (by decide) q)).state = .ready) := by
  decide +kernel

theorem test_hyps_BeltSampleRule :
    boring.ring.state ≠ .none ∧ (0 : Int) < (boring.muck.weigh 0 1000).e
      ∧ (boring.muck.weigh 0 1000).vApplied
        < min (1000 * 1000000 / boring.adv.ground.rho) (15000 * (12000 + 500) * 200 / 100000)
      ∧ State.reset.ring.state = .none := by decide +kernel

theorem test_hyps_DemandIsShared :
    trackWeight State.reset.lines = 0 ∧ boring.ring.current = some (Record.opened 1 0)
      ∧ (Record.opened 1 0).unmet ≤ 4294967295
      ∧ 0 < trackWeight (lineIs 0 (fun l => { l with mode := .track, weight := 1 }) State.reset).lines := by
  decide +kernel

theorem test_hyps_StrokeRequestRule :
    ((up 7 State.reset).portUp (pumpPort 0) = true ∧ (up 7 State.reset).req.table.length < 32
        ∧ (up 7 State.reset).out.mode = .normal)
      ∧ ¬ ((modeIn .clamped .host (up 7 State.reset)).req.table.length < 32
        ∧ (modeIn .clamped .host (up 7 State.reset)).out.mode = .normal)
      ∧ ((lineIs 0 (fun l => { l with phase := .requested 4, state := .tracking }) State.reset).line 0).phase
        = .requested 4
      ∧ (State.reset.line 0).phase ≠ .requested 4 ∧ State.reset.portUp (pumpPort 0) = false
      ∧ LineState.tracking.running = true
      ∧ ((lineIs 0 (fun l => { l with phase := .requested 4 }) State.reset).line 0).state.running = false := by
  decide +kernel

theorem test_hyps_LinesStart :
    let s := up 7 State.reset
    (s.out.mode = .normal ∧ (s.line 0).state = .stopped ∧ s.portUp (pumpPort 0) = true ∧ (s.line 0).phase = .none
        ∧ (s.line 0).timings.tW ≠ 0 ∧ (s.line 0).backlog < (s.line 0).vs)
      ∧ ((lineIs 0 (fun l => { l with backlog := 5000 }) s).line 0).vs
        ≤ ((lineIs 0 (fun l => { l with backlog := 5000 }) s).line 0).backlog
      ∧ ((lineIs 0 (fun l => { l with timings := ⟨20, 60, 0⟩ }) s).line 0).timings.tW = 0
      ∧ ((lineIs 0 (fun l => { l with phase := .overdue }) s).line 0).phase ≠ .none
      ∧ (modeIn .clamped .host s).out.mode ≠ .normal := by decide +kernel

/-- A line in each state a start is refused in, a stopped line on a lost pump, and the numbers no line and no mode has. -/
theorem test_hyps_LinesStart_refusals :
    (∀ st ∈ [LineState.tracking, .pulseDeliver, .pulsePause, .primeWait, .primeStroke, .blocked, .faulted],
        ((lineIs 0 (fun l => { l with state := st }) State.reset).line 0).state = st)
      ∧ (State.reset.out.mode = .normal ∧ (State.reset.line 0).state = .stopped ∧ (State.reset.line 0).phase = .none
        ∧ State.reset.portUp (pumpPort 0) = false)
      ∧ 5 < 6 ∧ ((0 : Nat) ≠ 1 ∧ (0 : Nat) ≠ 2) ∧ ((3 : Nat) ≠ 1 ∧ (3 : Nat) ≠ 2) := by decide +kernel

theorem test_lineRun_refused :
    ran (.lineRun 3 5 3) State.reset = withReply 3 0x20 .badValue [] State.reset
      ∧ ran (.lineRun 3 6 1) State.reset = withReply 3 0x20 .badValue [] State.reset
      ∧ ran (.lineRun 3 5 1) State.reset = withReply 3 0x20 .portNotReady [] State.reset := by decide +kernel

theorem test_hyps_LinesStop :
    ((lineIs 0 (fun l => { l with state := .tracking }) State.reset).line 0).state ≠ .stopped
      ∧ (State.reset.line 0).state = .stopped
      ∧ ((lineIs 0 (fun l => { l with state := .blocked }) State.reset).line 0).state = .blocked
      ∧ (State.reset.line 0).state ≠ .blocked := by decide +kernel

theorem test_hyps_LineIsSet :
    (100 ≤ 100 ∧ (500 ≤ 500 ∧ 500 ≤ 20000) ∧ (1000 ≤ 15000 ∧ 15000 ≤ 15000)
        ∧ ((0 : Nat) = 0 ∨ (1000 ≤ 0 ∧ 0 ≤ 100000)) ∧ (1 ≤ 600 ∧ 600 ≤ 600) ∧ (1 ≤ 3600 ∧ 3600 ≤ 3600) ∧ 600 ≤ 600)
      ∧ (State.reset.line 0).state = .stopped
      ∧ ((lineIs 0 (fun l => { l with state := .pulseDeliver }) State.reset).line 0).state ≠ .stopped
      ∧ (1 : Nat) ≠ (State.reset.line 0).weight ∧ ¬ (101 ≤ 100) := by decide +kernel

theorem test_hyps_StrokeDoneIsAccounted :
    let s := lineIs 0 (fun l => { l with phase := .running, state := .tracking }) (up 7 boring)
    (s.portUp (pumpPort 0) = true ∧ (s.line 0).phase = .running)
      ∧ s.ring.state ≠ .none ∧ s.ring.current = some (Record.opened 1 0)
      ∧ (s.line 0).pLimit < 8001 ∧ 8000 ≤ (s.line 0).pLimit ∧ s.out.faults.length < 8
      ∧ ((lineIs 0 (fun l => { l with phase := .requested 1 }) (s.setReq { s.req with
            table := [⟨.grout, none, 7, .action (.stroke 0 5000), .inFlight 3, 1, 1⟩] })).line 0).phase = .requested 1
      ∧ ({ s.req with table := [⟨.grout, none, 7, .action (.stroke 0 5000), .inFlight 3, 1, 1⟩] } : Requests).onLine 1
        = true := by decide +kernel

/-- A STROKE_DONE that is not expected: no stroke, a stroke not yet sent, a line of the other pump, no line. -/
theorem test_hyps_StrokeDoneIsAccounted_refused :
    let s := up 7 State.reset
    (s.portUp 7 = true ∧ (s.line 0).phase = .none)
      ∧ ((lineIs 0 (fun l => { l with phase := .requested 1 }) s).line 0).phase = .requested 1 ∧ s.req.onLine 1 = false
      ∧ pumpPort 2 ≠ 7 ∧ ¬ ∃ i : LineNo, i.val = 6 := by decide +kernel

theorem test_hyps_LineTimersExpire :
    let s := up 7 State.reset
    ((lineIs 0 (fun l => { l with phase := .running }) s).line 0).phase = .running
      ∧ ((lineIs 0 (fun l => { l with timer := some (.delivery, 20) }) s).line 0).timer = some (.delivery, 20)
      ∧ ((lineIs 0 (fun l => { l with timer := some (.pause, 60) }) s).line 0).timer = some (.pause, 60)
      ∧ ((lineIs 0 (fun l => { l with timer := some (.prime, 5) }) s).line 0).timer = some (.prime, 5)
      ∧ s.portUp (pumpPort 0) = true ∧ (s.line 0).phase = .none ∧ s.out.faults.length < 8 := by decide +kernel

/-- A pause and a prime that end with the pump out of service, and with a stroke still on the line; the other line of the
pump in each case of its loss. -/
theorem test_hyps_LineTimersExpire_lost :
    let s := State.reset
    (s.portUp (pumpPort 0) = false ∧ (s.line 0).phase = .none
        ∧ ((lineIs 0 (fun l => { l with timer := some (.pause, 60) }) s).line 0).timer = some (.pause, 60)
        ∧ ((lineIs 0 (fun l => { l with timer := some (.prime, 5) }) s).line 0).timer = some (.prime, 5))
      ∧ ((lineIs 0 (fun l => { l with phase := .overdue }) s).line 0).phase ≠ .none
      ∧ ((lineIs 0 (fun l => { l with state := .pulsePause }) s).line 0).state = .pulsePause
      ∧ pumpPort 1 = pumpPort 0 ∧ (s.line 1).state = .stopped
      ∧ ((lineIs 1 (fun l => { l with state := .faulted }) s).line 1).state = .faulted
      ∧ ((lineIs 1 (fun l => { l with state := .tracking }) s).line 1).state = .tracking := by decide +kernel

theorem test_pulsePause_on_a_lost_pump :
    let t := ran (.pulsePauseTimerExpiry 0) (lineIs 0 (fun l =>
      { l with mode := .pulse, state := .pulsePause, timer := some (.pause, 60) }) State.reset)
    (t.line 0).state = .faulted ∧ (t.line 0).phase = .none ∧ t.link.reports.length = 3 := by decide +kernel

theorem test_hyps_RingOpens :
    ¬ ((1 ≤ 0 ∧ 0 ≤ 65535) ∧ 7 < 8) ∧ ((1 ≤ 65535 ∧ 65535 ≤ 65535) ∧ 7 < 8) ∧ boring.ring.state ≠ .none
      ∧ State.reset.adv.geometry.configured = false ∧ (modeIn .clamped .host ready).out.mode ≠ .normal
      ∧ ready.ring.lastNumber = 0
      ∧ (ready.adv.geometry.configured = true ∧ ready.out.mode = .normal ∧ ready.ring.state = .none
        ∧ ready.adv.m + (12000 + 500) ≤ ready.adv.geometry.strokeLimit ∧ ready.adv.state = .idle)
      ∧ (ready.setAdv { ready.adv with m := 7501 }).adv.geometry.strokeLimit < 7501 + (12000 + 500) := by
  decide +kernel

theorem test_hyps_BuildPlanRule :
    building.ring.plan = buildPlan 0 ∧ State.reset.ring.current = none
      ∧ (building.ring.current.map (·.placed.length)) = some 0
      ∧ ((ringIn .building 8 ready).ring.current.map (·.placed.length)) = some 8 := by decide +kernel

theorem test_hyps_BuildStarts :
    let s := advIn .strokeComplete (ringIn .boring 0 ready)
    handsOn s ∧ s.ring.state = .boring ∧ s.adv.state = .strokeComplete ∧ s.ring.current = some (Record.opened 1 0)
      ∧ State.reset.ring.state ≠ .boring := by decide +kernel

theorem test_hyps_RingFinishes :
    let s := ringIn .building 8 ready
    (s.ring.state = .building ∧ s.ring.placedCount = 8 ∧ s.ring.current.isSome = true ∧ s.build.step = none)
      ∧ (boring.ring.state = .boring ∧ boring.ring.current = some (Record.opened 1 0) ∧ (Record.opened 1 0).x = 0)
      ∧ ({ Record.opened 1 0 with x := 1 } : Record).x ≠ 0
      ∧ State.reset.ring.state ≠ .building ∧ building.ring.placedCount ≠ 8
      ∧ (setStep (some (stepIs .extending .none)) s).build.step ≠ none := by decide +kernel

/-- Port 11 in service with the queue full. -/
def queueFull : State :=
  (up 11 State.reset).setRing { State.reset.ring with queue := (List.range 8).map fun n => ⟨.a, n + 1⟩ }

theorem test_hyps_SegmentQueueRule :
    (State.reset.ring.queue = [] ∧ building.ring.queue = ⟨.a, 7⟩ :: [] ∧ building.build.step = none
        ∧ (stepping (stepIs .placing .accepted)).build.step ≠ none)
      ∧ (up 11 State.reset).portUp 11 = true ∧ 2 < 3 ∧ PieceKind.k.code = 2
      ∧ (up 11 State.reset).ring.queue.any (·.serial == 5) = false ∧ (up 11 State.reset).ring.current = none
      ∧ queueFull.ring.queue.any (·.serial == 5) = true ∧ queueFull.ring.queue.any (·.serial == 9) = false
      ∧ 8 ≤ queueFull.ring.queue.length ∧ queueFull.portUp 11 = true := by decide +kernel

theorem test_hyps_PlacementStarts :
    (building.ring.state = .building ∧ building.build.step = none ∧ building.out.mode = .normal
        ∧ building.ring.next = some (0, ⟨4, .a⟩) ∧ building.ring.queue = ⟨.a, 7⟩ :: []
        ∧ (building.ports.get 10).state = .ready ∧ (building.ports.get 1).state = .ready)
      ∧ (handsOn building ∧ building.build.grant = .free)
      ∧ (building.setBuild { building.build with grant := .port14 }).build.grant = .port14
      ∧ (building.setBuild { building.build with grant := .port15 }).build.grant = .port15
      ∧ building.portUp 14 = true ∧ building.portUp 15 = true
      ∧ State.reset.ring.state ≠ .building ∧ (ringIn .building 8 building).ring.next = none
      ∧ (building.setRing { building.ring with queue := [] }).ring.queue = [] ∧ PieceKind.k ≠ .a
      ∧ ((portIn 1 .stale building).ports.get 1).state ≠ .ready := by decide +kernel

theorem test_hyps_FaultedStepsGoOn :
    ((faulted .placing).build.step.map (·.state) = some .stepFault ∧ (faulted .placing).out.mode = .normal
        ∧ (faulted .placing).portUp 10 = true)
      ∧ ((faulted .retracting).build.step.map (·.faultedPhase) = some (some .retracting)
        ∧ (faulted .retracting).portUp 1 = true)
      ∧ (faulted .extending).build.step.map (·.faultedPhase) = some (some .extending)
      ∧ (faulted .backout).build.step.map (·.backoutState) = some (some .returning)
      ∧ (faulted .placing).build.grant = .free ∧ (faulted .placing).portUp 14 = true
      ∧ (faulted .placing).build.step.any (·.state == .stepFault) = true ∧ State.reset.build.step = none
      ∧ (setBuildGrant .port14 (faulted .placing)).build.grant = .port14
      ∧ (portIn 10 .empty (faulted .placing)).portUp 10 = false := by decide +kernel

theorem test_hyps_StepEventsAccepted :
    let at_ := fun st => stepping (stepIs st .accepted)
    (at_ .retracting).build.step = some (stepIs .retracting .accepted)
      ∧ ((at_ .retracting).portUp 1 = true ∧ (at_ .retracting).portUp 10 = true)
      ∧ ((at_ .placing).ring.next = some (0, ⟨4, .a⟩) ∧ (at_ .placing).ring.queue = ⟨.a, 7⟩ :: []
        ∧ (at_ .placing).ring.current = some (Record.opened 1 0))
      ∧ (at_ .returning).build.step = some (stepIs .returning .accepted)
      ∧ (at_ .extending).build.step = some (stepIs .extending .accepted)
      ∧ (at_ .extending).adv.state ≠ .boring ∧ (at_ .extending).out.mode = .normal
      ∧ ((portIn 10 .faulted (at_ .retracting)).portUp 10 = false ∧ (portIn 10 .faulted (at_ .retracting)).portUp 1 = true)
      ∧ ((portIn 1 .faulted (at_ .placing)).portUp 1 = false ∧ (portIn 1 .faulted (at_ .returning)).portUp 10 = true) := by
  decide +kernel

/-- Step events that are not expected: no step, another sector, another serial, an action not yet on the line. -/
theorem test_step_events_refused :
    let placing := stepping (stepIs .placing (.requested 1))
    let no := fun (p : PortNo) (i : Instr) (s : State) => ran i s = sendField p (eventAnswerFrame 2 .notExpected) s
    no 10 (.returned 10 2) (up 10 State.reset)
      ∧ no 1 (.retracted 1 2 5) (stepping (stepIs .retracting .accepted))
      ∧ no 10 (.placed 10 2 8) (stepping (stepIs .placing .accepted))
      ∧ no 10 (.placed 10 2 7) placing ∧ placing.portUp 10 = true := by decide +kernel

theorem test_hyps_StepFaultRule :
    (stepping (stepIs .placing .accepted)).build.step = some (stepIs .placing .accepted)
      ∧ (stepIs .placing .accepted).state.running = true ∧ (stepIs .placing .accepted).timer ≠ none
      ∧ (stepIs .stepFault .none).state.running = false
      ∧ (stepping (stepIs .placing .accepted)).out.faults.length < 8 ∧ State.reset.build.step = none
      ∧ (setOwner 4 .build (stepping (stepIs .placing .accepted))).build.owners.get 4 = .build := by decide +kernel

theorem test_hyps_LocalControlRule :
    (building.portUp 14 = true ∧ building.build.grant = .free ∧ building.ring.state = .building
        ∧ building.build.step = none ∧ building.out.mode = .normal ∧ (building.ports.get 14).state = .ready)
      ∧ (up 14 State.reset).ring.state ≠ .building
      ∧ (building.setBuild { building.build with grant := .port15 }).build.grant ≠ .port14 := by decide +kernel

theorem test_hyps_StrapLinesMoveThePort :
    let half : Straps := ⟨true, false, false, false⟩
    strapLevel (State.reset.ports.get 3).straps .d1 ≠ true ∧ (State.reset.ports.get 3).state = .empty
      ∧ ((withLevel (State.reset.ports.get 3).straps .d1 true).d1 = true)
      ∧ ((portIn 3 .settling (strapped 3 half State.reset)).ports.get 3).state = .settling
      ∧ strapLevel ((strapped 3 half State.reset).ports.get 3).straps .d1 ≠ false
      ∧ (withLevel half .d1 false).d1 = false ∧ (withLevel half .d1 false).d2 = false
      ∧ ((portIn 3 .ready (strapped 3 half State.reset)).ports.get 3).state = .ready
      ∧ ((portIn 3 .bypassed State.reset).ports.get 3).state = .bypassed := by decide +kernel

theorem test_hyps_PortTimersExpire :
    let whole : Straps := ⟨true, true, true, false⟩
    let s := strapped 3 whole (portIn 3 .settling State.reset)
    let on := fun f => s.setPorts (put s.ports 3 (f (s.ports.get 3)))
    ((on fun pt => { pt with debounce := some 50 }).ports.get 3).debounce ≠ none
      ∧ (s.ports.get 3).straps.d1 = true ∧ (s.ports.get 3).straps.d2 = true
      ∧ ¬ ((State.reset.ports.get 3).straps.d1 = true ∧ (State.reset.ports.get 3).straps.d2 = true)
      ∧ ((on fun pt => { pt with partialTimer := some 2000 }).ports.get 3).partialTimer ≠ none
      ∧ ((on fun pt => { pt with settle := some 250 }).ports.get 3).settle ≠ none
      ∧ ((on fun pt => { pt with stale := some 300 }).ports.get 3).stale ≠ none := by decide +kernel

theorem test_hyps_StationFramesAreTaken :
    let s := up 12 State.reset
    ((s.ports.get 12).identity = some ⟨.auxiliary, 1, 16, 0⟩ ∧ s.portUp 12 = true ∧ sampleReadings 0 [0] = some []
        ∧ (s.ports.get 12).state = .ready)
      ∧ ((portIn 12 .stale s).ports.get 12).state = .stale
      ∧ State.reset.portUp 12 = false ∧ fieldFrame [0] = none
      ∧ fieldFrame (frameBytes 0x5A 0x02 9 [2]) = some (.answer 9 [2])
      ∧ fieldFrame (frameBytes 0x5A 0x03 9 [0]) = some (.sample [0])
      ∧ fieldFrame (frameBytes 0x5A 0x04 9 [0x04]) = some (.event 9 [0x04]) ∧ eventBody [0x04] = .event .returned
      ∧ (State.reset.portUp 10 = false ∧ Config.portClass 12 ≠ StationEvent.returned.sentBy)
      ∧ ((s.ports.get 12).identity = some ⟨.auxiliary, 1, 16, 0⟩ ∧ ([] : List Byte).length ≠ 1 + 3 * 0) := by
  decide +kernel

/-- Port 6 lost with a belt sample still to be taken. -/
def lateScale : State := State.reset.setMuck { State.reset.muck with late := true }

theorem test_hyps_StationFramesAreTaken_late :
    ((lateScale.ports.get 6).identity = none ∧ lateScale.muck.late = true
        ∧ (lateScale.ports.get 6).state.powered = false)
      ∧ sampleReadings 2 [2, 0, 100, 1, 1, 0, 1] = some [⟨100, true⟩, ⟨256, true⟩]
      ∧ State.reset.muck.late = false := by decide +kernel

/-- The late belt sample of R70: the flag falls, MUCK is written from E, and a second sample changes nothing. -/
theorem test_late_sample :
    (ran (.sampleFrame 6 [2, 0, 100, 1, 1, 0, 1]) lateScale).muck.e = 256
      ∧ (ran (.sampleFrame 6 [2, 0, 100, 1, 1, 0, 1]) lateScale).muck.late = false
      ∧ (ran (.sampleFrame 6 [2, 0, 100, 1, 1, 0, 1]) lateScale).muck.blind = false
      ∧ (ran (.sampleFrame 6 [2, 0, 100, 1, 1, 0, 1]) State.reset).muck.e = 0 := by decide +kernel

/-- A misfit EVENT body: NOT_EXPECTED while the station is not yet known, or of a kind its class does not send; in service
and of its class's kind, no frame (R139, log 23). -/
theorem test_misfit_event :
    (takeEventBody 10 3 [0x04, 0] (portIn 10 .identifying State.reset)).fieldLine.length = 1
      ∧ (takeEventBody 12 3 [0x04, 0] (up 12 State.reset)).fieldLine.length = 1
      ∧ (takeEventBody 10 3 [0x04, 0] (up 10 State.reset)).fieldLine = [] := by decide +kernel

theorem test_hyps_BypassAndRestore :
    ((up 7 State.reset).ports.get 7).state ≠ .bypassed
      ∧ ((portIn 7 .bypassed State.reset).ports.get 7).state = .bypassed
      ∧ ¬ ((5 : PortNo).val = 6 ∨ (5 : PortNo).val = 7) ∧ ((portIn 7 .faulted State.reset).ports.get 7).state = .faulted
      ∧ (State.reset.ports.get 7).state ≠ .refused := by decide +kernel

theorem test_hyps_StationRequestsRegister :
    let s := up 12 State.reset
    ([(0, 5), (15, 6)] : List (Nat × Nat)).map (·.1) = [0, 15]
      ∧ ((1 ≤ 2 ∧ 2 ≤ 8) ∧ (∀ i ∈ [0, 15], i < 16) ∧ [0, 15].Nodup) ∧ ¬ [0, 0].Nodup
      ∧ (s.req.table = [] ∧ s.portUp 12 = true ∧ (s.ports.get 12).identity = some ⟨.auxiliary, 1, 16, 0⟩)
      ∧ (∀ i ∈ [0, 15], Config.pointOwner 12 i = .free) ∧ Config.pointOwner 5 0 ≠ .free
      ∧ (reading 1 0).req.table.map (·.tag) = [some 9] ∧ State.reset.portUp 12 = false := by decide +kernel

theorem test_hyps_ReadsChangeNothing :
    boring.ring.current = some (Record.opened 1 0) ∧ (Record.opened 1 0).number = 1
      ∧ (State.reset.setRing { State.reset.ring with history := [Record.opened 3 0] }).ring.history.find?
          (·.number == 3) = some (Record.opened 3 0)
      ∧ State.reset.ring.current = none ∧ State.reset.ring.history = [] := by decide +kernel

theorem test_hyps_AnswersEndRequests :
    let e : Entry := ⟨.host, some 9, 12, .read [0, 1], .inFlight 5, 1, 1⟩
    ((reading 1 0).req.table.find? fun d => d.port == 12 && d.state.onLine) = some e
      ∧ (reading 1 0).portUp 12 = true ∧ ([0, 7, 0, 8] : List Byte).length = 2 * [0, 1].length
      ∧ (1 : Nat) ≠ [0, 1].length
      ∧ ([2, 0, 7, 0] : List Byte).length ≠ 1 + 2 * [0, 1].length
      ∧ (((reading 4 0).req.table.find? fun d => d.port == 12 && d.state.onLine).map (·.attempts)) = some 4
      ∧ ((reading 1 1).ports.get 12).noAnswer < 2 ∧ ((reading 1 2).ports.get 12).noAnswer = 2
      ∧ ([{ e with state := .retryWait }] : List Entry)[0]? = some { e with state := .retryWait } := by decide +kernel

/-- A port in IDENTIFYING with its IDENTIFY on the line. -/
def identifying (m : OutMode) : State :=
  let s := modeIn m .none (portIn 12 .identifying State.reset)
  s.setReq { s.req with table := [⟨.port, none, 12, .action (.identify 500), .inFlight 5, 1, 1⟩] }

/-- An entry on the line of a port in service. -/
def flight (p : PortNo) (o : Origin) (k : ReqKind) : State :=
  (up p State.reset).setReq { State.reset.req with
    table := [⟨o, if o = .host then some 9 else none, p, k, .inFlight 5, 1, 1⟩] }

theorem test_hyps_OutcomesReachTheirOwners :
    (((flight 12 .host (.write [(0, 4)])).req.flying 12).map (·.state) = some (.inFlight 5)
        ∧ ((flight 12 .host (.write [(0, 4)])).req.flying 12).map (·.tag) = some (some 9))
      ∧ ((flight 12 .safe (.write [(0, 4)])).req.flying 12).map (·.origin) = some .safe
      ∧ ((flight 10 .build (.action (.place 7 4))).req.flying 10).map (·.seqNo) = some 1
      ∧ (stepIs .placing (.requested 1)).action = .requested 1 ∧ (stepIs .placing (.requested 1)).state.running = true
      ∧ ((flight 7 .grout (.action (.stroke 0 5000))).req.flying 7).map (·.kind) = some (.action (.stroke 0 5000))
      ∧ ((lineIs 0 (fun l => { l with phase := .requested 1 }) State.reset).line 0).phase = .requested 1
      ∧ ((flight 12 .host (.write [(0, 4)])).req.table.map fun e => e.tag.isSome) = [true]
      ∧ ((flight 12 .safe (.write [(0, 4)])).req.table.map fun e => e.tag.isSome) = [false]
      ∧ State.reset.out.faults.length < 8 := by decide +kernel

theorem test_hyps_OutcomesReachTheirOwners_identify :
    ((identifying .normal).ports.get 12).state = .identifying
      ∧ ((identifying .normal).req.flying 12).map (·.kind) = some (.action (.identify 500))
      ∧ classOf (9 : Byte).toNat = some (Config.portClass 12) ∧ classOf (8 : Byte).toNat ≠ some (Config.portClass 12)
      ∧ (Config.minPoints (Config.portClass 12) ≤ (16 : Byte).toNat ∧ (16 : Byte).toNat ≤ 16)
      ∧ Config.channels (Config.portClass 12) = none ∧ ¬ ((17 : Byte).toNat ≤ 16)
      ∧ ((identifying .normal).out.mode = .normal ∧ (identifying .clamping).out.mode ≠ .normal)
      ∧ ((identifying .released).out.mode = .released ∧ Config.pointOwner 5 0 ≠ .free) := by decide +kernel

/-- The outcome of a RELINQUISH still standing after RESUME takes the port from the outstanding set (R170, R171). -/
theorem test_relinquish_leaves :
    let s := modeIn .clamping .resume State.reset
    let s := s.setOut { s.out with outstanding := put s.out.outstanding 12 true }
    (safeOutcome 12 (.action .relinquish) (.done []) s).out.mode = .clamped
      ∧ (safeOutcome 12 (.action .relinquish) (.done []) s).out.outstanding.get 12 = false := by decide +kernel

/-- An entry never sent had no attempt made (R148, R162). -/
theorem test_attemptsMade :
    (⟨.host, some 9, 12, .read [0], .queued, 1, 1⟩ : Entry).attemptsMade = 0
      ∧ (⟨.host, some 9, 12, .read [0], .retryWait, 3, 1⟩ : Entry).attemptsMade = 2
      ∧ (⟨.host, some 9, 12, .read [0], .inFlight 5, 3, 1⟩ : Entry).attemptsMade = 3 := by decide

theorem test_hyps_LostPortsAreTold :
    (PortState.faulted ≠ .ready ∧ PortState.faulted ≠ .stale ∧ (2 : PortNo).val ≤ 5)
      ∧ boring.adv.cutter ≠ .stopped
      ∧ (pumpPort 0 = 7 ∧ ((lineIs 0 (fun l => { l with state := .tracking }) State.reset).line 0).state ≠ .stopped)
      ∧ ((stepping (stepIs .placing .accepted)).build.step = some (stepIs .placing .accepted)
        ∧ phasePort (stepIs .placing .accepted).state (stepIs .placing .accepted).sector = 10)
      ∧ (setBuildGrant .port14 State.reset).build.grant = .port14
      ∧ ((portIn 12 .empty (flight 12 .host (.write [(0, 4)]))).portUp 12 = false
        ∧ ((flight 12 .host (.write [(0, 4)])).req.table.map (·.seqNo)).Nodup
        ∧ (flight 12 .host (.write [(0, 4)])).req.table.map (·.port) = [12])
      ∧ (flight 12 .safe (.write [(0, 4)])).req.table.map (·.origin) = [.safe] := by decide +kernel

/-- A table with no room, full of reads of port 13. -/
def crowded (s : State) : State :=
  s.setReq { s.req with table := List.replicate 32 ⟨.host, some 0, 13, .read [0], .queued, 1, 1⟩ }

theorem test_hyps_PointStateRule :
    (State.reset.req.point 3 0).state ≠ .dirty
      ∧ ((State.reset.req.setPoint 3 0 ⟨some 4, some 5, .dirty⟩).point 3 0).state = .dirty
      ∧ (State.reset.req.register .host (some 1) 3 (.write [(0, 4)])).writeStands 3 0 = true
      ∧ (([(0, 4), (15, 5)] : List (Nat × Nat)).map (·.1)).Nodup
      ∧ (replaceLast (Entry.foldable .advance 4 0) id
          (State.reset.req.register .advance none 4 (.write [(0, 4)])).table).isSome = true
      ∧ (State.reset.req.table = [] ∧ 32 ≤ (crowded State.reset).req.table.length)
      ∧ PortState.ready.inService = true ∧ PortState.empty.inService = false := by decide +kernel

theorem test_write_of_several_pairs_ends :
    let r := (State.reset.req.modWritten 12 (.write [(0, 4), (15, 5)]) fun _ => Point.asked).endWrite 12
      (.write [(0, 4), (15, 5)]) (.done [])
    r.point 12 0 = ⟨some 4, some 4, .clean⟩ ∧ r.point 12 15 = ⟨some 5, some 5, .clean⟩ := by decide +kernel

/-- A safe write that waits leaves its points DIRTY with its values, through the end of an older write of a point, and
PENDING once it is registered (R159). -/
theorem test_waiting_safe_write :
    let s := (placeItem ⟨.safe, 12, .write [(0, 7)]⟩ (crowded (up 12 State.reset))).1
    let t := s.setReq ({ s.req with table := [] }.endWrite 12 (.write [(0, 4)]) (.done []))
    s.req.point 12 0 = ⟨some 7, none, .dirty⟩ ∧ t.req.point 12 0 = ⟨some 7, some 4, .dirty⟩
      ∧ (ran .tableFill t).req.point 12 0 = ⟨some 7, some 4, .pending⟩
      ∧ (ran .tableFill t).req.waits = [] := by decide +kernel

/-- RESET_PART in CLAMPING leaves no point DIRTY that a lost port's waiting safe write made so (R165). -/
theorem test_resetPart_cleans :
    let s := modeIn .clamping .host (State.reset.setReq (State.reset.req.setPoint 3 0 ⟨some 4, none, .dirty⟩))
    (ran (.resetPart 9) s).req.point 3 0 = ⟨none, none, .clean⟩ := by decide +kernel

theorem test_hyps_DispatchRule :
    let s := ran (.stationRead 9 12 [0, 1]) (up 12 State.reset)
    let q := fun (o : Origin) => { s with req := s.req.register o none 12 (.write [(0, 1)]) }
    (reading 1 0).req.busy 12 = true ∧ s.req.busy 12 = false ∧ s.portUp 12 = true
      ∧ (s.req.table.find? fun e => e.port == 12 && e.state == .queued).isSome = true
      ∧ ((q .safe).req.table.find? fun e => e.port == 12 && e.state == .queued && e.origin == .safe).isSome = true
      ∧ (s.req.table.find? fun e => e.port == 12 && e.state == .queued && e.origin == .safe) = none
      ∧ ((portIn 12 .identifying State.reset).ports.get 12).state = .identifying
      ∧ ((State.reset.req.register .port none 12 (.action (.identify 500))).table.find? fun e =>
          e.port == 12 && e.state == .queued && isIdentify e.origin e.kind).isSome = true
      ∧ State.reset.portUp 12 = false := by decide +kernel

theorem test_hyps_TableFillRule :
    let safe : WaitItem := ⟨.safe, 12, .write [(0, 1)]⟩
    let stroke : WaitItem := ⟨.grout, 7, .action (.stroke 0 5000)⟩
    let s := up 7 (up 12 State.reset)
    let w := s.setReq { s.req with waits := [stroke, safe] }
    w.req.table.length ≤ 32 ∧ w.req.waits = [stroke] ++ safe :: []
      ∧ (w.out.mode = .normal ∧ w.portUp 12 = true ∧ w.portUp 7 = true) ∧ stroke.origin ≠ .safe
      ∧ State.reset.portUp 7 = false ∧ (State.reset.ports.get 7).state ≠ .identifying ∧ State.reset.req.waits = []
      ∧ ((portIn 12 .identifying State.reset).ports.get 12).state = .identifying
      ∧ ((lineIs 0 (fun l => { l with phase := .pending }) w).line 0).phase = .pending
      ∧ State.reset.req.table.length < 32 ∧ (fillOne w).isSome = true ∧ (fillOne State.reset).isNone = true
      ∧ ((up 4 (ran (.cutterSet 3 20) State.reset)).req.point 4 0).state = .dirty
      ∧ ((up 4 (ran (.cutterSet 3 20) State.reset)).req.point 4 0).commanded = some 50
      ∧ (up 4 (ran (.cutterSet 3 20) State.reset)).portUp 4 = true ∧ Config.pointOwner 4 0 = .advance := by
  decide +kernel

theorem test_hyps_ClampStopsTheMachine :
    State.reset.out.outstanding = Vector.replicate 16 false ∧ State.reset.out.mode = .normal
      ∧ (modeIn .released .release State.reset).out.mode = .released ∧ State.reset.out.estop = false
      ∧ (modeIn .clamping .host State.reset).out.mode = .clamping
      ∧ (modeIn .clamping .host State.reset).out.cause ≠ .estop
      ∧ (crowded (up 4 State.reset)).req.table.length = 32
      ∧ ((up 4 State.reset).portUp 4 = true ∧ safePairs (up 4 State.reset) 4 = [(0, 0)]
        ∧ (up 4 State.reset).req.safeStands 4 = false
        ∧ (((up 4 State.reset).out.safe.get 4).map (·.1)).Nodup) := by decide +kernel

theorem test_hyps_UnclampAndRelease :
    let s := modeIn .clamped .host State.reset
    (handsOn s ∧ s.out.mode = .clamped ∧ s.out.estop = false ∧ s.adv.state.active = false)
      ∧ (up 5 s).portUp 5 = true ∧ State.reset.out.mode = .normal
      ∧ (estopDeassert s).out.estop = false ∧ (s.setOut { s.out with estop := true }).out.estop = true
      ∧ (modeIn .released .release s).out.mode = .released := by decide +kernel

theorem test_hyps_SafeRecordIsSet :
    let thrust : List (Nat × Nat) := [(1, 0), (2, 0), (3, 0), (4, 0), (5, 0), (6, 0), (7, 0), (8, 0)]
    (thrust.length ≤ 8 ∧ (∀ i ∈ thrust.map (·.1), i < 16) ∧ (thrust.map (·.1)).Nodup)
      ∧ (∀ i ∈ List.range 9, 1 ≤ i → (i, 0) ∈ thrust) ∧ (thrust.all fun pv => pv.2 == 0) = true
      ∧ (modeIn .clamping .host State.reset).out.mode = .clamping ∧ State.reset.out.mode ≠ .clamping := by
  decide +kernel

theorem test_hyps_FaultsAreReadAndAcknowledged :
    State.reset.out.faults = [] ∧ (faultsAre 8).out.faults = aFault :: List.replicate 7 aFault
      ∧ (List.replicate 7 aFault).length = 7 := by decide +kernel

/-- A configured part with an ADVANCE_STOP waiting: the laws hold, and its step answers a next state. -/
def waitingStop : State := ready.setPending [.advanceStop 9]

theorem test_waitingStop_step : step waitingStop = .next (withReply 9 0x11 .already [] ready) := rfl

theorem test_hyps_StepKeepsRecordLaws :
    RecordLaws waitingStop ∧ step waitingStop = .next (withReply 9 0x11 .already [] ready) :=
  ⟨{ permit := by unfold permitDerived; decide +kernel
     capacity := by constructor <;> decide +kernel
     table := by constructor <;> decide +kernel
     transit := by unfold transitBalanced; decide +kernel
     backlogs := by unfold backlogBounded; decide +kernel
     segments := { distinct := by decide +kernel, apart := fun r h => nomatch h } }, test_waitingStop_step⟩

theorem waitingStop_sectors :
    (∀ sec, waitingStop.build.owners.get sec ≠ .build) ∧ (∀ g, waitingStop.build.groups.get g = .hold)
      ∧ waitingStop.build.step = none := by
  decide +kernel

theorem stopLaws_waitingStop : StopLaws waitingStop where
  permit := by unfold permitDerived; decide +kernel
  boring := by constructor <;> decide +kernel
  clamp :=
    { timers := by unfold timersHeld; decide +kernel
      clamping := by decide +kernel
      adv := fun h => absurd rfl h, lines := fun h => absurd rfl h, step := fun h => absurd rfl h
      cutter := fun _ => rfl, grant := fun _ => rfl }
  output := fun h => absurd rfl h
  ring := { current := by decide +kernel, advance := fun _ => rfl }
  build :=
    { idle := fun _ => rfl
      owned := fun sec => ⟨fun h => absurd h (waitingStop_sectors.1 sec),
        fun ⟨_, h, _⟩ => absurd (waitingStop_sectors.2.2.symm.trans h) nofun⟩
      modes := fun g _ => Or.inr (waitingStop_sectors.2.1 g), held := fun _ g _ => waitingStop_sectors.2.1 g }
  screw := Or.inr rfl

theorem test_hyps_StepKeepsStopLaws :
    StopLaws waitingStop ∧ step waitingStop = .next (withReply 9 0x11 .already [] ready) :=
  ⟨stopLaws_waitingStop, test_waitingStop_step⟩

theorem test_hyps_StepKeepsAccountLaws :
    AccountLaws waitingStop ∧ step waitingStop = .next (withReply 9 0x11 .already [] ready) :=
  ⟨{ permit := by unfold permitDerived; decide +kernel
     ring := { current := by decide +kernel, advance := fun _ => rfl }
     stroke :=
       { fits := fun _ => by decide +kernel, configured := fun _ => by decide +kernel
         short := (fun h => nomatch h), bound := fun h => absurd rfl h
         distance := (fun _ h => nomatch h), volume := fun _ h => nomatch h } }, test_waitingStop_step⟩

theorem test_hyps_ResetPartRule : handsOn waitingStop ∧ StopLaws waitingStop :=
  ⟨by decide +kernel, stopLaws_waitingStop⟩

end Sys2Proof.Tests
end

/-! SUPPORT. What every operation inside a command does to the laws of Safety.lean: the laws that stand between any two
operations, the duties that a change of the mode or of the ring suspends until its tellings are done, and the units that
an inner operation leaves alone. -/

namespace Sys2Proof.Machine

/-! ## The Link Unit under an operation -/

/-- Reports may be added to the Link Unit's queue, and nothing else of it changes. -/
structure Grown (s t : State) : Prop where
  replies : t.link.replies = s.link.replies
  link : LinkGrown s t

theorem LinkGrown.refl (s : State) : LinkGrown s s where
  rx := rfl
  held := rfl
  lengthErrors := rfl
  gapDiscards := rfl
  crcErrors := rfl
  overruns := rfl
  reports := List.prefix_rfl
  overflow := id

theorem LinkGrown.trans {s t u : State} (h : LinkGrown s t) (k : LinkGrown t u) : LinkGrown s u where
  rx := k.rx.trans h.rx
  held := k.held.trans h.held
  lengthErrors := k.lengthErrors.trans h.lengthErrors
  gapDiscards := k.gapDiscards.trans h.gapDiscards
  crcErrors := k.crcErrors.trans h.crcErrors
  overruns := k.overruns.trans h.overruns
  reports := h.reports.trans k.reports
  overflow := k.overflow ∘ h.overflow

theorem LinkGrown.of_link {s t : State} (h : t.link = s.link) : LinkGrown s t := by
  constructor <;> simp [h]

theorem Grown.of_link {s t : State} (h : t.link = s.link) : Grown s t := ⟨by rw [h], .of_link h⟩

theorem Grown.refl (s : State) : Grown s s := .of_link rfl

theorem Grown.trans {s t u : State} (h : Grown s t) (k : Grown t u) : Grown s u :=
  ⟨k.replies.trans h.replies, h.link.trans k.link⟩

theorem grown_report (r : Report) (s : State) : Grown s (report r s) := by
  unfold report Link.queueReport
  split
  · exact ⟨rfl, ⟨rfl, rfl, rfl, rfl, rfl, rfl, List.prefix_append _ _, id⟩⟩
  · exact ⟨rfl, ⟨rfl, rfl, rfl, rfl, rfl, rfl, List.prefix_rfl, fun _ => rfl⟩⟩

/-- A report that stands in the queue, or was lost with the flag set, is not taken back. -/
theorem Reported.grown {r : Report} {s t : State} (h : Reported r s) (g : Grown s t) : Reported r t :=
  h.imp (fun hr => g.link.reports.subset hr) g.link.overflow

/-! ## Laws and duties -/

/-- The laws of StopLaws that hold between any two operations, also while a change of the mode or of the ring is being
told. -/
structure Sound (s : State) : Prop where
  permit : permitDerived s.permit
  copy : s.adv.permitCopy = s.permit.level
  below : s.adv.state = .boring → s.permit.level.rank < Level.rank .hold
  turning : s.adv.state = .boring → s.adv.cutter ≠ .stopped
  timers : timersHeld s.lines
  current : s.ring.current.isSome = true ↔ s.ring.state ≠ .none
  owned : ∀ sec, s.build.owners.get sec = .build ↔ ∃ st, s.build.step = some st ∧ st.sector = sec
  modes : ∀ g, s.build.owners.get (sectorOf g) = .none → s.build.groups.get g = .push ∨ s.build.groups.get g = .hold
  screw : screwAtRest s

/-- The laws of StopLaws that a change of the mode or of the ring suspends until the units are told. -/
inductive Duty where
  | rest | idle | adv | lines | step | cutter | grant | held | output | clamping
  deriving DecidableEq

/-- What each duty demands. -/
def Duty.met (s : State) : Duty → Prop
  | .rest => s.ring.state ≠ .boring → s.adv.state = .idle
  | .idle => s.ring.state ≠ .building → s.build.step = none
  | .adv => s.out.mode ≠ .normal → s.adv.state.active = false
  | .lines => s.out.mode ≠ .normal → linesRest s.lines
  | .step => s.out.mode ≠ .normal → stepRest s.build
  | .cutter => s.out.mode ≠ .normal → s.adv.cutter = .stopped
  | .grant => s.out.mode ≠ .normal → s.build.grant = .free
  | .held => s.out.mode ≠ .normal →
      ∀ g, s.build.owners.get (sectorOf g) = .none → s.build.groups.get g = .hold
  | .output => OutputStops s
  | .clamping => s.out.mode = .clamping ↔ ∃ p, s.out.outstanding.get p = true

/-- StopLaws is the sound laws with every duty met. -/
theorem stopLaws_iff (s : State) : StopLaws s ↔ Sound s ∧ ∀ d : Duty, d.met s := by
  constructor
  · intro h
    refine ⟨⟨h.permit, h.boring.copy, h.boring.permit, h.boring.cutter, h.clamp.timers, h.ring.current,
      h.build.owned, h.build.modes, h.screw⟩, fun d => ?_⟩
    cases d
    · exact h.ring.advance
    · exact h.build.idle
    · exact h.clamp.adv
    · exact h.clamp.lines
    · exact h.clamp.step
    · exact h.clamp.cutter
    · exact h.clamp.grant
    · exact h.build.held
    · exact h.output
    · exact h.clamp.clamping
  · rintro ⟨h, hd⟩
    have hring : s.adv.state = .boring → s.ring.state = .boring := fun hb => by
      by_contra hc
      have := hd .rest hc
      simp [hb] at this
    have hmode : s.adv.state = .boring → s.out.mode = .normal := fun hb => by
      by_contra hc
      have := hd .adv hc
      simp [hb, AdvState.active] at this
    exact
      { permit := h.permit
        boring := ⟨h.copy, h.below, hring, hmode, h.turning⟩
        clamp := ⟨h.timers, hd .clamping, hd .adv, hd .lines, hd .step, hd .cutter, hd .grant⟩
        output := hd .output
        ring := ⟨h.current, hd .rest⟩
        build := ⟨hd .idle, h.owned, h.modes, hd .held⟩
        screw := h.screw }

/-- What the laws and the duties speak of. -/
structure StopView where
  adv : AdvState
  copy : Level
  cutter : Cutter
  permit : Permit
  setpoint : Nat
  lines : Vector Line 6
  ring : RingState
  opened : Bool
  build : Build
  mode : OutMode
  outstanding : Vector Bool 16

/-- What the laws and the duties speak of, in a state. -/
def State.stops (s : State) : StopView :=
  { adv := s.adv.state, copy := s.adv.permitCopy, cutter := s.adv.cutter, permit := s.permit
    setpoint := s.pres.setpoint, lines := s.lines, ring := s.ring.state, opened := s.ring.current.isSome
    build := s.build, mode := s.out.mode, outstanding := s.out.outstanding }

theorem Sound.of_stops {s t : State} (h : t.stops = s.stops) (k : Sound s) : Sound t := by
  simp only [State.stops, StopView.mk.injEq] at h
  obtain ⟨ha, hc, hu, hp, hs, hl, hr, ho, hb, -, -⟩ := h
  constructor
  · rw [hp]; exact k.permit
  · rw [hp, hc]; exact k.copy
  · rw [hp, ha]; exact k.below
  · rw [hu, ha]; exact k.turning
  · rw [hl]; exact k.timers
  · rw [ho, hr]; exact k.current
  · rw [hb]; exact k.owned
  · rw [hb]; exact k.modes
  · unfold screwAtRest; rw [ha, hs]; exact k.screw

theorem Duty.met_of_stops {s t : State} (h : t.stops = s.stops) {d : Duty} (k : d.met s) : d.met t := by
  simp only [State.stops, StopView.mk.injEq] at h
  obtain ⟨ha, hc, hu, hp, hs, hl, hr, ho, hb, hm, hout⟩ := h
  cases d <;> simpa only [Duty.met, OutputStops, ha, hu, hp, hl, hr, hb, hm, hout] using k

/-! ## What the accounting rests on -/

/-- The figures of a record that the stroke accounting and the tellings rest on. -/
def Record.account (r : Record) : Nat × Nat × Nat := (r.number, r.x, r.volume)

/-- The figures of the advance, and of its record, that only the accounting and the ring commands change. -/
structure Meter where
  geometry : Geometry
  x : Nat
  c1 : Nat
  ring : RingState
  account : Option (Nat × Nat × Nat)

/-- The meter of a state. -/
def State.meter (s : State) : Meter :=
  { geometry := s.adv.geometry, x := s.adv.x, c1 := s.adv.c1, ring := s.ring.state
    account := s.ring.current.map Record.account }

/-- What the accounting rests on is kept: the meter, whether the stroke is complete, the rest outside BORING rings, the
derived permit. -/
structure Metered (s t : State) : Prop where
  meter : t.meter = s.meter
  complete : t.adv.state = .strokeComplete ↔ s.adv.state = .strokeComplete
  rests : Duty.rest.met s → Duty.rest.met t
  permit : permitDerived s.permit → permitDerived t.permit

theorem Metered.refl (s : State) : Metered s s := ⟨rfl, Iff.rfl, id, id⟩

theorem Metered.trans {s t u : State} (h : Metered s t) (k : Metered t u) : Metered s u where
  meter := k.meter.trans h.meter
  complete := k.complete.trans h.complete
  rests := k.rests ∘ h.rests
  permit := k.permit ∘ h.permit

/-- The sound laws are kept, and each duty that is met. -/
structure Lawful (s t : State) : Prop where
  laws : Sound s → Sound t
  duties : Sound s → ∀ d : Duty, d.met s → d.met t

theorem Lawful.refl (s : State) : Lawful s s := ⟨id, fun _ _ => id⟩

theorem Lawful.trans {s t u : State} (h : Lawful s t) (k : Lawful t u) : Lawful s u where
  laws := k.laws ∘ h.laws
  duties hs d hd := k.duties (h.laws hs) d (h.duties hs d hd)

theorem Lawful.of_stops {s t : State} (h : t.stops = s.stops) : Lawful s t :=
  ⟨Sound.of_stops h, fun _ _ => Duty.met_of_stops h⟩

/-- What every operation keeps but those that credit a stroke, set the geometry, enter a mode, or open, build or finish a
ring. -/
structure Steady (s t : State) : Prop extends Metered s t, Lawful s t

theorem Steady.refl (s : State) : Steady s s := ⟨.refl s, .refl s⟩

theorem Steady.trans {s t u : State} (h : Steady s t) (k : Steady t u) : Steady s u :=
  ⟨h.toMetered.trans k.toMetered, h.toLawful.trans k.toLawful⟩

/-- An update that touches nothing the laws and the accounting speak of. -/
theorem Steady.same {s t : State} (hm : t.meter = s.meter) (hs : t.stops = s.stops) : Steady s t where
  meter := hm
  complete := by
    have ha : t.adv.state = s.adv.state := congrArg StopView.adv hs
    rw [ha]
  rests := Duty.met_of_stops hs (d := .rest)
  permit h := by
    have hp : t.permit = s.permit := congrArg StopView.permit hs
    rw [hp]; exact h
  toLawful := .of_stops hs

/-- StopLaws holds after an operation that keeps the laws and the duties. -/
theorem Lawful.stopLaws {s t : State} (h : Lawful s t) (k : StopLaws s) : StopLaws t := by
  rw [stopLaws_iff] at k ⊢
  exact ⟨h.laws k.1, fun d => h.duties k.1 d (k.2 d)⟩

/-! ## What an inner operation leaves alone -/

/-- What of a line no demand, stroke request, stop or fault changes. -/
def Line.setup (l : Line) : Nat × Nat × Nat × Nat × Nat × Nat :=
  (l.weight, l.vs, l.pLimit, l.lag, l.ringDelivered, l.lifetime)

/-- What inner operations leave alone: of the Advance Unit all but the state, the cutter and the copy of the permit, of the
Pressure Unit all but the screw and the MUCK level told, of the Ring Unit all but the other figures of the record. -/
structure Frame where
  adv : Advance
  pres : Pressure
  muck : Muck
  setups : Vector (Nat × Nat × Nat × Nat × Nat × Nat) 6
  ring : Ring
  account : Option (Nat × Nat × Nat)
  ports : Vector Port 16
  safe : Vector (List (Nat × Nat)) 16
  estop : Bool
  hostLine : List (List Byte)
  fieldLine : List (PortNo × List Byte)
  tick : Nat
  pending : List Instr

/-- The part of a state that inner operations leave alone. -/
def State.frame (s : State) : Frame :=
  { adv := { s.adv with state := .idle, cutter := .stopped, permitCopy := .clear }
    pres := { s.pres with setpoint := 0, sOld := 0, muckTold := .clear }
    muck := s.muck, setups := s.lines.map Line.setup
    ring := { s.ring with current := none }, account := s.ring.current.map Record.account
    ports := s.ports, safe := s.out.safe, estop := s.out.estop
    hostLine := s.hostLine, fieldLine := s.fieldLine, tick := s.tick, pending := s.pending }

/-- What an operation of the units on one another keeps besides. With no safe write outstanding it changes nothing of the
Output Unit but the Fault List. -/
structure Inside (s t : State) : Prop extends Steady s t where
  grown : Grown s t
  frame : t.frame = s.frame
  outstanding : ∀ p, t.out.outstanding.get p = true → s.out.outstanding.get p = true
  out : (∀ p, s.out.outstanding.get p = false) → t.out = { s.out with faults := t.out.faults }

theorem Inside.refl (s : State) : Inside s s := ⟨.refl s, .refl s, rfl, fun _ => id, fun _ => rfl⟩

theorem Inside.trans {s t u : State} (h : Inside s t) (k : Inside t u) : Inside s u where
  toSteady := h.toSteady.trans k.toSteady
  grown := h.grown.trans k.grown
  frame := k.frame.trans h.frame
  outstanding p hp := h.outstanding p (k.outstanding p hp)
  out hs := by
    have ht := h.out hs
    have hu := k.out (by rw [ht]; exact hs)
    rw [hu, ht]

/-- An update that touches nothing of what is kept. -/
theorem Inside.same {s t : State} (hg : Grown s t) (hs : t.stops = s.stops) (hf : t.frame = s.frame)
    (ho : t.out = { s.out with faults := t.out.faults }) : Inside s t where
  toSteady := .same (by
    have ha := congrArg Frame.adv hf
    have hc := congrArg Frame.account hf
    have hr := congrArg StopView.ring hs
    simp only [State.frame, State.stops, Advance.mk.injEq] at ha hc hr
    simp only [State.meter, Meter.mk.injEq]
    exact ⟨ha.2.2.2.2.2.2.2.2.2.2.2.2.1, ha.2.2.2.1, ha.2.2.2.2.1, hr, hc⟩) hs
  grown := hg
  frame := hf
  outstanding p hp := by
    have : t.out.outstanding = s.out.outstanding := congrArg StopView.outstanding hs
    rwa [this] at hp
  out _ := ho

/-! The units a state's frame holds, one by one. -/

section
variable {s t : State}

theorem frame_adv (h : t.frame = s.frame) :
    t.adv = { s.adv with state := t.adv.state, cutter := t.adv.cutter, permitCopy := t.adv.permitCopy } := by
  have := congrArg Frame.adv h
  simp only [State.frame, Advance.mk.injEq] at this
  cases ht : t.adv
  simp_all

theorem frame_pres (h : t.frame = s.frame) :
    t.pres = { s.pres with setpoint := t.pres.setpoint, sOld := t.pres.sOld, muckTold := t.pres.muckTold } := by
  have := congrArg Frame.pres h
  simp only [State.frame, Pressure.mk.injEq] at this
  cases ht : t.pres
  simp_all

theorem frame_muck (h : t.frame = s.frame) : t.muck = s.muck := congrArg Frame.muck h

theorem frame_setup (h : t.frame = s.frame) (i : LineNo) : (t.line i).setup = (s.line i).setup := by
  have := congrArg (fun f => f.setups.get i) h
  simpa [State.frame, State.line] using this

theorem frame_ring (h : t.frame = s.frame) : t.ring = { s.ring with current := t.ring.current } := by
  have := congrArg Frame.ring h
  simp only [State.frame, Ring.mk.injEq] at this
  cases ht : t.ring
  simp_all

theorem frame_account (h : t.frame = s.frame) :
    t.ring.current.map Record.account = s.ring.current.map Record.account := congrArg Frame.account h

theorem frame_ports (h : t.frame = s.frame) : t.ports = s.ports := congrArg Frame.ports h

/-- The frame of an inner operation: no unit but those that inner operations act on. -/
theorem agree_of_frame (h : t.frame = s.frame) : AgreeBut (.link :: .lines :: .out :: permitReach) s t := by
  intro p hp
  cases p
  case muck => exact congrArg Frame.muck h
  case ports => exact congrArg Frame.ports h
  case hostLine => exact congrArg Frame.hostLine h
  case fieldLine => exact congrArg Frame.fieldLine h
  case tick => exact congrArg Frame.tick h
  case pending => exact congrArg Frame.pending h
  all_goals exact absurd hp (by simp [permitReach])

end

/-- The number of the current ring is not changed by an inner operation. -/
theorem frame_number {s t : State} (h : t.frame = s.frame) : t.ring.number = s.ring.number := by
  have ha := frame_account h
  unfold Ring.number
  cases ht : t.ring.current <;> cases hs : s.ring.current <;> simp_all [Record.account]

end Sys2Proof.Machine

/-! SUPPORT. The Advance Unit's operations, said once: what a refresh of the setpoints, a change of the advance state and
the telling of a permit do, and that a write to the Restriction Table keeps the laws. -/

namespace Sys2Proof.Machine

/-! ## Operations of the Advance Unit -/

/-- What every operation of the Advance Unit on its own state leaves alone. In NORMAL it may write the mode of groups
that no placement owns (R19, R117). -/
structure Calm (s t : State) : Prop where
  grown : Grown s t
  frame : t.frame = s.frame
  permit : t.permit = s.permit
  lines : t.lines = s.lines
  out : t.out = s.out
  owners : t.build.owners = s.build.owners
  step : t.build.step = s.build.step
  grant : t.build.grant = s.build.grant
  groups : ∀ g, t.build.groups.get g = s.build.groups.get g ∨
    (s.out.mode = .normal ∧ s.build.owners.get (sectorOf g) ≠ .build ∧
      (t.build.groups.get g = .push ∨ t.build.groups.get g = .hold))

theorem Calm.trans {s t u : State} (h : Calm s t) (k : Calm t u) : Calm s u where
  grown := h.grown.trans k.grown
  frame := k.frame.trans h.frame
  permit := k.permit.trans h.permit
  lines := k.lines.trans h.lines
  out := k.out.trans h.out
  owners := k.owners.trans h.owners
  step := k.step.trans h.step
  grant := k.grant.trans h.grant
  groups g := by
    rcases k.groups g with hk | ⟨hm, ho, hv⟩
    · rw [hk]; exact h.groups g
    · rw [h.out] at hm
      rw [h.owners] at ho
      exact .inr ⟨hm, ho, hv⟩

/-- An update outside the units that the laws of the stops speak of. -/
theorem Calm.same {s t : State} (hg : Grown s t) (hf : t.frame = s.frame) (hp : t.permit = s.permit)
    (hl : t.lines = s.lines) (ho : t.out = s.out) (hb : t.build = s.build) : Calm s t :=
  ⟨hg, hf, hp, hl, ho, by rw [hb], by rw [hb], by rw [hb], fun g => .inl (by rw [hb])⟩

theorem Calm.refl (s : State) : Calm s s := .same (.refl s) rfl rfl rfl rfl rfl

theorem Calm.ringState {s t : State} (c : Calm s t) : t.ring.state = s.ring.state := by
  rw [frame_ring c.frame]

theorem Calm.opened {s t : State} (c : Calm s t) : t.ring.current.isSome = s.ring.current.isSome := by
  have := congrArg Option.isSome (frame_account c.frame)
  simpa using this

/-- What of the laws does not speak of the advance, the cutter and the screw. -/
structure Founded (s : State) : Prop where
  permit : permitDerived s.permit
  timers : timersHeld s.lines
  current : s.ring.current.isSome = true ↔ s.ring.state ≠ .none
  owned : ∀ sec, s.build.owners.get sec = .build ↔ ∃ st, s.build.step = some st ∧ st.sector = sec
  modes : ∀ g, s.build.owners.get (sectorOf g) = .none → s.build.groups.get g = .push ∨ s.build.groups.get g = .hold

theorem Sound.founded {s : State} (h : Sound s) : Founded s := ⟨h.permit, h.timers, h.current, h.owned, h.modes⟩

theorem Calm.founded {s t : State} (c : Calm s t) (h : Founded s) : Founded t where
  permit := by rw [c.permit]; exact h.permit
  timers := by rw [c.lines]; exact h.timers
  current := by rw [c.opened, c.ringState]; exact h.current
  owned := by rw [c.owners, c.step]; exact h.owned
  modes g hg := by
    rw [c.owners] at hg
    rcases c.groups g with he | ⟨-, -, hv⟩
    · rw [he]; exact h.modes g hg
    · exact hv

/-- The duties that do not speak of the advance and the cutter are kept by an operation of the Advance Unit; the others
by what it makes of the two. -/
theorem Calm.duty {s t : State} (c : Calm s t) (hr : Duty.rest.met s → Duty.rest.met t)
    (ha : Duty.adv.met s → Duty.adv.met t) (hc : Duty.cutter.met s → Duty.cutter.met t) (d : Duty) :
    d.met s → d.met t := by
  cases d
  case rest => exact hr
  case adv => exact ha
  case cutter => exact hc
  case held =>
    intro h hm g hg
    rw [c.out] at hm
    rw [c.owners] at hg
    rcases c.groups g with he | ⟨hn, -, -⟩
    · rw [he]; exact h hm g hg
    · exact absurd hn hm
  all_goals
    simp only [Duty.met, OutputStops, stepRest, c.out, c.lines, c.step, c.grant, c.permit, c.ringState]
    exact id

/-! ## The setpoints (R19, R20) -/

/-- A refresh gives the groups of unowned sectors the mode of the advance, or leaves them (R19, R117). -/
theorem writeTarget_groups (s : State) (acc : Requests × Vector GroupState 16) (t : Target) (g : Fin 16) :
    (writeTarget s acc t).2.get g = acc.2.get g ∨
      (s.build.owners.get (sectorOf g) ≠ .build ∧ (writeTarget s acc t).2.get g = groupMode s.adv.state) := by
  unfold writeTarget
  cases hk : t.groupOf with
  | none =>
    dsimp only
    split
    · exact .inl rfl
    · exact .inl rfl
  | some k =>
    dsimp only
    split
    · exact .inl rfl
    · rename_i hw
      by_cases hkg : k = g
      · subst hkg
        exact .inr ⟨fun hb => hw (by simp [hb]), by simp⟩
      · exact .inl (get_put_ne _ hkg _)

theorem foldl_writeTarget_groups (s : State) (g : Fin 16) :
    ∀ (l : List Target) (acc : Requests × Vector GroupState 16),
      (l.foldl (writeTarget s) acc).2.get g = acc.2.get g ∨
        (s.build.owners.get (sectorOf g) ≠ .build ∧ (l.foldl (writeTarget s) acc).2.get g = groupMode s.adv.state)
  | [], _ => .inl rfl
  | t :: l, acc => by
    rcases foldl_writeTarget_groups s g l (writeTarget s acc t) with h | h
    · rcases writeTarget_groups s acc t g with k | k
      · exact .inl (h.trans k)
      · exact .inr ⟨k.1, h.trans k.2⟩
    · exact .inr h

theorem groupMode_push_or_hold (a : AdvState) : groupMode a = .push ∨ groupMode a = .hold := by
  cases a <;> simp [groupMode]

theorem calm_refresh (s : State) : Calm s (refresh s) where
  grown := .of_link rfl
  frame := rfl
  permit := rfl
  lines := rfl
  out := rfl
  owners := rfl
  step := rfl
  grant := rfl
  groups g := by
    change (setpoints s).2.get g = _ ∨ _ ∧ _ ∧ ((setpoints s).2.get g = _ ∨ (setpoints s).2.get g = _)
    unfold setpoints
    split
    · rename_i hm
      rcases foldl_writeTarget_groups s g (targets s.adv) (s.req, s.build.groups) with h | ⟨ho, h⟩
      · exact .inl h
      · refine .inr ⟨hm, ho, ?_⟩
        rw [h]
        exact groupMode_push_or_hold _
    · exact .inl rfl

@[simp] theorem refresh_pres (s : State) : (refresh s).pres = s.pres := rfl
@[simp] theorem refresh_permit (s : State) : (refresh s).permit = s.permit := rfl
@[simp] theorem refresh_muck (s : State) : (refresh s).muck = s.muck := rfl

/-! ## The change of the advance state (R20, R36, R49) -/

/-- The state as the advance's change leaves it before the setpoints follow. -/
def advanced (new : AdvState) (s : State) : State :=
  let old := s.adv.state
  let s := s.setAdv { s.adv with state := new }
  let s := if new = .held ∧ old ≠ .held then countHold s else s
  if old = .boring ∧ new ≠ .boring then pressureLeave s else s

theorem moveAdvance_eq (new : AdvState) (s : State) : moveAdvance new s = refresh (advanced new s) := rfl

@[simp] theorem moveAdvance_adv (new : AdvState) (s : State) :
    (moveAdvance new s).adv = { s.adv with state := new } := by
  rw [moveAdvance_eq, refresh_adv]
  unfold advanced
  dsimp only
  split <;> split <;> rfl

theorem moveAdvance_pres (new : AdvState) (s : State) :
    (moveAdvance new s).pres = if s.adv.state = .boring ∧ new ≠ .boring then
      { s.pres with setpoint := 0, sOld := 0 } else s.pres := by
  rw [moveAdvance_eq, refresh_pres]
  unfold advanced
  dsimp only
  split <;> split <;> rfl

theorem moveAdvance_ring (new : AdvState) (s : State) :
    (moveAdvance new s).ring = if new = .held ∧ s.adv.state ≠ .held then
      { s.ring with current := s.ring.current.map fun r => { r with holdCount := count16 r.holdCount } }
      else s.ring := by
  rw [moveAdvance_eq, refresh_ring]
  unfold advanced
  dsimp only
  split <;> split <;> rfl

/-- A contribution that leaves the accounted figures of the record alone. -/
theorem calm_contribute {f : Record → Record} (hf : ∀ r, (f r).account = r.account) (s : State) :
    Calm s (contribute f s) := by
  refine .same (.of_link rfl) ?_ rfl rfl rfl rfl
  have : (contribute f s).ring.current.map Record.account = s.ring.current.map Record.account := by
    simp only [contribute, State.setRing_ring, Option.map_map]
    exact congrArg (fun g => s.ring.current.map g) (funext hf)
  simp only [State.frame, this]
  rfl

theorem calm_advanced (new : AdvState) (s : State) : Calm s (advanced new s) := by
  have ha : Calm s (s.setAdv { s.adv with state := new }) := .same (.of_link rfl) rfl rfl rfl rfl rfl
  have hh : ∀ u, Calm u (countHold u) := fun u =>
    calm_contribute (f := fun r => { r with holdCount := count16 r.holdCount }) (fun _ => rfl) u
  have hl : ∀ u, Calm u (pressureLeave u) := fun u => .same (.of_link rfl) rfl rfl rfl rfl rfl
  unfold advanced
  dsimp only
  split <;> split
  · exact ha.trans ((hh _).trans (hl _))
  · exact ha.trans (hl _)
  · exact ha.trans (hh _)
  · exact ha

theorem calm_moveAdvance (new : AdvState) (s : State) : Calm s (moveAdvance new s) :=
  (calm_advanced new s).trans (calm_refresh _)

/-- The screw rests after any change of the advance state (R49). -/
theorem screwAtRest_moveAdvance {new : AdvState} {s : State} (h : screwAtRest s) : screwAtRest (moveAdvance new s) := by
  unfold screwAtRest
  rw [moveAdvance_adv, moveAdvance_pres]
  by_cases hn : new = .boring
  · exact .inl hn
  · right
    split
    · rfl
    · rename_i hb
      exact h.resolve_left fun hs => hb ⟨hs, hn⟩

/-! ## Stopping the advance and the cutter (R17, R18, R21) -/

/-- An advance in BORING or HELD becomes IDLE (R17, R18). -/
def AdvState.stopped (a : AdvState) : AdvState := if a.active then .idle else a

theorem stopAdvance_eq (s : State) :
    stopAdvance s = if s.adv.state.active then moveAdvance .idle s else s := by
  unfold stopAdvance
  cases h : s.adv.state <;> rfl

theorem stopAdvance_adv (s : State) : (stopAdvance s).adv = { s.adv with state := s.adv.state.stopped } := by
  rw [stopAdvance_eq, AdvState.stopped]
  split <;> simp

theorem stopAdvance_pres (s : State) :
    (stopAdvance s).pres = if s.adv.state = .boring then { s.pres with setpoint := 0, sOld := 0 } else s.pres := by
  rw [stopAdvance_eq]
  cases h : s.adv.state <;> simp [AdvState.active, moveAdvance_pres, h]

theorem stopAdvance_ring (s : State) : (stopAdvance s).ring = s.ring := by
  rw [stopAdvance_eq]
  split
  · simp [moveAdvance_ring]
  · rfl

theorem calm_stopAdvance (s : State) : Calm s (stopAdvance s) := by
  rw [stopAdvance_eq]
  split
  · exact calm_moveAdvance _ _
  · exact .refl s

theorem stopCutter_eq (s : State) :
    stopCutter s = if s.adv.cutter = .stopped then s
      else refresh (stopAdvance (s.setAdv { s.adv with cutter := .stopped })) := by
  unfold stopCutter
  cases h : s.adv.cutter <;> simp

theorem stopCutter_adv (s : State) :
    (stopCutter s).adv = { s.adv with
      cutter := .stopped, state := if s.adv.cutter = .stopped then s.adv.state else s.adv.state.stopped } := by
  rw [stopCutter_eq]
  split
  · rename_i h
    cases ha : s.adv
    simp_all
  · simp [stopAdvance_adv]

theorem stopCutter_pres (s : State) :
    (stopCutter s).pres = if s.adv.cutter ≠ .stopped ∧ s.adv.state = .boring then
      { s.pres with setpoint := 0, sOld := 0 } else s.pres := by
  rw [stopCutter_eq]
  by_cases h : s.adv.cutter = .stopped
  · simp [h]
  · simp only [h, if_false, refresh_pres, stopAdvance_pres, ne_eq, not_false_eq_true, true_and]
    rfl

theorem stopCutter_ring (s : State) : (stopCutter s).ring = s.ring := by
  rw [stopCutter_eq]
  split <;> simp [stopAdvance_ring]

theorem calm_stopCutter (s : State) : Calm s (stopCutter s) := by
  rw [stopCutter_eq]
  split
  · exact .refl s
  · have ha : Calm s (s.setAdv { s.adv with cutter := .stopped }) := .same (.of_link rfl) rfl rfl rfl rfl rfl
    exact ha.trans ((calm_stopAdvance _).trans (calm_refresh _))

theorem stopped_not_active (a : AdvState) : a.stopped.active = false := by cases a <;> rfl
theorem stopped_ne_boring (a : AdvState) : a.stopped ≠ .boring := by cases a <;> simp [AdvState.stopped, AdvState.active]
theorem stopped_complete_iff (a : AdvState) : a.stopped = .strokeComplete ↔ a = .strokeComplete := by
  cases a <;> simp [AdvState.stopped, AdvState.active]
theorem stopped_stopped (a : AdvState) : a.stopped.stopped = a.stopped := by cases a <;> rfl

/-! ## The telling of a permit (R17, R30) -/

/-- The advance state after a new permit has been told (R17; log 18). -/
def toldState (l : Level) (s : State) : AdvState :=
  match l with
  | .clear | .reduced => if s.adv.state = .held ∧ mayBore s = true then .boring else s.adv.state
  | .hold => if s.adv.state = .boring then .held else s.adv.state
  | .stop => s.adv.state.stopped

/-- The telling of a permit, case by case. -/
theorem tellPermit_eq (l : Level) (s : State) :
    tellPermit l s =
      let u := s.setAdv { s.adv with permitCopy := l }
      if l = .stop then refresh (stopCutter (stopAdvance u))
      else if toldState l s = s.adv.state then refresh u else moveAdvance (toldState l s) u := by
  have hb : mayBore (s.setAdv { s.adv with permitCopy := l }) = mayBore s := rfl
  unfold tellPermit toldState
  cases l <;> simp only [State.setAdv_adv, hb, Bool.and_eq_true, reduceCtorEq, if_false, if_true]
  case hold => by_cases h : s.adv.state = .boring <;> simp [h]
  all_goals
    by_cases h : s.adv.state = .held
    · by_cases hm : mayBore s = true <;> simp [h, hm]
    · simp [h]

theorem tellPermit_adv (l : Level) (s : State) :
    (tellPermit l s).adv = { s.adv with
      permitCopy := l, state := toldState l s, cutter := if l = .stop then .stopped else s.adv.cutter } := by
  rw [tellPermit_eq]
  dsimp only
  split
  · rename_i h
    subst h
    simp [stopCutter_adv, stopAdvance_adv, toldState, stopped_stopped]
  · rename_i h
    split
    · rename_i he
      simp [he]
    · simp

theorem calm_tellPermit (l : Level) (s : State) : Calm s (tellPermit l s) := by
  have hu : Calm s (s.setAdv { s.adv with permitCopy := l }) := .same (.of_link rfl) rfl rfl rfl rfl rfl
  rw [tellPermit_eq]
  dsimp only
  split
  · exact hu.trans ((calm_stopAdvance _).trans ((calm_stopCutter _).trans (calm_refresh _)))
  · split
    · exact hu.trans (calm_refresh _)
    · exact hu.trans (calm_moveAdvance _ _)

theorem tellPermit_pres (l : Level) (s : State) :
    (tellPermit l s).pres = if s.adv.state = .boring ∧ toldState l s ≠ .boring then
      { s.pres with setpoint := 0, sOld := 0 } else s.pres := by
  rw [tellPermit_eq]
  dsimp only
  split
  · rename_i h
    subst h
    simp only [refresh_pres, stopCutter_pres, stopAdvance_adv, stopAdvance_pres, State.setAdv_adv, State.setAdv_pres,
      stopped_ne_boring, and_false, if_false, toldState, ne_eq, not_false_eq_true, and_true]
    rfl
  · split
    · rename_i h he
      rw [he]
      simp
    · rw [moveAdvance_pres]
      rfl

theorem tellPermit_ring (l : Level) (s : State) :
    (tellPermit l s).ring = if toldState l s = .held ∧ s.adv.state ≠ .held then
      { s.ring with current := s.ring.current.map fun r => { r with holdCount := count16 r.holdCount } }
      else s.ring := by
  rw [tellPermit_eq]
  dsimp only
  split
  · rename_i h
    subst h
    have : ¬ toldState .stop s = .held := by
      unfold toldState
      cases s.adv.state <;> simp [AdvState.stopped, AdvState.active]
    simp [stopCutter_ring, stopAdvance_ring, this]
  · split
    · rename_i h he
      rw [he]
      simp
    · rw [moveAdvance_ring]
      rfl

theorem screwAtRest_tellPermit {l : Level} {s : State} (h : screwAtRest s) : screwAtRest (tellPermit l s) := by
  unfold screwAtRest
  rw [tellPermit_adv, tellPermit_pres]
  by_cases hn : toldState l s = .boring
  · exact .inl hn
  · right
    split
    · rfl
    · rename_i hb
      exact h.resolve_left fun hs => hb ⟨hs, hn⟩

/-- A new permit leads to BORING only below HOLD with the cutter TURNING (R14, R17). -/
theorem toldState_boring {l : Level} {s : State} (h : toldState l s = .boring) :
    l.rank < Level.rank .hold ∧ (s.adv.state = .boring ∨ mayBore s = true) := by
  unfold toldState at h
  cases l
  · refine ⟨by decide, ?_⟩
    by_cases hc : s.adv.state = .held ∧ mayBore s = true
    · exact .inr hc.2
    · rw [if_neg hc] at h; exact .inl h
  · refine ⟨by decide, ?_⟩
    by_cases hc : s.adv.state = .held ∧ mayBore s = true
    · exact .inr hc.2
    · rw [if_neg hc] at h; exact .inl h
  · by_cases hc : s.adv.state = .boring
    · simp [hc] at h
    · simp [hc] at h
  · exact absurd h (stopped_ne_boring _)

/-- No permit makes an advance at rest active, and none but STOP brings an active one to rest (R17). -/
theorem toldState_active (l : Level) (s : State) :
    ((toldState l s).active = true → s.adv.state.active = true)
      ∧ (l ≠ .stop → (toldState l s).active = s.adv.state.active) := by
  unfold toldState
  cases l <;> cases h : s.adv.state <;> by_cases hm : mayBore s = true <;>
    simp [hm, AdvState.active, AdvState.stopped]

theorem toldState_complete (l : Level) (s : State) :
    toldState l s = .strokeComplete ↔ s.adv.state = .strokeComplete := by
  unfold toldState
  cases l <;> cases h : s.adv.state <;> by_cases hm : mayBore s = true <;>
    simp [hm, AdvState.active, AdvState.stopped]

theorem toldState_idle {l : Level} {s : State} (h : s.adv.state = .idle) : toldState l s = .idle := by
  unfold toldState
  cases l <;> simp [h, AdvState.stopped, AdvState.active]

/-! ## A write to the Restriction Table -/

/-- The levels by rank. -/
theorem rank_inj {a b : Level} (h : a.rank = b.rank) : a = b := by
  cases a <;> cases b <;> simp_all [Level.rank]

theorem foldl_max_rank : ∀ (l : List REntry) (a : Level),
    (l.foldl (fun m e => m.max e.level) a).rank = (l.map fun e => e.level.rank).foldl Nat.max a.rank
  | [], _ => rfl
  | e :: l, a => by
    rw [List.foldl_cons, foldl_max_rank l, List.map_cons, List.foldl_cons]
    congr 1
    unfold Level.max
    split <;> simp only [Nat.max_def] <;> split <;> omega

theorem foldl_max_le_iff : ∀ (l : List Nat) (a b : Nat), l.foldl Nat.max a ≤ b ↔ a ≤ b ∧ ∀ x ∈ l, x ≤ b
  | [], _, _ => by simp
  | x :: l, a, b => by
    rw [List.foldl_cons, foldl_max_le_iff l]
    have : Nat.max a x ≤ b ↔ a ≤ b ∧ x ≤ b := Nat.max_le
    simp only [this, List.mem_cons, forall_eq_or_imp, and_assoc]

/-- The permit is no higher than a level when no entry is (R29). -/
theorem highest_le_iff (t : Vector REntry 8) (b : Nat) : (highest t).rank ≤ b ↔ ∀ i, (t.get i).level.rank ≤ b := by
  unfold highest
  rw [foldl_max_rank, foldl_max_le_iff]
  simp only [List.mem_map, forall_exists_index, and_imp, forall_apply_eq_imp_iff₂]
  constructor
  · rintro ⟨-, h⟩ i
    exact h _ (by simp [Vector.get_eq_getElem])
  · refine fun h => ⟨Nat.zero_le _, fun e he => ?_⟩
    obtain ⟨i, hi, rfl⟩ := List.getElem_of_mem he
    have := h ⟨i, by simpa using hi⟩
    simpa [Vector.get_eq_getElem] using this

theorem rank_le_three (l : Level) : l.rank ≤ 3 := by cases l <;> decide

theorem eq_stop_iff (l : Level) : l = .stop ↔ ¬ l.rank ≤ 2 := by cases l <;> decide

/-- The permit is STOP while an entry is (R29). -/
theorem highest_eq_stop_iff (t : Vector REntry 8) : highest t = .stop ↔ ∃ i, (t.get i).level = .stop := by
  rw [eq_stop_iff, highest_le_iff]
  push Not
  exact exists_congr fun i => by rw [eq_stop_iff]; omega

theorem write_table_get (p : Permit) (src : Source) (l : Level) (c : RCause) (ring x : Nat) (i : Fin 8) :
    (p.write src l c ring x).table.get i = if src.idx = i then (p.table.get i).write l c ring x else p.table.get i := by
  simp only [Permit.write, get_put]
  split
  · rename_i h
    rw [h]
  · rfl

theorem idx_injective {a b : Source} (h : a.idx = b.idx) : a = b := by
  cases a <;> cases b <;> (revert h; decide)

/-- A write to another entry leaves an entry at STOP, and so the permit. -/
theorem write_level_ne (p : Permit) {src src' : Source} (l : Level) (c : RCause) (ring x : Nat) (h : src ≠ src') :
    (p.write src l c ring x).table.get src'.idx = p.table.get src'.idx := by
  rw [write_table_get, if_neg fun hi => h (idx_injective hi)]

/-- A write below STOP does not bring a derived permit to STOP that was not there (R29). -/
theorem write_stop {p : Permit} {src : Source} {l : Level} {c : RCause} {ring x : Nat} (hp : permitDerived p)
    (hl : l ≠ .stop) (h : (p.write src l c ring x).level = .stop) : p.level = .stop := by
  have h' : highest (p.write src l c ring x).table = .stop := h
  rw [highest_eq_stop_iff] at h'
  obtain ⟨i, hi⟩ := h'
  rw [hp.1, highest_eq_stop_iff]
  refine ⟨i, ?_⟩
  rw [write_table_get] at hi
  split at hi
  · rw [(write_get _ _ _ _ _).1] at hi
    exact absurd hi hl
  · exact hi

/-- The state after the entry is written and the Advance Unit told, before the Pressure Unit is. -/
def permitWritten (src : Source) (l : Level) (c : RCause) (s : State) : State :=
  let new := s.permit.write src l c s.ring.number s.adv.x
  if new.level ≠ s.permit.level then
    report (.permit s.permit.level new.level new.deciding (new.table.get new.deciding.idx).cause s.ring.number s.adv.x)
      (tellPermit new.level (s.setPermit new))
  else s.setPermit new

theorem writeEntry_eq (src : Source) (l : Level) (c : RCause) (s : State) :
    writeEntry src l c s =
      if src = .muck ∧ (s.permit.table.get src.idx).level ≠ l then tellMuckLevel l (permitWritten src l c s)
      else permitWritten src l c s := by
  unfold writeEntry permitWritten
  dsimp only
  by_cases h : (s.permit.write src l c s.ring.number s.adv.x).level = s.permit.level
  · simp only [h, ne_eq, not_true_eq_false, if_false]
  · simp only [h, ne_eq, not_false_eq_true, if_true]
    rfl

/-- The advance after a write to the Restriction Table: told when the permit has changed (R30). -/
theorem permitWritten_adv (src : Source) (l : Level) (c : RCause) (s : State) :
    (permitWritten src l c s).adv =
      let new := (s.permit.write src l c s.ring.number s.adv.x).level
      if new ≠ s.permit.level then { s.adv with
        permitCopy := new, state := toldState new s, cutter := if new = .stop then .stopped else s.adv.cutter }
      else s.adv := by
  unfold permitWritten
  dsimp only
  split
  · exact tellPermit_adv _ _
  · rfl

/-- The record of the current ring after a write to the Restriction Table (R36). -/
theorem permitWritten_ring (src : Source) (l : Level) (c : RCause) (s : State) :
    (permitWritten src l c s).ring =
      let new := (s.permit.write src l c s.ring.number s.adv.x).level
      if new ≠ s.permit.level ∧ toldState new s = .held ∧ s.adv.state ≠ .held then
        { s.ring with current := s.ring.current.map fun r => { r with holdCount := count16 r.holdCount } }
      else s.ring := by
  unfold permitWritten
  dsimp only
  split
  · rename_i h
    simp only [h, ne_eq, not_false_eq_true, true_and]
    exact tellPermit_ring _ _
  · rename_i h
    simp only [h, ne_eq, false_and, if_false]
    rfl

theorem permitWritten_permit (src : Source) (l : Level) (c : RCause) (s : State) :
    (permitWritten src l c s).permit = s.permit.write src l c s.ring.number s.adv.x := by
  unfold permitWritten
  dsimp only
  split
  · exact (calm_tellPermit _ _).permit
  · rfl

theorem calm_report (r : Report) (s : State) : Calm s (report r s) :=
  .same (grown_report r s) rfl rfl rfl rfl rfl

/-- A write to the Restriction Table is, but for the permit, an operation of the Advance Unit. -/
theorem calm_permitWritten (src : Source) (l : Level) (c : RCause) (s : State) :
    Calm (s.setPermit (s.permit.write src l c s.ring.number s.adv.x)) (permitWritten src l c s) := by
  unfold permitWritten
  dsimp only
  split
  · exact (calm_tellPermit _ _).trans (calm_report _ _)
  · exact .refl _

theorem screwAtRest_permitWritten {src : Source} {l : Level} {c : RCause} {s : State} (h : screwAtRest s) :
    screwAtRest (permitWritten src l c s) := by
  unfold permitWritten
  dsimp only
  split
  · exact screwAtRest_tellPermit (s := s.setPermit _) h
  · exact h

/-- The conditions of mayBore, one by one (R14). -/
theorem mayBore_iff (s : State) :
    mayBore s = true ↔ s.ring.state = .boring ∧ s.out.mode = .normal ∧ s.adv.cutter ≠ .stopped := by
  simp [mayBore, and_assoc]

/-- A write to the Restriction Table keeps the laws: to OUTPUT, outside NORMAL, only at STOP (R34). -/
theorem inside_permitWritten {src : Source} {l : Level} {c : RCause} {s : State}
    (ho : src = .output → s.out.mode ≠ .normal → l = .stop) : Inside s (permitWritten src l c s) := by
  set new := s.permit.write src l c s.ring.number s.adv.x with hnew
  have hc : Calm (s.setPermit new) (permitWritten src l c s) := calm_permitWritten src l c s
  have ha := permitWritten_adv src l c s
  have hp := permitWritten_permit src l c s
  dsimp only at ha
  rw [← hnew] at ha hp
  have hframe : (permitWritten src l c s).frame = s.frame := hc.frame
  have hring : (permitWritten src l c s).ring.state = s.ring.state := hc.ringState
  have hout : (permitWritten src l c s).out = s.out := hc.out
  have hrest : Duty.rest.met s → Duty.rest.met (permitWritten src l c s) := fun h hr => by
    rw [hring] at hr
    rw [ha]
    split
    · exact toldState_idle (h hr)
    · exact h hr
  refine ⟨⟨⟨?_, ?_, hrest, ?_⟩, ?_, ?_⟩, (Grown.of_link (s := s) (t := s.setPermit new) rfl).trans hc.grown, hframe,
    ?_, ?_⟩
  · have hacc := frame_account hframe
    simp only [State.meter, Meter.mk.injEq]
    rw [ha]
    split <;> exact ⟨rfl, rfl, rfl, hring, hacc⟩
  · rw [ha]
    split
    · exact toldState_complete _ _
    · exact Iff.rfl
  · intro _
    rw [hp]
    exact permitDerived_write ..
  · intro h
    have hf : Founded (s.setPermit new) :=
      ⟨permitDerived_write .., h.timers, h.current, h.owned, h.modes⟩
    have hf' := hc.founded hf
    refine ⟨hf'.permit, ?_, ?_, ?_, hf'.timers, hf'.current, hf'.owned, hf'.modes, screwAtRest_permitWritten h.screw⟩
    · rw [ha, hp]
      split
      · rfl
      · rename_i he
        rw [h.copy]
        exact (not_not.mp he).symm
    · rw [ha, hp]
      split
      · intro hb
        exact (toldState_boring hb).1
      · rename_i he
        rw [not_not.mp he]
        exact h.below
    · rw [ha]
      split
      · intro hb
        obtain ⟨hl, hm⟩ := toldState_boring hb
        have hns : new.level ≠ .stop := fun e => by rw [e] at hl; exact absurd hl (by decide)
        simp only [if_neg hns]
        exact hm.elim h.turning fun hm => ((mayBore_iff s).mp hm).2.2
      · exact h.turning
  · intro h d hd
    by_cases hdo : d = .output
    · subst hdo
      intro hm
      rw [hout] at hm
      have hlev : ((permitWritten src l c s).permit.table.get Source.output.idx).level = .stop := by
        rw [hp]
        by_cases hsrc : src = .output
        · subst hsrc
          rw [hnew, write_table_get, if_pos rfl, (write_get _ _ _ _ _).1]
          exact ho rfl hm
        · rw [hnew, write_level_ne _ _ _ _ _ hsrc]
          exact (hd hm).1
      refine ⟨hlev, ?_⟩
      have hder : permitDerived (permitWritten src l c s).permit := by rw [hp]; exact permitDerived_write ..
      rw [hder.1, highest_eq_stop_iff]
      exact ⟨_, hlev⟩
    · have hd' : d.met (s.setPermit new) := by
        cases d
        case output => exact absurd rfl hdo
        all_goals exact hd
      refine hc.duty hrest ?_ ?_ d hd'
      · intro h' hm
        rw [hout] at hm
        rw [ha]
        split
        · have := (toldState_active new.level s).1
          rw [show s.adv.state.active = false from h' hm] at this
          exact Bool.eq_false_iff.mpr fun hc => absurd (this hc) (by simp)
        · exact h' hm
      · intro h' hm
        rw [hout] at hm
        rw [ha]
        split
        · rw [show s.adv.cutter = .stopped from h' hm, ite_self]
        · exact h' hm
  · rw [hout]
    exact fun _ => id
  · intro _
    rw [hout]

/-- The screw is set to 0, or while the advance is BORING, or lowered (R46, R48, R49). -/
theorem inside_setScrew {v : Nat} {s : State} (h : v = 0 ∨ s.adv.state = .boring ∨ v ≤ s.pres.setpoint) :
    Inside s (setScrew v s) where
  grown := .of_link rfl
  meter := rfl
  complete := Iff.rfl
  rests := id
  permit := id
  laws k := ⟨k.permit, k.copy, k.below, k.turning, k.timers, k.current, k.owned, k.modes,
    (inner_setScrew h).screw k.screw⟩
  duties _ d := by cases d <;> exact id
  frame := rfl
  outstanding _ := id
  out _ := rfl

theorem inside_tellMuckLevel (l : Level) (s : State) : Inside s (tellMuckLevel l s) := by
  have h0 : Inside s (s.setPres { s.pres with muckTold := l }) := .same (.of_link rfl) rfl rfl rfl
  unfold tellMuckLevel
  dsimp only
  split
  · rename_i hc
    exact h0.trans (inside_setScrew (.inr (.inr (le_of_lt hc))))
  · exact h0

theorem inside_writeEntry_output {src : Source} {l : Level} {c : RCause} {s : State}
    (ho : src = .output → s.out.mode ≠ .normal → l = .stop) : Inside s (writeEntry src l c s) := by
  rw [writeEntry_eq]
  split
  · exact (inside_permitWritten ho).trans (inside_tellMuckLevel _ _)
  · exact inside_permitWritten ho

/-- A write to an entry other than OUTPUT keeps the laws. -/
theorem inside_writeEntry {src : Source} (l : Level) (c : RCause) (s : State) (h : src ≠ .output) :
    Inside s (writeEntry src l c s) := inside_writeEntry_output fun he => absurd he h

theorem tellMuckLevel_adv (l : Level) (s : State) : (tellMuckLevel l s).adv = s.adv := by
  unfold tellMuckLevel
  dsimp only
  split <;> rfl

theorem tellMuckLevel_ring (l : Level) (s : State) : (tellMuckLevel l s).ring = s.ring := by
  unfold tellMuckLevel
  dsimp only
  split <;> rfl

theorem writeEntry_adv (src : Source) (l : Level) (c : RCause) (s : State) :
    (writeEntry src l c s).adv = (permitWritten src l c s).adv := by
  rw [writeEntry_eq]
  split
  · exact tellMuckLevel_adv _ _
  · rfl

theorem writeEntry_ring (src : Source) (l : Level) (c : RCause) (s : State) :
    (writeEntry src l c s).ring = (permitWritten src l c s).ring := by
  rw [writeEntry_eq]
  split
  · exact tellMuckLevel_ring _ _
  · rfl

/-- A write below STOP leaves an active advance active (R17, R29). -/
theorem writeEntry_active {src : Source} {l : Level} {c : RCause} {s : State} (hl : l ≠ .stop)
    (hp : permitDerived s.permit) : (writeEntry src l c s).adv.state.active = s.adv.state.active := by
  rw [writeEntry_adv, permitWritten_adv]
  dsimp only
  split
  · rename_i h
    refine (toldState_active _ s).2 fun hs => h ?_
    rw [hs, write_stop hp hl hs]
  · rfl

/-- Outside BORING and HELD, no write to the Restriction Table changes the advance state or the record. -/
theorem writeEntry_at_rest {src : Source} {l : Level} {c : RCause} {s : State} (h : s.adv.state.active = false) :
    (writeEntry src l c s).adv.state = s.adv.state ∧ (writeEntry src l c s).ring = s.ring := by
  rw [writeEntry_adv, permitWritten_adv, writeEntry_ring, permitWritten_ring]
  have ht : ∀ l', toldState l' s = s.adv.state := fun l' => by
    unfold toldState
    cases hs : s.adv.state <;> simp_all [AdvState.active] <;> cases l' <;> simp [AdvState.stopped, AdvState.active]
  have hh : s.adv.state ≠ .held := fun e => by simp [e, AdvState.active] at h
  dsimp only
  constructor
  · split
    · exact ht _
    · rfl
  · rw [if_neg]
    rw [ht]
    exact fun hc => hh hc.2.1

end Sys2Proof.Machine

/-! SUPPORT. The shared operations, the placement steps and the grout lines keep the laws. -/

namespace Sys2Proof.Machine

/-! ## Updates of one unit -/

theorem inside_setReq (v : Requests) (s : State) : Inside s (s.setReq v) := .same (.of_link rfl) rfl rfl rfl

theorem inside_report (r : Report) (s : State) : Inside s (report r s) := .same (grown_report r s) rfl rfl rfl

theorem inside_contribute {f : Record → Record} (hf : ∀ r, (f r).account = r.account) (s : State) :
    Inside s (contribute f s) := by
  refine .same (.of_link rfl) ?_ (calm_contribute hf s).frame rfl
  have : (contribute f s).ring.current.isSome = s.ring.current.isSome := (calm_contribute hf s).opened
  simp only [State.stops, this]
  rfl

theorem inside_placeItem (w : WaitItem) (s : State) : Inside s (placeItem w s).1 := inside_setReq _ _

/-- A fold of operations that keep the laws keeps them. -/
theorem inside_foldl {α : Type} {f : State → α → State} (h : ∀ s a, Inside s (f s a)) :
    ∀ (l : List α) (s : State), Inside s (l.foldl f s)
  | [], s => .refl s
  | a :: l, s => (h s a).trans (inside_foldl h l (f s a))

theorem steady_foldl {α : Type} {f : State → α → State} (h : ∀ s a, Steady s (f s a)) :
    ∀ (l : List α) (s : State), Steady s (l.foldl f s)
  | [], s => .refl s
  | a :: l, s => (h s a).trans (steady_foldl h l (f s a))

theorem steady_setTick (v : Nat) (s : State) : Steady s (s.setTick v) := .same rfl rfl

theorem steady_tellAll {fs : List (State → State)} (h : ∀ f ∈ fs, ∀ s, Steady s (f s)) (s : State) :
    Steady s (tellAll fs s) :=
  (steady_setTick _ _).trans
    (applyInOrder_keeps (fun t => Steady (s.setTick (s.tick + 1)) t) _ _ _ (fun f hf t ht => ht.trans (h f hf t)) _
      (.refl _))

/-! ## The Advance Unit -/

/-- An operation of the Advance Unit keeps the laws when it makes BORING only under R14's conditions and leaves the screw at
rest. -/
theorem Calm.laws {s t : State} (c : Calm s t) (hcopy : t.adv.permitCopy = s.adv.permitCopy)
    (hb : Sound s → t.adv.state = .boring → s.permit.level.rank < Level.rank .hold ∧ t.adv.cutter ≠ .stopped)
    (hs : screwAtRest s → screwAtRest t) (h : Sound s) : Sound t where
  permit := (c.founded h.founded).permit
  copy := by rw [hcopy, c.permit]; exact h.copy
  below k := by rw [c.permit]; exact (hb h k).1
  turning k := (hb h k).2
  timers := (c.founded h.founded).timers
  current := (c.founded h.founded).current
  owned := (c.founded h.founded).owned
  modes := (c.founded h.founded).modes
  screw := hs h.screw

/-- An operation of the Advance Unit that changes the advance state to IDLE at most keeps all that an inner operation
keeps. -/
theorem Calm.inside {s t : State} (c : Calm s t) (hadv : t.adv.permitCopy = s.adv.permitCopy)
    (hcut : s.adv.cutter = .stopped → t.adv.cutter = .stopped)
    (hst : t.adv.state = s.adv.state ∨ s.adv.state.active = true ∧ t.adv.state = .idle)
    (hb : t.adv.state = .boring → t.adv.cutter = s.adv.cutter)
    (hs : screwAtRest s → screwAtRest t) : Inside s t := by
  have hrest : Duty.rest.met s → Duty.rest.met t := fun h hr => by
    rw [c.ringState] at hr
    exact hst.elim (fun e => e.trans (h hr)) (·.2)
  refine ⟨⟨⟨?_, ?_, hrest, fun h => by rw [c.permit]; exact h⟩, c.laws hadv ?_ hs, fun _ => c.duty hrest ?_ ?_⟩,
    c.grown, c.frame, fun p hp => by rwa [c.out] at hp, fun _ => by rw [c.out]⟩
  · have ha := frame_adv c.frame
    have hc := frame_account c.frame
    simp only [State.meter, Meter.mk.injEq]
    exact ⟨by rw [ha], by rw [ha], by rw [ha], c.ringState, hc⟩
  · rcases hst with e | ⟨h1, h2⟩
    · rw [e]
    · rw [h2]
      cases hst : s.adv.state <;> simp_all [AdvState.active]
  · intro h k
    rcases hst with e | ⟨-, h2⟩
    · rw [e] at k
      exact ⟨h.below k, by rw [hb (e.trans k)]; exact h.turning k⟩
    · rw [h2] at k; exact absurd k nofun
  · intro h hm
    rw [c.out] at hm
    rcases hst with e | ⟨-, h2⟩
    · rw [e]; exact h hm
    · rw [h2]; rfl
  · intro h hm
    rw [c.out] at hm
    exact hcut (h hm)

theorem inside_refresh (s : State) : Inside s (refresh s) :=
  (calm_refresh s).inside rfl id (.inl rfl) (fun _ => rfl) id

theorem stopped_cases (a : AdvState) : a.stopped = a ∨ a.active = true ∧ a.stopped = .idle := by cases a <;> simp [AdvState.stopped, AdvState.active]

theorem screwAtRest_stopAdvance {s : State} (h : screwAtRest s) : screwAtRest (stopAdvance s) := by
  rw [stopAdvance_eq]
  split
  · exact screwAtRest_moveAdvance h
  · exact h

theorem inside_stopAdvance (s : State) : Inside s (stopAdvance s) := by
  refine (calm_stopAdvance s).inside ?_ ?_ ?_ ?_ screwAtRest_stopAdvance <;> rw [stopAdvance_adv]
  · exact id
  · exact stopped_cases _
  · exact fun _ => rfl

theorem screwAtRest_stopCutter {s : State} (h : screwAtRest s) : screwAtRest (stopCutter s) := by
  rw [stopCutter_eq]
  split
  · exact h
  · exact screwAtRest_stopAdvance (s := s.setAdv _) h

theorem inside_stopCutter (s : State) : Inside s (stopCutter s) := by
  refine (calm_stopCutter s).inside ?_ ?_ ?_ ?_ screwAtRest_stopCutter <;> rw [stopCutter_adv]
  · exact fun _ => rfl
  · dsimp only
    split
    · exact .inl rfl
    · exact stopped_cases _
  · dsimp only
    split
    · rename_i h
      exact fun _ => h.symm
    · exact fun h => absurd h (stopped_ne_boring _)

/-! ## The Fault List and the OUTPUT entry -/

theorem inside_handFault (f : FaultRec) (s : State) : Inside s (handFault f s) := by
  unfold handFault
  split
  · have h : Inside s (s.setOut { s.out with faults := s.out.faults ++ [f] }) := .same (.of_link rfl) rfl rfl rfl
    exact h.trans (inside_report _ _)
  · exact inside_writeEntry _ _ _ (by decide)

theorem inside_writeLevel {src : Source} (lc : Level × RCause) (s : State) (h : src ≠ .output) :
    Inside s (writeLevel src lc s) := inside_writeEntry _ _ s h

/-- Outside NORMAL the OUTPUT level is STOP (R34). -/
theorem outputLevel_stop {m : OutMode} (c : OutCause) (h : m ≠ .normal) : (outputLevel m c).1 = .stop := by
  cases m <;> simp_all [outputLevel]

theorem inside_tellOutput (s : State) : Inside s (tellOutput s) :=
  inside_writeEntry_output (src := .output) (l := (outputLevel s.out.mode s.out.cause).1) (s := s)
    fun _ h => outputLevel_stop s.out.cause h

/-! ## The placement step -/

/-- The step record changes within its sector; it enters a running state only from one, or in NORMAL. -/
theorem inside_setStep {st st' : Step} {s : State} (h : s.build.step = some st) (hsec : st'.sector = st.sector)
    (hrun : st'.state.running = true → st.state.running = true ∨ s.out.mode = .normal) :
    Inside s (setStep (some st') s) where
  grown := .of_link rfl
  meter := rfl
  complete := Iff.rfl
  rests := id
  permit := id
  laws k := by
    refine ⟨k.permit, k.copy, k.below, k.turning, k.timers, k.current, fun sec => ?_, k.modes, k.screw⟩
    have := k.owned sec
    simpa [setStep, h, hsec] using this
  duties _ d hd := by
    cases d
    case idle =>
      intro hr
      have := hd hr
      rw [h] at this
      exact absurd this nofun
    case step =>
      intro hm st'' hst''
      obtain rfl : st' = st'' := by simpa [setStep] using hst''
      by_contra hc
      rcases hrun (by simpa using hc) with hs | hs
      · have := hd hm st h
        rw [hs] at this
        exact absurd this nofun
      · exact hm hs
    all_goals exact hd
  frame := rfl
  outstanding _ := id
  out _ := rfl

theorem sectorOf_groups (sec : Fin 8) :
    sectorOf (sectorGroups sec).1 = sec ∧ sectorOf (sectorGroups sec).2 = sec := by
  constructor <;> simp only [sectorOf, sectorGroups, Fin.ext_iff] <;> omega

/-- The group states alone change: those of unowned sectors stay in PUSH or HOLD, and in HOLD outside NORMAL. -/
theorem inside_setGroupStates {v : Vector GroupState 16} {s : State}
    (hm : Sound s → ∀ g, s.build.owners.get (sectorOf g) = .none → v.get g = .push ∨ v.get g = .hold)
    (hh : Sound s → Duty.held.met s → s.out.mode ≠ .normal →
      ∀ g, s.build.owners.get (sectorOf g) = .none → v.get g = .hold) :
    Inside s (s.setBuild { s.build with groups := v }) where
  grown := .of_link rfl
  meter := rfl
  complete := Iff.rfl
  rests := id
  permit := id
  laws k := ⟨k.permit, k.copy, k.below, k.turning, k.timers, k.current, k.owned, hm k, k.screw⟩
  duties k d hd := by
    cases d
    case held => exact hh k hd
    all_goals exact hd
  frame := rfl
  outstanding _ := id
  out _ := rfl

/-- The groups of a sector alone change with setGroups (R116). -/
theorem setGroups_get (sec : Fin 8) (v : GroupState) (s : State) (g : Fin 16) :
    (setGroups sec v s).build.groups.get g = if sectorOf g = sec then v else s.build.groups.get g := by
  simp only [setGroups, State.setBuild_build, get_put, sectorGroups, sectorOf, Fin.ext_iff]
  have := g.isLt
  split
  · rw [if_pos (by omega)]
  · split
    · rw [if_pos (by omega)]
    · rw [if_neg (by omega)]

/-- The groups of the step's own sector change: BUILD owns it, and the law of the modes does not speak of them. -/
theorem inside_setGroups {st : Step} {s : State} (h : s.build.step = some st) (v : GroupState) :
    Inside s (setGroups st.sector v s) := by
  have hown : ∀ g, Sound s → s.build.owners.get (sectorOf g) = .none →
      (setGroups st.sector v s).build.groups.get g = s.build.groups.get g := fun g k hg => by
    rw [setGroups_get, if_neg]
    intro e
    have := (k.owned (sectorOf g)).mpr ⟨st, h, e.symm⟩
    rw [hg] at this
    exact absurd this nofun
  exact inside_setGroupStates (fun k g hg => (hown g k hg).symm ▸ k.modes g hg)
    (fun k hd hm g hg => (hown g k hg).trans (hd hm g hg))

theorem inside_withdrawStep (st : Step) (s : State) : Inside s (withdrawStep st s) := by
  unfold withdrawStep
  split
  · exact inside_setReq _ _
  · exact inside_setReq _ _
  · exact .refl s
  · exact .refl s

theorem withdrawStep_build (st : Step) (s : State) : (withdrawStep st s).build = s.build := by
  unfold withdrawStep
  split <;> rfl

theorem inside_stepFault (c : StepCause) (s : State) : Inside s (stepFault c s) := by
  unfold stepFault
  split
  · exact .refl s
  · rename_i st h
    split
    · have hw := inside_withdrawStep st s
      have hs : Inside (withdrawStep st s) (setStep (some (st.faulted c)) (withdrawStep st s)) :=
        inside_setStep (st := st) (by rw [withdrawStep_build]; exact h) rfl
          (fun hr => by simp [Step.faulted, StepState.running] at hr)
      exact hw.trans (hs.trans (Inside.trans (inside_handFault _ _) (inside_report _ _)))
    · exact .refl s

theorem placeItem_build (w : WaitItem) (s : State) : (placeItem w s).1.build = s.build := rfl

theorem inside_issuePhase (s : State) : Inside s (issuePhase s) := by
  unfold issuePhase
  split
  · exact .refl s
  · rename_i st h
    dsimp only
    split
    · exact inside_stepFault _ _
    · have hp := inside_placeItem ⟨.build, phasePort st.state st.sector, .action (phaseAction st)⟩ s
      split
      · exact hp.trans (inside_setStep (st := st) h rfl .inl)
      · exact hp.trans (inside_setStep (st := st) h rfl .inl)
      · exact hp.trans (inside_stepFault _ _)

theorem inside_enterPhase {st st' : Step} {state : StepState} {v : GroupState} {s : State}
    (h : s.build.step = some st) (hsec : st'.sector = st.sector)
    (hrun : st.state.running = true ∨ s.out.mode = .normal) : Inside s (enterPhase st' state v s) := by
  have hg : Inside s (setGroups st'.sector v s) := by
    rw [hsec]
    exact inside_setGroups h v
  unfold enterPhase
  refine hg.trans (Inside.trans ?_ (inside_issuePhase _))
  exact inside_setStep (st := st) h hsec fun _ => hrun

theorem inside_stepRegistered (n : Nat) (s : State) : Inside s (stepRegistered n s) := by
  unfold stepRegistered
  split
  · exact .refl s
  · rename_i st h
    split
    · exact inside_setStep h rfl .inl
    · exact .refl s

theorem inside_stepOutcome (n : Option Nat) (o : ReqOutcome) (s : State) : Inside s (stepOutcome n o s) := by
  unfold stepOutcome
  split
  · exact .refl s
  · rename_i st h
    split
    · split
      · exact inside_setStep h rfl .inl
      all_goals exact inside_stepFault _ _
    · exact .refl s

theorem inside_phaseTimeout (s : State) : Inside s (phaseTimeout s) := by
  unfold phaseTimeout
  split
  · exact .refl s
  · split
    · exact inside_stepFault _ _
    · exact .refl s

theorem inside_loseStepPort (p : PortNo) (s : State) : Inside s (loseStepPort p s) := by
  unfold loseStepPort
  split
  · exact .refl s
  · split
    · exact inside_stepFault _ _
    · exact .refl s

/-- The grant alone of the Build Sequencer changes: freed, or taken in NORMAL. -/
theorem inside_setGrant {v : Grant} {s : State} (h : v = .free ∨ s.out.mode = .normal) :
    Inside s (s.setBuild { s.build with grant := v }) where
  grown := .of_link rfl
  meter := rfl
  complete := Iff.rfl
  rests := id
  permit := id
  laws k := ⟨k.permit, k.copy, k.below, k.turning, k.timers, k.current, k.owned, k.modes, k.screw⟩
  duties _ d hd := by
    cases d
    case grant => exact fun hm => h.resolve_right hm
    all_goals exact hd
  frame := rfl
  outstanding _ := id
  out _ := rfl

theorem inside_endGrant (c : GrantCause) (s : State) : Inside s (endGrant c s) := by
  unfold endGrant
  split
  · exact .refl s
  · exact (inside_setGrant (.inl rfl)).trans (inside_report _ _)

theorem inside_loseGrantPort (p : PortNo) (s : State) : Inside s (loseGrantPort p s) := by
  unfold loseGrantPort
  split
  · exact inside_endGrant _ _
  · exact .refl s

/-- The groups of the unowned sectors after holdUnowned (R117). -/
theorem holdUnowned_get (s : State) (g : Fin 16) :
    (holdUnowned s).build.groups.get g =
      if s.build.owners.get (sectorOf g) = .none then .hold else s.build.groups.get g := by
  simp [holdUnowned, Vector.get_eq_getElem]

theorem inside_holdUnowned (s : State) : Inside s (holdUnowned s) := by
  have h : ∀ g, s.build.owners.get (sectorOf g) = .none → (holdUnowned s).build.groups.get g = .hold := fun g hg => by
    rw [holdUnowned_get, if_pos hg]
  exact inside_setGroupStates (fun _ g hg => .inr (h g hg)) (fun _ _ _ => h)

theorem inside_clampBuild (c : StepCause) (s : State) : Inside s (clampBuild c s) :=
  (inside_stepFault c s).trans (inside_holdUnowned _)

/-- The step, the owners and the groups of a Build Sequencer with no step. -/
def Build.freed (b : Build) : Build :=
  { b with step := none, owners := Vector.replicate 8 .none, groups := Vector.replicate 16 .hold }

@[simp] theorem get_replicate {α : Type} {n : Nat} (x : α) (i : Fin n) : (Vector.replicate n x).get i = x := by
  simp [Vector.get_eq_getElem]

theorem inside_freed (s : State) : Inside s (s.setBuild s.build.freed) where
  grown := .of_link rfl
  meter := rfl
  complete := Iff.rfl
  rests := id
  permit := id
  laws k := ⟨k.permit, k.copy, k.below, k.turning, k.timers, k.current,
    fun sec => by simp [Build.freed], fun g _ => .inr (by simp [Build.freed]), k.screw⟩
  duties _ d hd := by
    cases d
    case idle => exact fun _ => rfl
    case step => exact fun _ st h => absurd h nofun
    case held => exact fun _ g _ => by simp [Build.freed]
    all_goals exact hd
  frame := rfl
  outstanding _ := id
  out _ := rfl

/-- The step's request as restBuild withdraws it. -/
def withdrawAny (s : State) : State :=
  match s.build.step with
  | none => s
  | some st => withdrawStep st s

theorem inside_withdrawAny (s : State) : Inside s (withdrawAny s) := by
  unfold withdrawAny
  split
  · exact .refl s
  · exact inside_withdrawStep _ _

theorem restBuild_eq (s : State) :
    restBuild s = refresh ((withdrawAny (endGrant .ring s)).setBuild (withdrawAny (endGrant .ring s)).build.freed) :=
  rfl

theorem inside_restBuild (s : State) : Inside s (restBuild s) := by
  rw [restBuild_eq]
  exact (inside_endGrant _ _).trans ((inside_withdrawAny _).trans ((inside_freed _).trans (inside_refresh _)))

/-! ## The lines -/

theorem map_setup_put {s : State} {i : LineNo} {l : Line} (h : l.setup = (s.line i).setup) :
    (put s.lines i l).map Line.setup = s.lines.map Line.setup := by
  ext j hj : 1
  simp only [Vector.getElem_map, put, Vector.getElem_set]
  split
  · rename_i hij
    subst hij
    exact h
  · rfl

/-- A line's record changes: it stays in its state or leaves the running states with no timer, and it enters a running
state only in NORMAL. -/
theorem steady_setLine {i : LineNo} {l : Line} {s : State}
    (ht : l.state.running = true ∨ l.timer = none ∨ (l.state = (s.line i).state ∧ l.timer = (s.line i).timer))
    (hr : Sound s → l.state.running = true → (s.line i).state.running = true ∨ s.out.mode = .normal) :
    Steady s (setLine i l s) where
  meter := rfl
  complete := Iff.rfl
  rests := id
  permit := id
  laws k := by
    refine ⟨k.permit, k.copy, k.below, k.turning, fun j => ?_, k.current, k.owned, k.modes, k.screw⟩
    change ((put s.lines i l).get j).state.running = true ∨ ((put s.lines i l).get j).timer = none
    rw [get_put]
    split
    · rcases ht with h | h | ⟨h1, h2⟩
      · exact .inl h
      · exact .inr h
      · rw [h1, h2]; exact k.timers i
    · exact k.timers j
  duties k d hd := by
    cases d
    case lines =>
      intro hm j
      change ((put s.lines i l).get j).state.running = false
      rw [get_put]
      split
      · by_contra hc
        rcases hr k (by simpa using hc) with h1 | h1
        · exact absurd (h1.symm.trans (hd hm i)) nofun
        · exact hm h1
      · exact hd hm j
    all_goals exact hd

theorem inside_setLine {i : LineNo} {l : Line} {s : State} (hs : l.setup = (s.line i).setup)
    (ht : l.state.running = true ∨ l.timer = none ∨ (l.state = (s.line i).state ∧ l.timer = (s.line i).timer))
    (hr : Sound s → l.state.running = true → (s.line i).state.running = true ∨ s.out.mode = .normal) :
    Inside s (setLine i l s) where
  toSteady := steady_setLine ht hr
  grown := .of_link rfl
  frame := by
    simp only [State.frame, setLine, State.setLines_lines, map_setup_put hs]
    rfl
  outstanding _ := id
  out _ := rfl

/-- A line's figures, phase or mode change, and neither its state nor its timer. -/
theorem inside_setLine_same {i : LineNo} {l : Line} {s : State} (hs : l.setup = (s.line i).setup)
    (h1 : l.state = (s.line i).state) (h2 : l.timer = (s.line i).timer) : Inside s (setLine i l s) :=
  inside_setLine hs (.inr (.inr ⟨h1, h2⟩)) fun _ h => .inl (h1 ▸ h)

/-- A line comes to rest within its state (R84). -/
theorem inside_setLine_rest (i : LineNo) (s : State) : Inside s (setLine i (s.line i).rest s) :=
  inside_setLine rfl (.inr (.inl rfl)) fun _ h => .inl h

/-- A move of a line: into a running state from one or in NORMAL, or with no timer (R94). -/
theorem inside_moveLine {i : LineNo} {state : LineState} {mode : LineMode} {c : LineCause} {s : State}
    (ht : state.running = true ∨ (s.line i).timer = none)
    (hr : Sound s → state.running = true → (s.line i).state.running = true ∨ s.out.mode = .normal) :
    Inside s (moveLine i state mode c s) := by
  have h : Inside s (setLine i { s.line i with state := state, mode := mode } s) :=
    inside_setLine rfl (ht.imp_right .inl) hr
  unfold moveLine
  dsimp only
  split
  · exact h
  · exact h.trans (inside_report _ _)

/-- A line with no timer moves to a state that is not running (R86, R94). -/
theorem inside_moveLine_off {i : LineNo} {state : LineState} (mode : LineMode) (c : LineCause) {s : State}
    (hst : state.running = false) (ht : (s.line i).timer = none) : Inside s (moveLine i state mode c s) :=
  inside_moveLine (.inr ht) fun _ h => absurd (hst.symm.trans h) nofun

theorem line_setLine_self (i : LineNo) (l : Line) (s : State) : (setLine i l s).line i = l := by simp

theorem moveLine_line (i j : LineNo) (state : LineState) (mode : LineMode) (c : LineCause) (s : State) :
    (moveLine i state mode c s).line j =
      if i = j then { s.line i with state := state, mode := mode } else s.line j := by
  unfold moveLine
  dsimp only
  split <;> exact line_setLine _ _ _ _

theorem inside_writeGrout (s : State) : Inside s (writeGrout s) := inside_writeLevel (src := .grout) _ s (by decide)

theorem steady_setLines_map {f : Line → Line} (h : ∀ l, (f l).state = l.state ∧ (f l).timer = l.timer) (s : State) :
    Steady s (s.setLines (s.lines.map f)) where
  meter := rfl
  complete := Iff.rfl
  rests := id
  permit := id
  laws k := by
    refine ⟨k.permit, k.copy, k.below, k.turning, fun j => ?_, k.current, k.owned, k.modes, k.screw⟩
    simp only [State.setLines_lines, get_map, (h _).1, (h _).2]
    exact k.timers j
  duties k d hd := by
    cases d
    case lines =>
      intro hm j
      simp only [State.setLines_lines, get_map, (h _).1]
      exact hd hm j
    all_goals exact hd

theorem inside_clearRemainders (s : State) : Inside s (clearRemainders s) := by
  have h : Inside s (s.setLines (s.lines.map fun l => { l with rem := 0 })) := by
    refine ⟨steady_setLines_map (f := fun l => { l with rem := 0 }) (fun _ => ⟨rfl, rfl⟩) s, .of_link rfl, ?_,
      fun _ => id, fun _ => rfl⟩
    simp only [State.frame, State.setLines_lines, Vector.map_map]
    rfl
  unfold clearRemainders
  refine h.trans (inside_contribute ?_ _)
  exact fun _ => by simp only [Record.account]

theorem inside_faultLine (i : LineNo) (f : FaultFormat) (c : FaultCause) (t : LineCause) (s : State) :
    Inside s (faultLine i f c t s) := by
  unfold faultLine
  exact (inside_handFault _ _).trans ((inside_setLine_rest _ _).trans
    (inside_moveLine_off _ _ rfl (by rw [line_setLine_self]; rfl)))

theorem inside_loseLine (i : LineNo) (s : State) : Inside s (loseLine i s) := by
  have h : Inside s (setLine i { s.line i with phase := .none } s) := inside_setLine_same rfl rfl rfl
  unfold loseLine
  dsimp only
  split
  · exact h
  · exact h.trans (inside_setLine_rest _ _)
  all_goals exact h.trans (inside_faultLine _ _ _ _ _)

theorem inside_losePump (p : PortNo) (s : State) : Inside s (losePump p s) :=
  (inside_foldl (fun s i => inside_loseLine i s) _ _).trans (inside_writeGrout _)

theorem inside_issueStroke (i : LineNo) (s : State) : Inside s (issueStroke i s) := by
  have hp := inside_placeItem ⟨.grout, pumpPort i, .action (.stroke i (s.line i).vs)⟩ s
  unfold issueStroke
  dsimp only
  split
  · exact hp.trans (inside_setLine_same rfl rfl rfl)
  · exact hp.trans (inside_setLine_same rfl rfl rfl)
  · exact hp.trans (inside_losePump _ _)

theorem inside_checkStroke (i : LineNo) (s : State) : Inside s (checkStroke i s) := by
  unfold checkStroke
  split
  · exact inside_issueStroke _ _
  · exact .refl s

theorem inside_strokeOutcome (i : LineNo) (n : Option Nat) (o : ReqOutcome) (s : State) :
    Inside s (strokeOutcome i n o s) := by
  have hn : Inside s (setLine i { s.line i with phase := .none } s) := inside_setLine_same rfl rfl rfl
  have hfail : Inside s (match strokeFailure o with
      | some (cause, told) =>
        if (s.line i).state.running then
          writeGrout (faultLine i .actionFailed cause told (setLine i { s.line i with phase := .none } s))
        else setLine i { s.line i with phase := .none } s
      | none => setLine i { s.line i with phase := .none } s) := by
    split
    · split
      · exact hn.trans ((inside_faultLine _ _ _ _ _).trans (inside_writeGrout _))
      · exact hn
    · exact hn
  unfold strokeOutcome
  dsimp only
  split
  · exact .refl s
  · cases o with
    | done v => exact inside_setLine_same rfl rfl rfl
    | portLost => exact inside_losePump _ _
    | cancelled => exact hn.trans (inside_checkStroke _ _)
    | refused r => exact hfail
    | busyExhausted => exact hfail
    | noAnswer => exact hfail

theorem inside_strokeRegistered (i : LineNo) (n : Nat) (s : State) : Inside s (strokeRegistered i n s) := by
  unfold strokeRegistered
  split
  · exact inside_setLine_same rfl rfl rfl
  · exact .refl s

theorem inside_strokeTimeout (i : LineNo) (s : State) : Inside s (strokeTimeout i s) := by
  unfold strokeTimeout
  split
  · have h : Inside s (setLine i { s.line i with phase := .overdue } s) := inside_setLine_same rfl rfl rfl
    exact h.trans ((inside_faultLine _ _ _ _ _).trans (inside_writeGrout _))
  all_goals exact .refl s

theorem inside_shareLine (q w : Nat) (i : LineNo) (s : State) : Inside s (shareLine q w i s) := by
  unfold shareLine
  dsimp only
  split
  · refine Inside.trans (t := setLine i { s.line i with
        rem := (q * (s.line i).weight + (s.line i).rem) % w
        backlog := min ((s.line i).backlog + (q * (s.line i).weight + (s.line i).rem) / w) (s.line i).limit } s)
      (inside_setLine_same rfl rfl rfl) (inside_contribute ?_ _)
    exact fun _ => by simp only [Record.account]
  · exact .refl s

/-- The lines that track check for a stroke, lines ascending (R75). -/
def checkTracking (s : State) : State :=
  (List.finRange 6).foldl (fun s i => if (s.line i).mode = .track then checkStroke i s else s) s

theorem inside_checkTracking (s : State) : Inside s (checkTracking s) :=
  inside_foldl (fun s i => by
    split
    · exact inside_checkStroke _ _
    · exact .refl s) _ _

theorem takeDemand_eq (q : Nat) (s : State) :
    takeDemand q s = writeGrout (checkTracking (
      if trackWeight s.lines = 0 then contribute (fun r => { r with unassigned := sat32 r.unassigned q }) s
      else (List.finRange 6).foldl (fun t i => shareLine q (trackWeight s.lines) i t) s)) := rfl

theorem inside_takeDemand (q : Nat) (s : State) : Inside s (takeDemand q s) := by
  rw [takeDemand_eq]
  refine Inside.trans ?_ ((inside_checkTracking _).trans (inside_writeGrout _))
  split
  · refine inside_contribute ?_ _
    exact fun _ => by simp only [Record.account]
  · exact inside_foldl (fun s i => inside_shareLine _ _ i s) _ _

theorem inside_dropStroke (i : LineNo) (s : State) : Inside s (dropStroke i s) := by
  have hline : ∀ r : Requests, Inside s (setLine i { (s.setReq r).line i with phase := .none } (s.setReq r)) := fun r =>
    (inside_setReq r s).trans (inside_setLine_same rfl rfl rfl)
  unfold dropStroke
  split
  · exact hline _
  · split
    · exact .refl s
    · exact hline _
  all_goals exact .refl s

theorem dropStroke_timer (i : LineNo) (s : State) : ((dropStroke i s).line i).timer = (s.line i).timer := by
  unfold dropStroke
  split
  · rw [line_setLine_self]
  · split
    · rfl
    · rw [line_setLine_self]
  all_goals rfl

theorem inside_leaveTrack (i : LineNo) (s : State) : Inside s (leaveTrack i s) := by
  unfold leaveTrack
  split
  · exact inside_clearRemainders _
  · exact .refl s

theorem leaveTrack_timer (i : LineNo) (s : State) : ((leaveTrack i s).line i).timer = (s.line i).timer := by
  unfold leaveTrack
  split
  · simp [clearRemainders, contribute, State.line]
  · rfl

theorem inside_stopLine (i : LineNo) (s : State) : Inside s (stopLine i s) := by
  unfold stopLine
  exact (inside_setLine_rest i s).trans ((inside_dropStroke _ _).trans ((inside_leaveTrack _ _).trans
    (inside_moveLine_off _ _ rfl (by rw [leaveTrack_timer, dropStroke_timer, line_setLine_self]; rfl))))

theorem inside_clampGrout (s : State) : Inside s (clampGrout s) :=
  (inside_foldl (fun s i => by
    split
    · exact inside_stopLine _ _
    · exact .refl s) _ _).trans (inside_writeGrout _)

theorem inside_resetLine (i : LineNo) (s : State) : Inside s (resetLine i s) := by
  unfold resetLine
  exact (inside_setLine (l := { (s.line i).rest with backlog := 0, rem := 0, phase := .none }) rfl (.inr (.inl rfl))
    fun _ h => .inl h).trans (inside_moveLine_off _ _ rfl (by rw [line_setLine_self]; rfl))

theorem inside_resetGrout (s : State) : Inside s (resetGrout s) :=
  (inside_foldl (fun s i => inside_resetLine i s) _ _).trans (inside_writeGrout _)

end Sys2Proof.Machine

/-! SUPPORT. The Request Unit, the Muck Balance Unit, the Output Unit's safe writes and the Port Manager keep the laws. -/

namespace Sys2Proof.Machine

/-! ## The outcomes of requests -/

/-- The Output Unit changes its mode outside NORMAL, or its outstanding set, so that CLAMPING stays the mode of an
outstanding write. -/
theorem steady_setOut {v : Output} {s : State} (hm : v.mode = .normal ↔ s.out.mode = .normal)
    (hc : Duty.clamping.met s → (v.mode = .clamping ↔ ∃ p, v.outstanding.get p = true)) : Steady s (s.setOut v) where
  meter := rfl
  complete := Iff.rfl
  rests := id
  permit := id
  laws k := ⟨k.permit, k.copy, k.below, k.turning, k.timers, k.current, k.owned, k.modes, k.screw⟩
  duties _ d hd := by
    cases d
    case rest => exact hd
    case idle => exact hd
    case clamping => exact hc hd
    all_goals exact fun h => hd (mt hm.mpr h)

/-- No safe write is outstanding. -/
theorem outstandingCount_eq_zero_iff (o : Output) : o.outstandingCount = 0 ↔ ∀ p, o.outstanding.get p = false := by
  simp only [Output.outstandingCount, List.length_eq_zero_iff, List.filter_eq_nil_iff, id_eq, Bool.not_eq_true]
  constructor
  · exact fun h p => h _ (by simp [Vector.get_eq_getElem])
  · intro h b hb
    obtain ⟨i, hi, rfl⟩ := List.getElem_of_mem hb
    have := h ⟨i, by simpa using hi⟩
    simpa [Vector.get_eq_getElem] using this

theorem outstandingCount_ne_zero_iff (o : Output) : o.outstandingCount ≠ 0 ↔ ∃ p, o.outstanding.get p = true := by
  rw [ne_eq, outstandingCount_eq_zero_iff]
  simp

theorem inside_leaveOutstanding (p : PortNo) (s : State) : Inside s (leaveOutstanding p s) := by
  have hput : ∀ q, (put s.out.outstanding p false).get q = true → s.out.outstanding.get q = true := fun q => by
    rw [get_put]
    split
    · exact fun h => absurd h nofun
    · exact id
  unfold leaveOutstanding
  split
  · rename_i hp
    have hall : ¬ ∀ q, s.out.outstanding.get q = false := fun h => absurd (hp.symm.trans (h p)) nofun
    dsimp only
    split
    · rename_i hc
      have h : Inside s (s.setOut { s.out with outstanding := put s.out.outstanding p false, mode := .clamped }) := by
        refine ⟨steady_setOut ?_ fun _ => ?_, .of_link rfl, rfl, hput, fun h => absurd h hall⟩
        · simp [show s.out.mode = .clamping from hc.1]
        · have := (outstandingCount_eq_zero_iff _).mp hc.2
          simp only [State.setOut_out] at this
          simp [this]
      exact h.trans ((inside_tellOutput _).trans (inside_report _ _))
    · rename_i hc
      refine ⟨steady_setOut Iff.rfl fun hd => ?_, .of_link rfl, rfl, hput, fun h => absurd h hall⟩
      have hm : s.out.mode = .clamping := hd.mpr ⟨p, hp⟩
      refine ⟨fun _ => (outstandingCount_ne_zero_iff _).mp fun h0 => hc ⟨hm, h0⟩, fun _ => hm⟩
  · exact .refl s

theorem inside_safeOutcome (p : PortNo) (k : ReqKind) (o : ReqOutcome) (s : State) : Inside s (safeOutcome p k o s) := by
  unfold safeOutcome
  refine Inside.trans ?_ (inside_leaveOutstanding _ _)
  split
  · exact .refl s
  · exact inside_handFault _ _
  · exact .refl s

theorem inside_askIdentify (p : PortNo) (s : State) : Inside s (askIdentify p s) := by
  unfold askIdentify
  split
  · exact inside_placeItem _ _
  · exact .refl s

theorem inside_recordFailure (e : Entry) (o : ReqOutcome) (s : State) : Inside s (recordFailure e o s) := by
  unfold recordFailure
  split
  · exact .refl s
  · exact inside_handFault _ _

theorem inside_handOutcome (e : Entry) (o : ReqOutcome) (s : State) : Inside s (handOutcome e o s) := by
  unfold handOutcome
  split
  · exact inside_report _ _
  · exact .refl s
  · exact .refl s
  · split
    · exact inside_strokeOutcome _ _ _ _
    · exact .refl s
  · exact inside_stepOutcome _ _ _
  · split
    · exact inside_askIdentify _ _
    · exact .refl s
  · exact inside_safeOutcome _ _ _ _

theorem inside_endEntry (e : Entry) (o : ReqOutcome) (s : State) : Inside s (endEntry e o s) :=
  (inside_setReq _ _).trans ((inside_recordFailure _ _ _).trans (inside_handOutcome _ _ _))

theorem inside_completeFirst (q : Entry → Bool) (o : ReqOutcome) (s : State) : Inside s (completeFirst q o s) := by
  unfold completeFirst
  split
  · exact .refl s
  · exact (inside_setReq _ _).trans (inside_endEntry _ _ _)

theorem inside_completeAll (q : Entry → Bool) (o : ReqOutcome) (s : State) : Inside s (completeAll q o s) :=
  inside_foldl (fun s _ => inside_completeFirst _ o s) _ _

theorem inside_endItem (w : WaitItem) (o : ReqOutcome) (s : State) : Inside s (endItem w o s) := by
  unfold endItem
  split
  · split
    · exact inside_strokeOutcome _ _ _ _
    · exact .refl s
  · exact inside_stepOutcome _ _ _
  · exact (inside_setReq _ _).trans (inside_safeOutcome _ _ _ _)
  all_goals exact .refl s

theorem inside_completeWaits (q : WaitItem → Bool) (o : ReqOutcome) (s : State) : Inside s (completeWaits q o s) :=
  (inside_setReq _ _).trans (inside_foldl (fun s w => inside_endItem w o s) _ _)

theorem inside_loseRequests (p : PortNo) (s : State) : Inside s (loseRequests p s) :=
  (inside_completeAll _ _ _).trans ((inside_completeWaits _ _ _).trans (inside_setReq _ _))

theorem inside_clampRequests (s : State) : Inside s (clampRequests s) :=
  (inside_completeAll _ _ _).trans ((inside_completeWaits _ _ _).trans (inside_setReq _ _))

theorem inside_resetRequests (s : State) : Inside s (resetRequests s) :=
  (inside_setReq _ _).trans (inside_completeAll _ _ _)

theorem inside_registerItem (w : WaitItem) (s : State) : Inside s (registerItem w s) := by
  unfold registerItem
  dsimp only
  split
  · exact (inside_setReq _ _).trans (inside_strokeRegistered _ _ _)
  · exact (inside_setReq _ _).trans (inside_stepRegistered _ _)
  · exact inside_setReq _ _

theorem inside_fillOne {s t : State} (h : fillOne s = some t) : Inside s t := by
  unfold fillOne at h
  split at h
  · cases h
    exact (inside_setReq _ _).trans (inside_registerItem _ _)
  · split at h
    · cases h
      exact (inside_setReq _ _).trans (inside_registerItem _ _)
    · split at h
      · cases h
        exact inside_setReq _ _
      · exact absurd h nofun

theorem inside_fillTable : ∀ (fuel : Nat) (s : State), Inside s (fillTable fuel s)
  | 0, s => .refl s
  | fuel + 1, s => by
    unfold fillTable
    split
    · rename_i h
      exact (inside_fillOne h).trans (inside_fillTable fuel _)
    · exact .refl s

theorem steady_sendField (p : PortNo) (b : List Byte) (s : State) : Steady s (sendField p b s) :=
  .same rfl rfl

theorem steady_dispatch (p : PortNo) (s : State) : Steady s (dispatch p s) := by
  unfold dispatch
  split
  · exact .refl s
  · split
    · exact .refl s
    · exact (inside_setReq _ _).toSteady.trans (steady_sendField _ _ _)

/-! ## The safe writes of a port -/

/-- A safe write asked while the mode is CLAMPING joins the outstanding set (R169). -/
theorem steady_markOutstanding {p : PortNo} {s : State} (h : s.out.mode = .clamping) :
    Steady s (markOutstanding p s) :=
  steady_setOut Iff.rfl fun _ => ⟨fun _ => ⟨p, get_put_self _ _ _⟩, fun _ => h⟩

theorem steady_askSafe {joins : Bool} {p : PortNo} {s : State} (h : joins = true → s.out.mode = .clamping) :
    Steady s (askSafe joins p s) := by
  unfold askSafe
  split
  · exact .refl s
  · dsimp only
    split
    · rename_i hj
      exact (inside_placeItem _ _).toSteady.trans (steady_markOutstanding (h hj))
    · exact (inside_placeItem _ _).toSteady

theorem steady_askRelinquish (s : State) (p : PortNo) : Steady s (askRelinquish s p) := by
  unfold askRelinquish
  split
  · exact (inside_placeItem _ _).toSteady
  · exact .refl s

theorem steady_safeNewPort (p : PortNo) (s : State) : Steady s (safeNewPort p s) := by
  unfold safeNewPort
  split
  · exact .refl s
  · rename_i h
    exact steady_askSafe fun _ => h
  · exact steady_askSafe fun h => absurd h nofun
  · exact steady_askRelinquish _ _

/-! ## Samples and losses -/

theorem steady_setMuck (v : Muck) (s : State) : Steady s (s.setMuck v) := .same rfl rfl

theorem steady_setPorts (v : Vector Port 16) (s : State) : Steady s (s.setPorts v) := .same rfl rfl

/-- The Pressure Unit changes otherwise than in its setpoint. -/
theorem steady_setPres {v : Pressure} {s : State} (h : v.setpoint = s.pres.setpoint) : Steady s (s.setPres v) :=
  .same rfl (by simp only [State.stops, State.setPres_pres, h]; rfl)

theorem steady_loseStroke (s : State) : Steady s (loseStroke s) :=
  Steady.trans (t := s.setAdv { s.adv with readings := s.adv.readings.map fun r => { r with valid := false } })
    (.same rfl rfl) (inside_writeEntry _ _ _ (by decide)).toSteady

theorem steady_loseChamber (s : State) : Steady s (loseChamber s) :=
  Steady.trans (t := s.setPres { s.pres with
      readings := s.pres.readings.map fun r => { r with valid := false }, held := true })
    (steady_setPres rfl) (inside_writeEntry _ _ _ (by decide)).toSteady

theorem steady_loseScale (s : State) : Steady s (loseScale s) :=
  (steady_setMuck _ _).trans (inside_writeEntry (src := .muck) _ _ _ (by decide)).toSteady

theorem steady_loseCutter (s : State) : Steady s (loseCutter s) :=
  (inside_stopCutter s).toSteady.trans (Steady.trans
    (t := (stopCutter s).setAdv { (stopCutter s).adv with torque := 0 }) (.same rfl rfl)
    (inside_writeEntry (src := .torque) _ _ _ (by decide)).toSteady)

theorem steady_cutterSample (torque : Nat) (s : State) : Steady s (cutterSample torque s) := by
  have h : Steady s (writeLevel .torque (torqueLevel s.adv.tWarn (min torque 2000))
      (s.setAdv { s.adv with torque := min torque 2000 })) :=
    Steady.trans (t := s.setAdv { s.adv with torque := min torque 2000 }) (.same rfl rfl)
      (inside_writeLevel (src := .torque) _ _ (by decide)).toSteady
  unfold cutterSample
  dsimp only
  split
  · refine h.trans (Inside.toSteady (inside_contribute ?_ _))
    exact fun _ => by simp only [Record.account]
  · exact h

theorem steady_runScrewLaw (s : State) : Steady s (runScrewLaw s) := by
  unfold runScrewLaw
  split
  · rename_i h
    exact (inside_setScrew (.inr (.inl h))).toSteady
  · exact .refl s

theorem steady_offerPressure (s : State) : Steady s (offerPressure s) := by
  unfold offerPressure
  split
  · refine Inside.toSteady (inside_contribute ?_ _)
    exact fun _ => by simp only [Record.account, Record.offer]
  · exact .refl s

theorem steady_chamberSample (rs : List Reading) (s : State) : Steady s (chamberSample rs s) := by
  have h : Steady s (s.setPres (s.pres.sense rs)) := steady_setPres rfl
  exact h.trans ((inside_writeLevel (src := .chamber) _ _ (by decide)).toSteady.trans
    ((steady_offerPressure _).trans (steady_runScrewLaw _)))

theorem steady_updateVoid (s : State) : Steady s (updateVoid s) := by
  unfold updateVoid
  split
  · dsimp only
    generalize voidAllowance s.adv.geometry s.adv.ground s.muck.e.toNat = allowance
    split
    · have h := (inside_takeDemand (allowance - s.muck.vApplied) s).toSteady
      generalize takeDemand (allowance - s.muck.vApplied) s = u at h ⊢
      refine h.trans ((steady_setMuck _ _).trans (Inside.toSteady (inside_contribute ?_ _)))
      exact fun _ => by simp only [Record.account]
    · exact .refl s
  · exact .refl s

theorem steady_beltSample (dcm dkg : Nat) (s : State) : Steady s (beltSample dcm dkg s) := by
  refine (steady_setMuck _ _).trans ((inside_writeLevel (src := .muck) _ _ (by decide)).toSteady.trans
    ((steady_updateVoid _).trans (Inside.toSteady (inside_contribute ?_ _))))
  exact fun _ => by simp only [Record.account]

theorem steady_openMuck (s : State) : Steady s (openMuck s) := by
  unfold openMuck
  dsimp only
  split
  · exact (steady_setMuck _ _).trans (inside_writeEntry _ _ _ (by decide)).toSteady
  · exact (steady_setMuck _ _).trans (inside_writeEntry _ _ _ (by decide)).toSteady

theorem steady_resetMuck (s : State) : Steady s (resetMuck s) := by
  have h : ∀ v : Muck, Steady s (writeEntry .muck .clear .none (s.setMuck v)) := fun v =>
    (steady_setMuck _ _).trans (inside_writeEntry _ _ _ (by decide)).toSteady
  unfold resetMuck
  dsimp only
  split
  · exact (h _).trans (inside_writeEntry _ _ _ (by decide)).toSteady
  · exact h _

/-! ## The Port Manager -/

theorem steady_modPort (p : PortNo) (f : Port → Port) (s : State) : Steady s (modPort p f s) := steady_setPorts _ _

/-- Every telling of a change of a port keeps the laws (R143). -/
theorem steady_portTellings {p : PortNo} {old new : PortState} {c : Option FaultCause} {f : State → State}
    (h : f ∈ portTellings p old new c) (s : State) : Steady s (f s) := by
  unfold portTellings recordTelling unitTellings jobTellings at h
  simp only [List.mem_append, List.mem_ite_nil_right, List.mem_ite_nil_left, List.mem_cons, List.not_mem_nil,
    or_false] at h
  rcases h with (⟨-, rfl⟩ | ⟨-, rfl⟩ | ⟨-, rfl | rfl⟩) | ((⟨-, rfl⟩ | ⟨-, h⟩) | ⟨-, rfl⟩) | ⟨-, rfl⟩
  · unfold recordPort
    split
    · exact .refl s
    · exact (inside_handFault _ _).toSteady
  · exact (inside_loseRequests _ _).toSteady
  · exact (inside_setReq _ _).toSteady
  · exact steady_safeNewPort _ _
  · exact (inside_writeLevel (src := .station) _ _ (by decide)).toSteady
  · unfold jobLoss at h
    split at h <;> simp only [List.mem_cons, List.not_mem_nil, or_false] at h <;> subst h
    · exact steady_loseStroke s
    · exact steady_loseChamber s
    · exact steady_loseCutter s
    · exact steady_loseScale s
    · exact (inside_losePump _ s).toSteady
    · exact (inside_loseStepPort _ s).toSteady
    · exact (inside_loseStepPort _ s).toSteady
  · exact (inside_setReq _ _).toSteady
  · exact (inside_loseGrantPort _ _).toSteady

theorem steady_changePort (p : PortNo) (new : PortState) (c : PortCause) (o : Option ReqOutcome) (s : State) :
    Steady s (changePort p new c o s) := by
  have h : Steady s (portReport p (s.ports.get p).state o (modPort p (Port.enter new c) s)) :=
    (steady_modPort _ _ _).trans (inside_report _ _).toSteady
  unfold changePort
  dsimp only
  refine Steady.trans ?_ (steady_tellAll (fun f hf => steady_portTellings hf) _)
  split
  · exact h.trans (steady_setMuck _ _)
  · exact h

theorem steady_movePort (p : PortNo) (new : PortState) (c : PortCause) (s : State) : Steady s (movePort p new c s) :=
  steady_changePort _ _ _ _ _

theorem steady_detect (p : PortNo) (s : State) : Steady s (detect p s) := by
  unfold detect
  split
  · exact steady_movePort _ _ _ _
  · exact .refl s

theorem steady_removePort (p : PortNo) (s : State) : Steady s (removePort p s) :=
  (steady_modPort _ _ _).trans ((steady_movePort _ _ _ _).trans (steady_detect _ _))

theorem steady_detectChange (p : PortNo) (b : Bool) (s : State) : Steady s (detectChange p b s) := by
  have hlost : Steady s (if b then s else removePort p s) := by
    split
    · exact .refl s
    · exact steady_removePort _ _
  unfold detectChange
  split
  · exact steady_detect _ _
  · unfold bounce
    split
    · exact steady_modPort _ _ _
    · exact steady_movePort _ _ _ _
  case h_9 => exact .refl s
  all_goals exact hlost

theorem steady_strapChange (p : PortNo) (l : StrapLine) (b : Bool) (s : State) : Steady s (strapChange p l b s) := by
  unfold strapChange
  split
  · exact .refl s
  · dsimp only
    split
    · exact (steady_modPort _ _ _).trans (steady_detectChange _ _ _)
    · exact steady_modPort _ _ _

theorem steady_decodeSense (p : PortNo) (s : State) : Steady s (decodeSense p s) := by
  unfold decodeSense
  dsimp only
  split <;> exact (steady_modPort _ _ _).trans (steady_movePort _ _ _ _)

theorem steady_debounceExpiry (p : PortNo) (s : State) : Steady s (debounceExpiry p s) := by
  unfold debounceExpiry
  split
  · dsimp only
    split
    · exact (steady_modPort _ _ _).trans (steady_decodeSense _ _)
    · exact steady_modPort _ _ _
  · exact .refl s

theorem steady_partialExpiry (p : PortNo) (s : State) : Steady s (partialExpiry p s) := by
  unfold partialExpiry
  split
  · exact steady_movePort _ _ _ _
  · exact .refl s

theorem steady_settleExpiry (p : PortNo) (s : State) : Steady s (settleExpiry p s) := by
  unfold settleExpiry
  split
  · exact (steady_movePort _ _ _ _).trans (inside_askIdentify _ _).toSteady
  · exact .refl s

theorem steady_staleExpiry (p : PortNo) (s : State) : Steady s (staleExpiry p s) := by
  unfold staleExpiry
  split
  · exact steady_movePort _ _ _ _
  · exact .refl s

theorem steady_refreshStale (p : PortNo) (s : State) : Steady s (refreshStale p s) := by
  unfold refreshStale
  dsimp only
  split
  · exact (steady_modPort _ _ _).trans (steady_movePort _ _ _ _)
  · exact steady_modPort _ _ _

theorem steady_portOutcome (e : Entry) (o : ReqOutcome) (s : State) : Steady s (portOutcome e o s) := by
  unfold portOutcome
  split
  · unfold identifyOutcome
    split
    · unfold takeIdentity
      split
      · exact (steady_modPort _ _ _).trans (steady_movePort _ _ _ _)
      · exact steady_movePort _ _ _ _
    case h_5 | h_6 => exact .refl s
    all_goals exact steady_changePort _ _ _ _ _
  · split
    · exact steady_movePort _ _ _ _
    · exact .refl s

theorem steady_outcomeTellings {e : Entry} {o : ReqOutcome} {u : State} {f : State → State}
    (h : f ∈ outcomeTellings e o u) (s : State) : Steady s (f s) := by
  unfold outcomeTellings at h
  simp only [List.mem_append, List.mem_ite_nil_right, List.mem_cons, List.not_mem_nil, or_false] at h
  rcases h with (⟨-, rfl⟩ | h) | ⟨-, rfl⟩
  · exact (inside_recordFailure _ _ _).toSteady
  · split at h
    all_goals simp only [List.mem_cons, List.not_mem_nil, or_false] at h
    all_goals
      subst h
      exact (inside_handOutcome _ _ _).toSteady
  · exact steady_portOutcome _ _ _

theorem steady_finishEntry (e : Entry) (o : ReqOutcome) (s : State) : Steady s (finishEntry e o s) := by
  unfold finishEntry
  split
  · exact .refl s
  · exact (inside_setReq _ _).toSteady.trans ((steady_modPort _ _ _).trans
      (steady_tellAll (fun f hf => steady_outcomeTellings hf) _))

theorem steady_takeAnswer (p : PortNo) (seq : Byte) (body : List Byte) (s : State) :
    Steady s (takeAnswer p seq body s) := by
  unfold takeAnswer
  split
  · split
    · unfold answerEntry
      split
      · split
        · exact steady_finishEntry _ _ _
        · exact .refl s
      · exact steady_finishEntry _ _ _
      · unfold busyEntry
        split
        · exact (inside_setReq _ _).toSteady
        · exact steady_finishEntry _ _ _
      · exact .refl s
    · exact .refl s
  · exact .refl s

theorem steady_answerTimeout (p : PortNo) (s : State) : Steady s (answerTimeout p s) := by
  unfold answerTimeout
  split
  · exact steady_finishEntry _ _ _
  · exact .refl s

end Sys2Proof.Machine

/-! SUPPORT. Each row keeps the laws, but for the few that turn a mode, a ring or the geometry, or credit a stroke; a
property that those and the steady operations keep is kept by every step. -/

namespace Sys2Proof.Machine

/-! ## Advance and cutter commands -/

/-- The cutter is set turning in NORMAL (R21). -/
theorem steady_setTurning {v : Cutter} {s : State} (hm : s.out.mode = .normal) (hv : v ≠ .stopped) :
    Steady s (s.setAdv { s.adv with cutter := v }) where
  meter := rfl
  complete := Iff.rfl
  rests := id
  permit := id
  laws k := ⟨k.permit, k.copy, k.below, fun _ => hv, k.timers, k.current, k.owned, k.modes, k.screw⟩
  duties _ d hd := by
    cases d
    case cutter => exact fun h => absurd hm h
    all_goals exact hd

/-- The five conditions of ADVANCE_START (R15). -/
theorem advanceUnmet_none_iff (s : State) :
    advanceUnmet s = none ↔ s.adv.state ≠ .strokeComplete ∧ s.ring.state = .boring ∧ s.out.mode = .normal
      ∧ s.adv.cutter ≠ .stopped ∧ s.adv.permitCopy ≠ .stop := by
  unfold advanceUnmet
  by_cases h0 : s.adv.state = .strokeComplete
  · simp [h0]
  by_cases h1 : s.ring.state = .boring
  · by_cases h2 : s.out.mode = .normal
    · by_cases h3 : s.adv.cutter = .stopped
      · simp [h0, h1, h2, h3]
      · by_cases h4 : s.adv.permitCopy = .stop
        · simp [h0, h1, h2, h3, h4]
        · simp [h0, h1, h2, h3, h4]
    · simp [h0, h1, h2]
  · simp [h0, h1]

/-- A move of the advance in a BORING ring in NORMAL keeps the laws, into BORING with its other conditions, and neither
from nor to STROKE_COMPLETE. -/
theorem steady_moveAdvance {new : AdvState} {s : State} (hr : s.ring.state = .boring) (hm : s.out.mode = .normal)
    (hc : new = .strokeComplete ↔ s.adv.state = .strokeComplete)
    (hb : Sound s → new = .boring → s.permit.level.rank < Level.rank .hold ∧ s.adv.cutter ≠ .stopped) :
    Steady s (moveAdvance new s) := by
  have c := calm_moveAdvance new s
  have hrest : Duty.rest.met s → Duty.rest.met (moveAdvance new s) := fun _ h => absurd (c.ringState.trans hr) h
  refine ⟨⟨?_, by rw [moveAdvance_adv]; exact hc, hrest, fun h => by rw [c.permit]; exact h⟩,
    c.laws (by rw [moveAdvance_adv]) ?_ screwAtRest_moveAdvance,
    fun _ => c.duty hrest ?_ ?_⟩
  · simp only [State.meter, Meter.mk.injEq, moveAdvance_adv]
    exact ⟨trivial, trivial, trivial, c.ringState, frame_account c.frame⟩
  · rw [moveAdvance_adv]
    exact hb
  · exact fun _ h => absurd (by rw [c.out]; exact hm) h
  · exact fun _ h => absurd (by rw [c.out]; exact hm) h

theorem startedState_eq {s : State} (h : s.adv.state ≠ .strokeComplete) :
    startedState s = if s.adv.state = .idle then (if s.adv.permitCopy = .hold then .held else .boring)
      else s.adv.state := by
  unfold startedState
  cases hs : s.adv.state <;> simp_all

/-- ADVANCE_START leads to BORING only below HOLD, the state being sound (R15). -/
theorem startedState_boring {s : State} (k : Sound s) (hs : s.adv.permitCopy ≠ .stop)
    (h : startedState s = .boring) : s.permit.level.rank < Level.rank .hold := by
  unfold startedState at h
  cases ha : s.adv.state <;> rw [ha] at h
  · rw [← k.copy]
    cases hp : s.adv.permitCopy <;> simp_all [Level.rank]
  · exact k.below ha
  · exact absurd h nofun
  · exact absurd h nofun

theorem steady_takeAdvanceStart (rate : Nat) (s : State) : Steady s (takeAdvanceStart rate s).1 := by
  unfold takeAdvanceStart
  split
  · exact .refl s
  · rename_i h
    obtain ⟨h0, h1, h2, h3, h4⟩ := (advanceUnmet_none_iff s).mp h
    have hr : Steady s (s.setAdv { s.adv with rReq := clampNat 1 120 rate }) := .same rfl rfl
    refine hr.trans (steady_moveAdvance h1 h2 ?_ fun k hb => ⟨startedState_boring (s := s) ?_ h4 hb, h3⟩)
    · refine iff_of_false ?_ h0
      rw [startedState_eq h0]
      split
      · split <;> exact nofun
      · exact h0
    · exact Sound.of_stops (s := s.setAdv { s.adv with rReq := clampNat 1 120 rate }) rfl k

theorem steady_takeAdvanceStop (s : State) : Steady s (takeAdvanceStop s).1 := by
  unfold takeAdvanceStop
  split
  · exact .refl s
  all_goals exact (inside_stopAdvance s).toSteady

theorem steady_takeCutterSet (speed : Nat) (s : State) : Steady s (takeCutterSet speed s).1 := by
  unfold takeCutterSet
  split
  · exact .refl s
  · split
    · exact .refl s
    · rename_i hm
      dsimp only
      split
      · exact (inside_stopCutter s).toSteady
      · rename_i h0
        have hv : cutterFor speed ≠ .stopped := by simp [cutterFor, h0]
        exact (steady_setTurning (by by_contra hn; exact hm ⟨hn, h0⟩) hv).trans (inside_refresh _).toSteady

theorem steady_takeSetGround (g : Ground) (s : State) : Steady s (takeSetGround g s).1 := by
  unfold takeSetGround
  split
  · exact .refl s
  · split
    · exact .same rfl rfl
    · exact .refl s

theorem steady_takeSetLimits (fRed tWarn : Nat) (s : State) : Steady s (takeSetLimits fRed tWarn s).1 := by
  unfold takeSetLimits
  split
  · refine Steady.trans (t := s.setAdv { s.adv with fRed := fRed, tWarn := tWarn }) ?_ (inside_refresh _).toSteady
    exact .same rfl rfl
  · exact .refl s

theorem steady_takeSetPressure (p : PSettings) (s : State) : Steady s (takeSetPressure p s).1 := by
  unfold takeSetPressure
  split
  · exact steady_setPres rfl
  · exact .refl s

theorem steady_takeSetBalance (b : Balance) (s : State) : Steady s (takeSetBalance b s).1 := by
  unfold takeSetBalance
  split
  · exact steady_setMuck _ _
  · exact .refl s

/-! ## Line commands, timers and strokes -/

/-- A running line's timer starts (R84, R85). -/
theorem inside_startTimer {i : LineNo} {s : State} (kind : LineTimerKind) (d : Nat)
    (h : (s.line i).state.running = true) : Inside s (startTimer i kind d s) :=
  inside_setLine rfl (.inl h) fun _ _ => .inl h

theorem steady_runLine (i : LineNo) (mode : LineMode) (s : State) : Steady s (runLine i mode s).1 := by
  unfold runLine
  dsimp only
  split
  · exact .refl s
  rename_i hm
  have hm : s.out.mode = .normal := not_not.mp hm
  split
  · exact .refl s
  split
  · exact .refl s
  split
  · exact .refl s
  split
  · exact .refl s
  refine Inside.toSteady (Inside.trans ?_ ((inside_checkStroke _ _).trans (inside_writeGrout _)))
  split
  · exact (inside_clearRemainders s).trans (inside_moveLine (.inl rfl) fun _ _ => .inr hm)
  · exact Inside.trans (inside_moveLine (.inl rfl) fun _ _ => .inr hm)
      (inside_startTimer _ _ (by rw [moveLine_line, if_pos rfl]; rfl))

theorem steady_takeLineRun (line mode : Nat) (s : State) : Steady s (takeLineRun line mode s).1 := by
  unfold takeLineRun
  split
  · split
    · exact steady_runLine _ _ _
    · split
      · exact steady_runLine _ _ _
      · exact .refl s
  · exact .refl s

/-- The lines alone change: nothing the accounting rests on does. -/
theorem metered_setLine (i : LineNo) (l : Line) (s : State) : Metered s (setLine i l s) := ⟨rfl, Iff.rfl, id, id⟩

theorem metered_moveLine (i : LineNo) (state : LineState) (mode : LineMode) (c : LineCause) (s : State) :
    Metered s (moveLine i state mode c s) := by
  unfold moveLine
  dsimp only
  split
  · exact metered_setLine _ _ _
  · exact (metered_setLine _ _ _).trans (inside_report _ _).toMetered

/-- Where only the laws need the state sound, the accounting is shown apart. -/
theorem Steady.of_sound {s t : State} (hm : Metered s t) (h : Sound s → Steady s t) : Steady s t :=
  ⟨hm, fun k => (h k).laws k, fun k => (h k).duties k⟩

theorem metered_primeStroke (i : LineNo) (s : State) : Metered s (primeStroke i s) := by
  have h : Metered s (moveLine i .primeStroke (s.line i).mode .none (setLine i (s.line i).rest s)) := (metered_setLine _ _ _).trans (metered_moveLine _ _ _ _ _)
  unfold primeStroke
  dsimp only
  split
  · exact h.trans (inside_issueStroke _ _).toMetered
  · exact h

theorem inside_primeStroke {i : LineNo} {s : State} (h : (s.line i).state.running = true ∨ s.out.mode = .normal) :
    Inside s (primeStroke i s) := by
  have hm : Inside s (moveLine i .primeStroke (s.line i).mode .none (setLine i (s.line i).rest s)) :=
    (inside_setLine_rest i s).trans (inside_moveLine (.inl rfl) fun _ _ => by rw [line_setLine_self]; exact h)
  unfold primeStroke
  dsimp only
  split
  · exact hm.trans (inside_issueStroke _ _)
  · exact hm

theorem moveLine_out (i : LineNo) (state : LineState) (mode : LineMode) (c : LineCause) (s : State) :
    (moveLine i state mode c s).out = s.out := by
  unfold moveLine
  dsimp only
  split <;> rfl

theorem steady_primeLine (i : LineNo) (s : State) : Steady s (primeLine i s).1 := by
  unfold primeLine
  dsimp only
  split
  · exact .refl s
  rename_i hm
  have hm : s.out.mode = .normal := not_not.mp hm
  split
  · exact .refl s
  split
  · exact .refl s
  split
  · exact .refl s
  split
  · exact .refl s
  have hw : Inside s (startTimer i .prime (s.line i).timings.tW
      (moveLine i .primeWait (s.line i).mode .none s)) :=
    Inside.trans (inside_moveLine (.inl rfl) fun _ _ => .inr hm)
      (inside_startTimer _ _ (by rw [moveLine_line, if_pos rfl]; rfl))
  refine Inside.toSteady (Inside.trans ?_ (inside_writeGrout _))
  split
  · refine hw.trans (inside_primeStroke (.inr ?_))
    change (moveLine i .primeWait (s.line i).mode .none s).out.mode = .normal
    rw [moveLine_out]
    exact hm
  · exact hw

theorem steady_takeLinePrime (line : Nat) (s : State) : Steady s (takeLinePrime line s).1 := by
  unfold takeLinePrime
  split
  · exact steady_primeLine _ _
  · exact .refl s

theorem steady_takeLineStop (line : Nat) (s : State) : Steady s (takeLineStop line s).1 := by
  unfold takeLineStop
  split
  · dsimp only
    split
    · exact .refl s
    · dsimp only
      exact ((inside_stopLine _ _).trans (inside_writeGrout _)).toSteady
  · exact .refl s

/-- LINE_CLEAR of a line outside the running states, which a sound state leaves with no timer (R87). -/
theorem steady_takeLineClear (line : Nat) (s : State) : Steady s (takeLineClear line s).1 := by
  unfold takeLineClear
  split
  · dsimp only
    split
    · rename_i h hst
      dsimp only
      refine .of_sound ?_ fun k => Inside.toSteady ((inside_leaveTrack _ _).trans (Inside.trans
        (inside_moveLine_off _ _ rfl ?_) (inside_writeGrout _)))
      · exact (inside_leaveTrack _ _).toMetered.trans ((metered_moveLine _ _ _ _ _).trans (inside_writeGrout _).toMetered)
      · rw [leaveTrack_timer]
        refine (k.timers ⟨line, h⟩).resolve_left fun hr => ?_
        change (s.line ⟨line, h⟩).state.running = true at hr
        rcases hst with e | e
        · rw [e] at hr; exact absurd hr nofun
        · rw [e] at hr; exact absurd hr nofun
    · exact .refl s
  · exact .refl s

theorem steady_takeSetLine (line weight vs pLimit lag tP tS tW : Nat) (s : State) :
    Steady s (takeSetLine line weight vs pLimit lag tP tS tW s).1 := by
  unfold takeSetLine
  split
  · dsimp only
    split
    · exact .refl s
    split
    · exact .refl s
    rename_i h _ _
    have hset : Steady s (setLine ⟨line, h⟩ (((clearRemainders s).line ⟨line, h⟩).set weight vs pLimit lag ⟨tP, tS, tW⟩)
        (clearRemainders s)) :=
      (inside_clearRemainders s).toSteady.trans (steady_setLine (.inr (.inr ⟨rfl, rfl⟩)) fun _ h => .inl h)
    dsimp only
    refine hset.trans (Inside.toSteady (Inside.trans (inside_contribute ?_ _) (inside_writeGrout _)))
    exact fun _ => by simp only [Record.account]
  · exact .refl s

/-- A line whose timer runs is in a running state, in a sound state. -/
theorem Sound.running_of_timer {s : State} (k : Sound s) {i : LineNo} {x : LineTimerKind × Nat}
    (h : (s.line i).timer = some x) : (s.line i).state.running = true :=
  (k.timers i).resolve_right fun hn => by
    rw [State.line] at h
    rw [hn] at h
    exact absurd h nofun

theorem steady_primeExpiry (i : LineNo) (s : State) : Steady s (primeExpiry i s) := by
  unfold primeExpiry
  split
  · rename_i ht
    refine .of_sound ((metered_primeStroke i s).trans (inside_writeGrout _).toMetered) fun k => ?_
    exact ((inside_primeStroke (.inl (k.running_of_timer ht))).trans (inside_writeGrout _)).toSteady
  · exact .refl s

theorem steady_pulsePause (i : LineNo) (s : State) : Steady s (pulsePause i s) := by
  unfold pulsePause
  dsimp only
  split
  · rename_i ht
    refine .of_sound ((metered_moveLine _ _ _ _ _).trans ((metered_setLine _ _ _).trans
      (inside_writeGrout _).toMetered)) fun k => ?_
    refine Inside.toSteady (Inside.trans (inside_moveLine (.inl rfl) fun k _ => .inl (k.running_of_timer ht))
      (Inside.trans (inside_startTimer _ _ ?_) (inside_writeGrout _)))
    rw [moveLine_line, if_pos rfl]
    rfl
  · exact .refl s

theorem steady_pulseDeliver (i : LineNo) (s : State) : Steady s (pulseDeliver i s) := by
  unfold pulseDeliver
  dsimp only
  split
  · rename_i ht
    refine .of_sound ((metered_setLine _ _ _).trans ((metered_moveLine _ _ _ _ _).trans ((metered_setLine _ _ _).trans
      ((inside_checkStroke _ _).toMetered.trans (inside_writeGrout _).toMetered)))) fun k => ?_
    refine Inside.toSteady ((inside_setLine_rest i s).trans (Inside.trans
      (inside_moveLine (.inl rfl) fun _ _ => .inl ?_) (Inside.trans (inside_startTimer _ _ ?_)
        ((inside_checkStroke _ _).trans (inside_writeGrout _)))))
    · rw [line_setLine_self]
      exact k.running_of_timer ht
    · rw [moveLine_line, if_pos rfl]
      rfl
  · exact .refl s

theorem inside_settleLine (i : LineNo) (peak : Nat) (s : State) : Inside s (settleLine i peak s) := by
  have hoff : ∀ (u : State) (state : LineState) (mode : LineMode) (c : LineCause), state.running = false →
      Inside u (moveLine i state mode c (setLine i (u.line i).rest u)) := fun u state mode c h =>
    (inside_setLine_rest i u).trans (inside_moveLine_off _ _ h (by rw [line_setLine_self]; rfl))
  unfold settleLine
  dsimp only
  split
  · split
    · exact inside_handFault _ _
    · exact inside_handFault _ _
    all_goals exact (inside_handFault _ _).trans (hoff _ _ _ _ rfl)
  · split
    · exact hoff s _ _ _ rfl
    all_goals exact .refl s

theorem steady_accountStroke (i : LineNo) (v peak : Nat) (s : State) : Steady s (accountStroke i v peak s) := by
  have h : Steady s (setLine i ((s.line i).delivered v (s.ring.state != .none)) s) :=
    steady_setLine (.inr (.inr ⟨rfl, rfl⟩)) fun _ h => .inl h
  unfold accountStroke
  dsimp only
  refine Steady.trans ?_ ((inside_settleLine _ _ _).trans ((inside_checkStroke _ _).trans (inside_writeGrout _))).toSteady
  split
  · refine h.trans (Inside.toSteady (inside_contribute ?_ _))
    exact fun _ => by simp only [Record.account]
  · exact h

theorem steady_takeStrokeDone (p : PortNo) (line v peak : Nat) (s : State) :
    Steady s (takeStrokeDone p line v peak s).1 := by
  unfold takeStrokeDone
  split
  · split
    · exact steady_accountStroke _ _ _ _
    · exact .refl s
  · exact .refl s

/-! ## The placement of a segment -/

/-- A step begins in a BUILDING ring in NORMAL, its sector BUILD's (R119). -/
theorem steady_beginStep {st : Step} {s : State} (hn : s.build.step = none) (hr : s.ring.state = .building)
    (hm : s.out.mode = .normal) :
    Steady s (s.setBuild { s.build with step := some st, owners := put s.build.owners st.sector .build }) where
  meter := rfl
  complete := Iff.rfl
  rests := id
  permit := id
  laws k := by
    have hfree : ∀ sec, s.build.owners.get sec ≠ .build := fun sec hb => by
      obtain ⟨_, h, -⟩ := (k.owned sec).mp hb
      rw [hn] at h
      exact absurd h nofun
    refine ⟨k.permit, k.copy, k.below, k.turning, k.timers, k.current, fun sec => ?_, fun g hg => ?_, k.screw⟩
    · simp only [State.setBuild_build, get_put, Option.some.injEq, exists_eq_left']
      split
      · rename_i h
        exact iff_of_true rfl h
      · rename_i h
        exact iff_of_false (hfree sec) h
    · simp only [State.setBuild_build, get_put] at hg
      split at hg
      · exact absurd hg nofun
      · exact k.modes g hg
  duties _ d hd := by
    cases d
    case idle => exact fun h => absurd hr h
    case step => exact fun h => absurd hm h
    case held => exact fun h => absurd hm h
    all_goals exact hd

theorem steady_firstPhase {st : Step} {s : State} (hn : s.build.step = none) (hr : s.ring.state = .building)
    (hm : s.out.mode = .normal) :
    Steady s (enterPhase st .retracting .retracting (setOwner st.sector .build (setStep (some st) s))) := by
  have ho : Steady s (setOwner st.sector .build (setStep (some st) s)) :=
    (steady_beginStep hn hr hm).trans (inside_refresh _).toSteady
  refine ho.trans (Inside.toSteady ?_)
  exact inside_enterPhase (st := st) rfl rfl (.inr hm)

theorem steady_startStep (starter : StartedBy) (granted : Bool) (s : State) :
    Steady s (startStep starter granted s).1 := by
  unfold startStep
  split
  · exact .refl s
  rename_i hc
  push Not at hc
  obtain ⟨hr, hn, hm⟩ := hc
  split
  · exact .refl s
  split
  · exact .refl s
  · exact .refl s
  · split
    · exact .refl s
    split
    · exact .refl s
    dsimp only
    exact steady_firstPhase (st := Step.mk ..) hn hr hm

theorem steady_retryStep (granted : Bool) (s : State) : Steady s (retryStep granted s).1 := by
  unfold retryStep
  split
  · exact .refl s
  rename_i st h
  split
  · exact .refl s
  rename_i hc
  push Not at hc
  split
  · exact .refl s
  split
  · exact .refl s
  dsimp only
  exact (inside_enterPhase (st' := st.cleared) h rfl (.inr hc.2)).toSteady

theorem steady_backoutStep (granted : Bool) (s : State) : Steady s (backoutStep granted s).1 := by
  unfold backoutStep
  split
  · exact .refl s
  rename_i st h
  split
  · exact .refl s
  rename_i hc
  push Not at hc
  split
  · exact .refl s
  split
  · exact .refl s
  split
  · exact .refl s
  · dsimp only
    exact (inside_enterPhase (st' := { st.cleared with direction := .backout }) h rfl (.inr hc.2)).toSteady

/-- A step that awaits an event is running (R122). -/
theorem running_of_awaits {state : StepState} {p : PortNo} {s : State} {st : Step} (h : awaits state p s st = true)
    (hs : state.running = true) : st.state.running = true := by
  simp only [awaits, Bool.and_eq_true, beq_iff_eq] at h
  rw [h.1.1]
  exact hs

theorem steady_takeRetracted (p : PortNo) (sector : Nat) (s : State) : Steady s (takeRetracted p sector s).1 := by
  unfold takeRetracted
  split
  · exact .refl s
  · rename_i st h
    split
    · rename_i hc
      simp only [Bool.and_eq_true] at hc
      exact (inside_enterPhase h rfl (.inl (running_of_awaits hc.1 rfl))).toSteady
    · exact .refl s

theorem movePiece_build (s : State) : (movePiece s).build = s.build := by
  unfold movePiece
  split <;> rfl

/-- The record's accounted figures and the ring's state stand while a piece moves into the ring (R111). -/
theorem steady_movePiece (s : State) : Steady s (movePiece s) := by
  unfold movePiece
  split
  · rename_i r _ _ _ _ hr _ _
    refine .same ?_ ?_
    · simp only [State.meter, State.setRing_ring, hr]
      rfl
    · simp only [State.stops, State.setRing_ring, hr]
      rfl
  · exact .refl s

theorem steady_takePlaced (p : PortNo) (serial : Nat) (s : State) : Steady s (takePlaced p serial s).1 := by
  unfold takePlaced
  split
  · exact .refl s
  · rename_i st h
    split
    · rename_i hc
      simp only [Bool.and_eq_true] at hc
      exact (steady_movePiece s).trans (inside_enterPhase (by rw [movePiece_build]; exact h) rfl
        (.inl (running_of_awaits hc.1 rfl))).toSteady
    · exact .refl s

theorem steady_takeReturned (p : PortNo) (s : State) : Steady s (takeReturned p s).1 := by
  unfold takeReturned
  split
  · exact .refl s
  · rename_i st h
    split
    · rename_i hc
      exact (inside_enterPhase h rfl (.inl (running_of_awaits hc rfl))).toSteady
    · exact .refl s

/-- A step ends: its sector's groups at HOLD, its owner none (R122). -/
theorem steady_endStep {st : Step} {s : State} (h : s.build.step = some st) :
    Steady s (setStep none ((setGroups st.sector .hold s).setBuild { (setGroups st.sector .hold s).build with
      owners := put s.build.owners st.sector .none })) := by
  have hg : ∀ g, (put s.build.owners st.sector .none).get (sectorOf g) = .none →
      (setGroups st.sector .hold s).build.groups.get g = .hold ∨
        (s.build.owners.get (sectorOf g) = .none ∧
          (setGroups st.sector .hold s).build.groups.get g = s.build.groups.get g) := fun g hg => by
    rw [setGroups_get]
    by_cases e : sectorOf g = st.sector
    · exact .inl (if_pos e)
    · rw [get_put_ne _ (fun e' => e e'.symm)] at hg
      exact .inr ⟨hg, if_neg e⟩
  refine ⟨⟨rfl, Iff.rfl, id, id⟩, fun k => ?_, fun k d hd => ?_⟩
  · refine ⟨k.permit, k.copy, k.below, k.turning, k.timers, k.current, fun sec => ?_, fun g hgn => ?_, k.screw⟩
    · refine iff_of_false ?_ fun ⟨_, h', _⟩ => absurd h' nofun
      change (put s.build.owners st.sector .none).get sec ≠ .build
      rw [get_put]
      split
      · exact nofun
      · rename_i hne
        intro hb
        obtain ⟨st', h', hs⟩ := (k.owned sec).mp hb
        rw [h] at h'
        cases h'
        exact hne hs
    · rcases hg g hgn with e | ⟨hn, e⟩
      · exact .inr e
      · have := k.modes g hn
        rw [← e] at this
        exact this
  · cases d
    case idle => exact fun _ => rfl
    case step => exact fun _ _ h' => absurd h' nofun
    case held =>
      intro hm g hgn
      rcases hg g hgn with e | ⟨hn, e⟩
      · exact e
      · exact e.trans (hd hm g hn)
    all_goals exact hd

theorem steady_takeHolding (p : PortNo) (sector : Nat) (s : State) : Steady s (takeHolding p sector s).1 := by
  unfold takeHolding
  split
  · exact .refl s
  · rename_i st h
    split
    · dsimp only
      refine Steady.trans (t := setStep none (setOwner st.sector .none (setGroups st.sector .hold s))) ?_
        (inside_report _ _).toSteady
      exact (steady_endStep h).trans (inside_refresh _).toSteady
    · exact .refl s

theorem steady_pendantStep {p : PortNo} {f : State → Taken} {s : State} (h : Steady s (f s).1) :
    Steady s (pendantStep p f s).1 := by
  unfold pendantStep
  split
  · exact h
  · exact .refl s

theorem steady_takeLocalRequest (p : PortNo) (s : State) : Steady s (takeLocalRequest p s).1 := by
  unfold takeLocalRequest
  split
  · exact .refl s
  split
  · exact .refl s
  split
  · exact .refl s
  rename_i hc
  push Not at hc
  split
  · exact .refl s
  · exact ((inside_setGrant (.inr hc.2.2)).trans (inside_report _ _)).toSteady

theorem steady_takeLocalRelease (p : PortNo) (s : State) : Steady s (takeLocalRelease p s).1 := by
  unfold takeLocalRelease
  split
  · exact (inside_endGrant _ _).toSteady
  · exact .refl s

/-! ## Pieces, records and reads -/

theorem steady_setQueue (q : List Piece) (s : State) : Steady s (s.setRing { s.ring with queue := q }) := .same rfl rfl

theorem steady_takePieceArrived (kind serial : Nat) (s : State) : Steady s (takePieceArrived kind serial s).1 := by
  unfold takePieceArrived
  split
  · exact (inside_report _ _).toSteady
  split
  · exact (inside_report _ _).toSteady
  split
  · exact (inside_report _ _).toSteady
  split
  · exact (inside_report _ _).toSteady
  · exact (steady_setQueue _ _).trans (inside_report _ _).toSteady

theorem steady_takePieceDiscard (s : State) : Steady s (takePieceDiscard s).1 := by
  unfold takePieceDiscard
  split
  · exact .refl s
  · split
    · exact .refl s
    · exact (steady_setQueue _ _).trans (inside_report _ _).toSteady

theorem steady_passEvent (p : PortNo) (e : StationEvent) (s : State) : Steady s (passEvent p e s).1 := by
  cases e with
  | retracted sector => exact steady_takeRetracted _ _ _
  | holding sector => exact steady_takeHolding _ _ _
  | placed serial => exact steady_takePlaced _ _ _
  | returned => exact steady_takeReturned _ _
  | strokeDone line delivered peak => exact steady_takeStrokeDone _ _ _ _ _
  | pieceArrived kind serial => exact steady_takePieceArrived _ _ _
  | localRequest => exact steady_takeLocalRequest _ _
  | localRelease => exact steady_takeLocalRelease _ _
  | placeRequest => exact steady_pendantStep (steady_startStep _ _ _)
  | retryRequest => exact steady_pendantStep (steady_retryStep _ _)
  | backoutRequest => exact steady_pendantStep (steady_backoutStep _ _)

theorem steady_notExpected (p : PortNo) (seq : Byte) (s : State) : Steady s (notExpected p seq s) := by
  unfold notExpected
  split
  · exact steady_sendField _ _ _
  · exact .refl s

theorem steady_takeEvent (p : PortNo) (seq : Byte) (e : StationEvent) (s : State) : Steady s (takeEvent p seq e s) := by
  unfold takeEvent
  split
  · exact (steady_passEvent _ _ _).trans (steady_sendField _ _ _)
  · exact steady_notExpected _ _ _

theorem steady_takeEventBody (p : PortNo) (seq : Byte) (body : List Byte) (s : State) :
    Steady s (takeEventBody p seq body s) := by
  unfold takeEventBody
  split
  · exact steady_takeEvent _ _ _ _
  · exact steady_notExpected _ _ _
  · split
    · exact .refl s
    · exact steady_notExpected _ _ _

theorem steady_takePortBypass (port : Nat) (s : State) : Steady s (takePortBypass port s).1 := by
  unfold takePortBypass
  split
  · dsimp only
    split
    · exact .refl s
    split
    · exact .refl s
    · exact (steady_modPort _ _ _).trans (steady_movePort _ _ _ _)
  · exact .refl s

theorem steady_takePortRestore (port : Nat) (s : State) : Steady s (takePortRestore port s).1 := by
  have h : ∀ p, Steady s (detect p (movePort p .empty .restore (modPort p (fun pt => { pt with noAnswer := 0 }) s))) :=
    fun p => (steady_modPort _ _ _).trans ((steady_movePort _ _ _ _).trans (steady_detect _ _))
  unfold takePortRestore
  split
  · dsimp only
    split
    · exact h _
    · exact h _
    · exact h _
    all_goals exact .refl s
  · exact .refl s

theorem steady_takeStationRead (tag : Byte) (port : Nat) (points : List Nat) (s : State) :
    Steady s (takeStationRead tag port points s).1 := by
  unfold takeStationRead
  split
  · split
    · exact .refl s
    split
    · exact .refl s
    · exact (inside_setReq _ _).toSteady
  · exact .refl s

theorem steady_takeStationWrite (tag : Byte) (port : Nat) (pairs : List (Nat × Nat)) (s : State) :
    Steady s (takeStationWrite tag port pairs s).1 := by
  unfold takeStationWrite
  split
  · split
    · exact .refl s
    split
    · exact .refl s
    split
    · exact .refl s
    · exact (inside_setReq _ _).toSteady
  · exact .refl s

theorem steady_takeSampleOutputs (port : Nat) (s : State) : Steady s (takeSampleOutputs port s).1 := by
  unfold takeSampleOutputs
  split <;> exact .refl s

theorem steady_takeGetRing (number : Nat) (s : State) : Steady s (takeGetRing number s).1 := by
  unfold takeGetRing
  split <;> exact .refl s

theorem steady_takeSetSafe (port : Nat) (pairs : List (Nat × Nat)) (s : State) :
    Steady s (takeSetSafe port pairs s).1 := by
  unfold takeSetSafe
  split
  · split
    · exact .refl s
    split
    · exact .refl s
    split
    · exact .refl s
    · exact .same rfl rfl
  · exact .refl s

theorem steady_takeAckFault (s : State) : Steady s (takeAckFault s).1 := by
  unfold takeAckFault
  split
  · exact .refl s
  · rename_i rest _
    refine Steady.trans (t := s.setOut { s.out with faults := rest }) (.same rfl rfl)
      (inside_writeEntry (src := .faultBacklog) _ _ _ (by decide)).toSteady

/-! ## UNCLAMP -/

/-- The mode returns to NORMAL from CLAMPED, with no safe write outstanding (R172). -/
theorem steady_setNormal {s : State} (h : s.out.mode = .clamped) : Steady s (setMode .normal .none s) where
  meter := rfl
  complete := Iff.rfl
  rests := id
  permit := id
  laws k := ⟨k.permit, k.copy, k.below, k.turning, k.timers, k.current, k.owned, k.modes, k.screw⟩
  duties _ d hd := by
    cases d
    case rest => exact hd
    case idle => exact hd
    case clamping =>
      refine iff_of_false nofun fun hp => ?_
      have hc : s.out.mode = .clamping := hd.mpr hp
      rw [h] at hc
      exact absurd hc nofun
    all_goals exact fun hn => absurd rfl hn

theorem steady_enterNormal {s : State} (h : s.out.mode = .clamped) : Steady s (enterNormal s) := by
  unfold enterNormal
  refine (steady_setNormal h).trans ((steady_tellAll ?_ _).trans (inside_report _ _).toSteady)
  intro f hf u
  simp only [normalTellings, List.mem_cons, List.not_mem_nil, or_false] at hf
  rcases hf with rfl | rfl | rfl
  · exact (inside_tellOutput u).toSteady
  · exact (inside_refresh u).toSteady
  · exact (inside_setReq _ u).toSteady

theorem steady_takeUnclamp (s : State) : Steady s (takeUnclamp s).1 := by
  unfold takeUnclamp
  split
  · exact .refl s
  · exact .refl s
  · exact .refl s
  · rename_i h
    split
    · exact .refl s
    · exact steady_enterNormal h

end Sys2Proof.Machine

/-! SUPPORT. A property that steady operations keep, and the rows that turn a mode or a ring, set the geometry or credit a
stroke, is kept by every step. -/

namespace Sys2Proof.Machine

/-! ## The steps of the part -/

/-- The host commands that set the geometry, or turn the ring or the output mode with tellings of their own. -/
def HostCmd.turns : HostCmd → Bool
  | .setGeometry _ | .ringOpen _ _ | .buildStart | .ringClose | .ringAbandon | .clamp | .release | .resume
  | .resetPart => true
  | _ => false

theorem steady_takeCommand (tag : Byte) {c : HostCmd} (h : c.turns = false) (s : State) :
    Steady s (takeCommand tag c s).1 := by
  cases c with
  | advanceStart rate => exact steady_takeAdvanceStart _ _
  | advanceStop => exact steady_takeAdvanceStop _
  | cutterSet speed => exact steady_takeCutterSet _ _
  | setGround g => exact steady_takeSetGround _ _
  | setLimits fRed tWarn => exact steady_takeSetLimits _ _ _
  | setPressure p => exact steady_takeSetPressure _ _
  | setBalance b => exact steady_takeSetBalance _ _
  | lineRun line mode => exact steady_takeLineRun _ _ _
  | linePrime line => exact steady_takeLinePrime _ _
  | lineStop line => exact steady_takeLineStop _ _
  | lineClear line => exact steady_takeLineClear _ _
  | setLine line weight vs pLimit lag tP tS tW => exact steady_takeSetLine _ _ _ _ _ _ _ _ _
  | pieceDiscard => exact steady_takePieceDiscard _
  | getRing number => exact steady_takeGetRing _ _
  | placeNext => exact steady_startStep _ _ _
  | placeRetry => exact steady_retryStep _ _
  | placeBackout => exact steady_backoutStep _ _
  | portBypass port => exact steady_takePortBypass _ _
  | portRestore port => exact steady_takePortRestore _ _
  | stationRead port points => exact steady_takeStationRead _ _ _ _
  | stationWrite port pairs => exact steady_takeStationWrite _ _ _ _
  | sampleOutputs port => exact steady_takeSampleOutputs _ _
  | unclamp => exact steady_takeUnclamp _
  | setSafe port pairs => exact steady_takeSetSafe _ _ _
  | getFaults => exact .refl s
  | ackFault => exact steady_takeAckFault _
  | getStatus => exact .same rfl rfl
  | getRestrictions => exact .refl s
  | getQueues => exact .refl s
  | setGeometry g => exact absurd h nofun
  | ringOpen n k => exact absurd h nofun
  | buildStart => exact absurd h nofun
  | ringClose => exact absurd h nofun
  | ringAbandon => exact absurd h nofun
  | clamp => exact absurd h nofun
  | release => exact absurd h nofun
  | resume => exact absurd h nofun
  | resetPart => exact absurd h nofun

/-- A property that every steady operation keeps, and each operation that is not steady. -/
structure StepKept (L : State → Prop) : Prop where
  steady : ∀ {s t}, Steady s t → L s → L t
  power : ∀ estop straps s, L (powerUp estop straps s)
  command : ∀ tag (c : HostCmd) s, c.turns = true → L s → L (takeCommand tag c s).1
  estop : ∀ s, L s → L (estopAssert s)
  stroke : ∀ rs s, L s → L (strokeSample rs s)

section
variable {L : State → Prop}

theorem steady_setLink (v : Link) (s : State) : Steady s (s.setLink v) := .same rfl rfl

theorem StepKept.takeCommand (h : StepKept L) (tag : Byte) (c : HostCmd) {s : State} (k : L s) :
    L (takeCommand tag c s).1 := by
  by_cases hc : c.turns = true
  · exact h.command tag c s hc k
  · exact h.steady (steady_takeCommand tag (by simpa using hc) s) k

theorem StepKept.answerCommand (h : StepKept L) (tag : Byte) (c : HostCmd) {s : State} (k : L s) :
    L (answerCommand tag c s) := h.steady (steady_setLink _ _) (h.takeCommand tag c k)

theorem StepKept.handOn (h : StepKept L) (f : HostFrame) {s : State} (k : L s) : L (handOn f s) := by
  unfold Machine.handOn
  split
  · exact h.answerCommand _ _ k
  · exact h.steady (steady_setLink _ _) k
  · exact h.steady (steady_setLink _ _) k

theorem StepKept.takeFrame (h : StepKept L) (f : HostFrame) {s : State} (k : L s) : L (takeFrame f s) := by
  unfold Machine.takeFrame
  split
  · exact h.handOn f k
  · exact h.steady (steady_setLink _ _) k
  · exact h.steady (steady_setLink _ _) k

theorem StepKept.receiveCommand (h : StepKept L) (tag : Byte) (c : HostCmd) {s : State} (k : L s) :
    L (receiveCommand tag c s) := by
  unfold Machine.receiveCommand
  split
  · exact h.answerCommand tag c k
  · exact h.steady (steady_setLink _ _) k
  · exact h.steady (steady_setLink _ _) k

theorem StepKept.handHeld (h : StepKept L) {s : State} (k : L s) : L (handHeld s) := by
  unfold Machine.handHeld
  split
  · exact k
  · split
    · exact h.handOn _ (h.steady (steady_setLink _ _) k)
    · exact k

theorem steady_huntByte (b : Byte) (s : State) : Steady s (huntByte b s) := by
  unfold huntByte
  split
  · exact steady_setLink _ _
  · exact .refl s

theorem StepKept.hostByte (h : StepKept L) (b : Byte) (gap : Nat) {s : State} (k : L s) : L (hostByte b gap s) := by
  unfold Machine.hostByte
  split
  · exact h.steady (steady_huntByte _ _) k
  · split
    · exact h.steady ((steady_setLink _ _).trans (steady_huntByte _ _)) k
    · unfold frameByte
      split
      · exact h.steady (steady_setLink _ _) k
      · split
        · exact h.steady (steady_setLink _ _) k
        · exact h.takeFrame _ (h.steady (steady_setLink _ _) k)
        · exact h.steady (steady_setLink _ _) k

theorem steady_frameSent (s : State) : Steady s (frameSent s) := by
  unfold frameSent
  split
  · exact .same rfl rfl
  · split
    · exact .same rfl rfl
    · exact .refl s

theorem StepKept.passSample (h : StepKept L) (p : PortNo) (rs : List Reading) {s : State} (k : L s) :
    L (passSample p rs s) := by
  unfold Machine.passSample
  split
  · exact h.stroke rs s k
  · exact h.steady (steady_chamberSample _ _) k
  · exact h.steady (steady_beltSample _ _ _) k
  · exact h.steady (steady_cutterSample _ _) k
  all_goals exact k

theorem StepKept.takeSample (h : StepKept L) (p : PortNo) (body : List Byte) {s : State} (k : L s) :
    L (takeSample p body s) := by
  unfold Machine.takeSample
  split
  · unfold takeLateSample
    split
    · split
      · exact k
      · exact h.passSample p _ (h.steady (steady_setMuck _ _) k)
    · exact k
  · split
    · split
      · exact k
      · exact h.passSample p _ (h.steady (steady_refreshStale _ _) k)
    · exact k

theorem StepKept.takeFieldBytes (h : StepKept L) (p : PortNo) (bytes : List Byte) {s : State} (k : L s) :
    L (takeFieldBytes p bytes s) := by
  unfold Machine.takeFieldBytes
  split
  · exact k
  · exact h.steady (steady_takeAnswer _ _ _ _) k
  · exact h.takeSample p _ k
  · exact h.steady (steady_takeEventBody _ _ _ _) k

/-- The rows that are host commands are received as the commands they name. -/
theorem exec_hostRow {i : Instr} {tag : Byte} {c : HostCmd} (h : hostRow i = some (tag, c)) (s : State) :
    exec i s = .next (receiveCommand tag c s) := by
  cases i <;> cases h <;> rfl

theorem steady_estopDeassert (s : State) : Steady s (estopDeassert s) := .same rfl rfl

theorem steady_retryExpiry (place : Nat) (s : State) : Steady s (retryExpiry place s) := (inside_setReq _ _).toSteady

/-- Every row is taken, and keeps the property. -/
theorem StepKept.exec (h : StepKept L) (i : Instr) {s : State} (k : L s) : ∃ t, exec i s = .next t ∧ L t := by
  cases hrow : hostRow i with
  | some row => exact ⟨_, exec_hostRow (tag := row.1) (c := row.2) hrow s, h.receiveCommand _ _ k⟩
  | none =>
    cases i <;> simp only [hostRow, reduceCtorEq] at hrow
    case powerOn estop straps => exact ⟨_, rfl, h.power _ _ _⟩
    case hostByteReceived byte gap => exact ⟨_, rfl, h.hostByte _ _ k⟩
    case heldCommandHandedOn => exact ⟨_, rfl, h.handHeld k⟩
    case hostFrameSent => exact ⟨_, rfl, h.steady (steady_frameSent _) k⟩
    case estopAsserted => exact ⟨_, rfl, h.estop _ k⟩
    case estopDeasserted => exact ⟨_, rfl, h.steady (steady_estopDeassert _) k⟩
    case strapLineChange p l v => exact ⟨_, rfl, h.steady (steady_strapChange _ _ _ _) k⟩
    case debounceTimerExpiry p => exact ⟨_, rfl, h.steady (steady_debounceExpiry _ _) k⟩
    case partialTimerExpiry p => exact ⟨_, rfl, h.steady (steady_partialExpiry _ _) k⟩
    case settleTimerExpiry p => exact ⟨_, rfl, h.steady (steady_settleExpiry _ _) k⟩
    case staleTimerExpiry p => exact ⟨_, rfl, h.steady (steady_staleExpiry _ _) k⟩
    case fieldFrameDiscard p bytes => exact ⟨_, rfl, h.takeFieldBytes _ _ k⟩
    case sampleFrame p body => exact ⟨_, rfl, h.takeSample _ _ k⟩
    case answerFrame p seq body => exact ⟨_, rfl, h.steady (steady_takeAnswer _ _ _ _) k⟩
    case answerTimerExpiry p => exact ⟨_, rfl, h.steady (steady_answerTimeout _ _) k⟩
    case retryWaitExpiry place => exact ⟨_, rfl, h.steady (steady_retryExpiry _ _) k⟩
    case tableFill => exact ⟨_, rfl, h.steady (inside_fillTable _ _).toSteady k⟩
    case requestDispatch p => exact ⟨_, rfl, h.steady (steady_dispatch _ _) k⟩
    case strokeDone p seq line v peak => exact ⟨_, rfl, h.steady (steady_takeEvent _ _ _ _) k⟩
    case strokeTimerExpiry line => exact ⟨_, rfl, h.steady (inside_strokeTimeout _ _).toSteady k⟩
    case pulseDeliveryTimerExpiry line => exact ⟨_, rfl, h.steady (steady_pulsePause _ _) k⟩
    case pulsePauseTimerExpiry line => exact ⟨_, rfl, h.steady (steady_pulseDeliver _ _) k⟩
    case primeTimerExpiry line => exact ⟨_, rfl, h.steady (steady_primeExpiry _ _) k⟩
    case retracted p seq sector => exact ⟨_, rfl, h.steady (steady_takeEvent _ _ _ _) k⟩
    case placed p seq serial => exact ⟨_, rfl, h.steady (steady_takeEvent _ _ _ _) k⟩
    case returned p seq => exact ⟨_, rfl, h.steady (steady_takeEvent _ _ _ _) k⟩
    case holding p seq sector => exact ⟨_, rfl, h.steady (steady_takeEvent _ _ _ _) k⟩
    case phaseTimerExpiry => exact ⟨_, rfl, h.steady (inside_phaseTimeout _).toSteady k⟩
    case pieceArrived p seq kind serial => exact ⟨_, rfl, h.steady (steady_takeEvent _ _ _ _) k⟩
    case localRequest p seq => exact ⟨_, rfl, h.steady (steady_takeEvent _ _ _ _) k⟩
    case localRelease p seq => exact ⟨_, rfl, h.steady (steady_takeEvent _ _ _ _) k⟩
    case placeRequest p seq => exact ⟨_, rfl, h.steady (steady_takeEvent _ _ _ _) k⟩
    case retryRequest p seq => exact ⟨_, rfl, h.steady (steady_takeEvent _ _ _ _) k⟩
    case backoutRequest p seq => exact ⟨_, rfl, h.steady (steady_takeEvent _ _ _ _) k⟩

/-- A property so kept is kept by every step. -/
theorem StepKept.step (h : StepKept L) {s t : State} (k : L s) (e : step s = .next t) : L t := by
  unfold Machine.step at e
  split at e
  · cases e
    exact k
  · rename_i c rest _
    have hp : Steady s (s.setPending rest) := .same rfl rfl
    obtain ⟨u, hu, hl⟩ := h.exec c (h.steady hp k)
    rw [hu] at e
    exact Host.Outcome.next.inj e ▸ hl

end

end Sys2Proof.Machine

/-! SUPPORT. StopLaws through the turns of a ring and of the output mode: what is suspended at the turn, and the telling
that brings each duty back. -/

namespace Sys2Proof.Machine

/-! ## Duties through a set of tellings -/

theorem Steady.lawful {s t : State} (h : Steady s t) : Lawful s t := h.toLawful

theorem lawful_tellAll {fs : List (State → State)} (h : ∀ f ∈ fs, ∀ s, Lawful s (f s)) (s : State) :
    Lawful s (tellAll fs s) :=
  (steady_setTick (s.tick + 1) s).toLawful.trans
    (applyInOrder_keeps (fun t => Lawful (s.setTick (s.tick + 1)) t) _ _ _ (fun f hf t ht => ht.trans (h f hf t)) _
      (.refl _))

/-- A duty that one of the tellings brings is met after all of them, in whatever order. -/
theorem met_tellAll {fs : List (State → State)} (h : ∀ f ∈ fs, ∀ s, Lawful s (f s)) {d : Duty}
    (hb : ∃ f ∈ fs, ∀ s, d.met (f s)) {s : State} (k : Sound s) : d.met (tellAll fs s) := by
  obtain ⟨f, hf, hd⟩ := hb
  exact applyInOrder_brings Sound (fun t => d.met t) _ _ fs (Nat.le_refl _) (fun g hg t => (h g hg t).laws)
    (fun g hg t kt ht => (h g hg t).duties kt d ht) ⟨f, hf, fun t _ => hd t⟩ _
    ((steady_setTick (s.tick + 1) s).laws k)

/-! ## What each telling brings -/

/-- A move of the advance to IDLE or STROKE_COMPLETE keeps the laws, from anywhere to IDLE, from an active state to
STROKE_COMPLETE. -/
theorem lawful_moveAdvance {new : AdvState} {s : State}
    (h : new = .idle ∨ s.adv.state.active = true ∧ new = .strokeComplete) : Lawful s (moveAdvance new s) := by
  have c := calm_moveAdvance new s
  have hb : new ≠ .boring := by rcases h with rfl | ⟨-, rfl⟩ <;> exact nofun
  have hna : new.active = false := by rcases h with rfl | ⟨-, rfl⟩ <;> rfl
  refine ⟨c.laws (by rw [moveAdvance_adv]) (fun _ e => ?_) screwAtRest_moveAdvance, fun _ => c.duty ?_ ?_ ?_⟩
  · rw [moveAdvance_adv] at e
    exact absurd e hb
  · intro hr hs
    rw [c.ringState] at hs
    rw [moveAdvance_adv]
    rcases h with rfl | ⟨ha, -⟩
    · rfl
    · rw [show s.adv.state = .idle from hr hs] at ha
      exact absurd ha nofun
  · intro _ _
    rw [moveAdvance_adv]
    exact hna
  · intro hc hm
    rw [c.out] at hm
    rw [moveAdvance_adv]
    exact hc hm

/-- The advance is brought to IDLE, unless it is IDLE already (R12, R13). -/
def toIdle (s : State) : State := if s.adv.state = .idle then s else moveAdvance .idle s

theorem lawful_toIdle (s : State) : Lawful s (toIdle s) := by
  unfold toIdle
  split
  · exact .refl s
  · exact lawful_moveAdvance (.inl rfl)

theorem toIdle_adv (s : State) : (toIdle s).adv = { s.adv with state := .idle } := by
  unfold toIdle
  split
  · rename_i h
    rw [← h]
  · exact moveAdvance_adv _ _

theorem calm_toIdle (s : State) : Calm s (toIdle s) := by
  unfold toIdle
  split
  · exact .refl s
  · exact calm_moveAdvance _ _

theorem toIdle_ring (s : State) : (toIdle s).ring = s.ring := by
  unfold toIdle
  split
  · rfl
  · simp [moveAdvance_ring]

theorem restAdvance_eq (s : State) : restAdvance s = (toIdle s).setAdv (toIdle s).adv.rebase := rfl

theorem buildAdvance_eq (s : State) :
    buildAdvance s = contribute (fun r => { r with endStroke := some (stopCutter (toIdle s)).adv.capture })
      (stopCutter (toIdle s)) := rfl

/-- Any contribution to the record keeps the laws: whether a record exists stands. -/
theorem lawful_contribute (f : Record → Record) (s : State) : Lawful s (contribute f s) :=
  .of_stops (by simp only [State.stops, contribute, State.setRing_ring, Option.isSome_map]; rfl)

theorem lawful_restAdvance (s : State) : Lawful s (restAdvance s) :=
  (lawful_toIdle s).trans (.of_stops rfl)

theorem lawful_buildAdvance (s : State) : Lawful s (buildAdvance s) :=
  (lawful_toIdle s).trans ((inside_stopCutter _).toLawful.trans (lawful_contribute _ _))

theorem restAdvance_state (s : State) : (restAdvance s).adv.state = .idle := by
  rw [restAdvance_eq]
  change (toIdle s).adv.state = .idle
  rw [toIdle_adv]

theorem buildAdvance_state (s : State) : (buildAdvance s).adv.state = .idle := by
  rw [buildAdvance_eq]
  change (stopCutter (toIdle s)).adv.state = .idle
  rw [stopCutter_adv, toIdle_adv]
  dsimp only
  split <;> rfl

theorem restBuild_step (s : State) : (restBuild s).build.step = none := rfl

theorem clampAdvance_adv (s : State) : (clampAdvance s).adv = { s.adv with
    cutter := .stopped, state := s.adv.state.stopped } := by
  unfold clampAdvance
  rw [stopCutter_adv, stopAdvance_adv]
  simp [stopped_stopped]

theorem endGrant_free (c : GrantCause) (s : State) : (endGrant c s).build.grant = .free := by
  unfold endGrant
  cases h : s.build.grant <;> simp only [Grant.holder]
  · exact h
  · rfl
  · rfl

theorem stepFault_rest (c : StepCause) (s : State) : stepRest (stepFault c s).build := by
  unfold stepFault
  split
  · rename_i h
    intro st hst
    exact absurd (h.symm.trans hst) nofun
  · rename_i st h
    split
    · have hs : ∀ (r : Report) (f : FaultRec) (u : State), (report r (handFault f u)).build.step = u.build.step := by
        intro r f u
        change (handFault f u).build.step = _
        unfold handFault
        split
        · rfl
        · rw [writeEntry_eq, if_neg (by simp)]
          exact (calm_permitWritten _ _ _ _).step
      intro st' hst'
      rw [hs] at hst'
      cases hst'
      rfl
    · rename_i hr
      intro st' hst'
      cases h.symm.trans hst'
      simpa using hr

/-- OUTPUT and the permit are STOP once the mode is told outside NORMAL (R34). -/
theorem tellOutput_stops (s : State) : OutputStops (tellOutput s) := by
  have hi := inside_tellOutput s
  have ho : (tellOutput s).out = s.out := agree_writeEntry .output _ _ s .out (by simp [permitReach])
  intro hm
  rw [ho] at hm
  have hl : ((tellOutput s).permit.table.get Source.output.idx).level = .stop := by
    unfold tellOutput writeLevel
    rw [writeEntry_level]
    exact outputLevel_stop _ hm
  have hd : permitDerived (tellOutput s).permit := by
    unfold tellOutput writeLevel
    rw [writeEntry_permit]
    exact permitDerived_write ..
  exact ⟨hl, by rw [hd.1, highest_eq_stop_iff]; exact ⟨_, hl⟩⟩

/-! Stopping the lines (R92) -/

theorem dropStroke_line (i j : LineNo) (s : State) :
    ((dropStroke i s).line j).state = (s.line j).state := by
  unfold dropStroke
  split
  · rw [line_setLine]
    split
    · rename_i h
      rw [← h]
    · rfl
  · split
    · rfl
    · rw [line_setLine]
      split
      · rename_i h
        rw [← h]
      · rfl
  all_goals rfl

theorem leaveTrack_line (i j : LineNo) (s : State) : ((leaveTrack i s).line j).state = (s.line j).state := by
  unfold leaveTrack
  split
  · simp [clearRemainders, contribute, State.line]
  · rfl

/-- A stopped line stands STOPPED, and the states of the others stand (R86). -/
theorem stopLine_state (i j : LineNo) (s : State) :
    ((stopLine i s).line j).state = if i = j then .stopped else (s.line j).state := by
  unfold stopLine
  dsimp only
  rw [moveLine_line]
  split
  · rfl
  · rename_i h
    rw [leaveTrack_line, dropStroke_line, line_setLine, if_neg h]

/-- The lines that run are stopped, over a list of them. -/
theorem foldl_stopLine_state (l : List LineNo) (s : State) (j : LineNo) :
    ((l.foldl (fun s i => if (s.line i).state.running then stopLine i s else s) s).line j).state.running = true →
      (s.line j).state.running = true ∧ j ∉ l := by
  induction l generalizing s with
  | nil => exact fun h => ⟨h, by simp⟩
  | cons i l ih =>
    intro h
    obtain ⟨hr, hj⟩ := ih _ h
    dsimp only at hr
    split at hr
    · rw [stopLine_state] at hr
      split at hr
      · exact absurd hr nofun
      · rename_i hij
        exact ⟨hr, by simp [hj, Ne.symm hij]⟩
    · rename_i hi
      refine ⟨hr, ?_⟩
      rw [List.mem_cons]
      rintro (rfl | hm)
      · exact hi hr
      · exact hj hm

theorem writeGrout_lines (s : State) : (writeGrout s).lines = s.lines :=
  agree_writeEntry .grout _ _ s .lines (by simp [permitReach])

theorem clampGrout_rest (s : State) : linesRest (clampGrout s).lines := by
  intro j
  unfold clampGrout
  rw [writeGrout_lines]
  by_contra h
  exact (foldl_stopLine_state _ s j (Bool.not_eq_false _ |>.mp h)).2 (List.mem_finRange j)

/-! ## Rings -/

/-- Raise counts are no part of a level or of the permit (R37). -/
theorem highest_map {f : REntry → REntry} (h : ∀ e, (f e).level = e.level) (t : Vector REntry 8) :
    highest (t.map f) = highest t := by
  unfold highest
  rw [Vector.toList_map, List.foldl_map]
  simp only [h]

theorem decidingSource_map {f : REntry → REntry} (h : ∀ e, (f e).level = e.level) (t : Vector REntry 8) (l : Level) :
    decidingSource (t.map f) l = decidingSource t l := by
  unfold decidingSource
  simp only [get_map, h]

theorem steady_clearRaises (s : State) : Steady s (clearRaises s) := by
  have hd : permitDerived s.permit → permitDerived (clearRaises s).permit := fun h => by
    refine ⟨?_, ?_⟩
    · exact h.1.trans (highest_map (f := fun e => { e with raises := 0 }) (fun _ => rfl) _).symm
    · exact h.2.trans (decidingSource_map (f := fun e => { e with raises := 0 }) (fun _ => rfl) _ _).symm
  refine ⟨⟨rfl, Iff.rfl, id, hd⟩, fun k => ?_, fun _ d k => ?_⟩
  · exact ⟨hd k.permit, k.copy, k.below, k.turning, k.timers, k.current, k.owned, k.modes, k.screw⟩
  · cases d
    case output =>
      refine fun hm => ⟨?_, (k hm).2⟩
      simp only [clearRaises, State.setPermit_permit, get_map]
      exact (k hm).1
    all_goals exact k

theorem steady_openGrout (s : State) : Steady s (openGrout s) :=
  (steady_setLines_map (f := fun l => { l with ringDelivered := 0 }) (fun _ => ⟨rfl, rfl⟩) s).trans
    (inside_writeGrout _).toSteady

theorem lawful_openAdvance (s : State) : Lawful s (openAdvance s) :=
  Lawful.trans (t := s.setAdv s.adv.rebase) (.of_stops rfl) (lawful_contribute _ _)

theorem lawful_openTellings {f : State → State} (h : f ∈ [openAdvance, openMuck, openGrout, clearRaises]) (s : State) :
    Lawful s (f s) := by
  simp only [List.mem_cons, List.not_mem_nil, or_false] at h
  rcases h with rfl | rfl | rfl | rfl
  · exact lawful_openAdvance s
  · exact (steady_openMuck s).toLawful
  · exact (steady_openGrout s).toLawful
  · exact (steady_clearRaises s).toLawful

theorem stopLaws_openRing {s : State} (n : Nat) (key : Fin 8) (h : StopLaws s) (hr : s.ring.state = .none) :
    StopLaws (openRing n key s) := by
  unfold openRing
  refine (lawful_tellAll (fun f hf => lawful_openTellings hf) _).stopLaws ?_
  have hi : s.adv.state = .idle := h.ring.advance (by rw [hr]; exact nofun)
  have hn : s.build.step = none := h.build.idle (by rw [hr]; exact nofun)
  rw [stopLaws_iff] at h ⊢
  obtain ⟨k, hd⟩ := h
  refine ⟨⟨k.permit, k.copy, k.below, k.turning, k.timers, ?_, k.owned, k.modes, k.screw⟩, fun d => ?_⟩
  · simp
  · have hd := hd d
    cases d
    case rest => exact fun _ => hi
    case idle => exact fun _ => hn
    all_goals exact hd

theorem stopLaws_takeRingOpen (n key : Nat) {s : State} (h : StopLaws s) : StopLaws (takeRingOpen n key s).1 := by
  unfold takeRingOpen
  split
  · split
    · exact h
    split
    · exact h
    rename_i hr
    split
    · exact h
    split
    · exact h
    split
    · exact h
    split
    · exact h
    · exact stopLaws_openRing _ _ h (not_not.mp hr)
  · exact h

theorem lawful_ringGrout (s : State) : Lawful s (ringGrout s) := (inside_writeGrout s).toLawful

theorem lawful_buildTellings {f : State → State} (h : f ∈ [buildAdvance, ringGrout]) (s : State) : Lawful s (f s) := by
  simp only [List.mem_cons, List.not_mem_nil, or_false] at h
  rcases h with rfl | rfl
  · exact lawful_buildAdvance s
  · exact lawful_ringGrout s

theorem stopLaws_takeBuildStart {s : State} (h : StopLaws s) : StopLaws (takeBuildStart s).1 := by
  unfold takeBuildStart
  split
  · rename_i hc
    dsimp only
    have hn : s.build.step = none := h.build.idle (by rw [hc.1]; exact nofun)
    rw [stopLaws_iff] at h ⊢
    obtain ⟨k, hd⟩ := h
    set u := s.setRing { s.ring with
      state := .building, current := s.ring.current.map fun r => { r with state := .building } } with hu
    have ku : Sound u := by
      refine ⟨k.permit, k.copy, k.below, k.turning, k.timers, ?_, k.owned, k.modes, k.screw⟩
      have := k.current
      rw [hc.1] at this
      simpa [hu] using this
    refine ⟨(lawful_tellAll (fun f hf => lawful_buildTellings hf) u).laws ku, fun d => ?_⟩
    by_cases hdr : d = .rest
    · subst hdr
      exact met_tellAll (d := .rest) (fun f hf => lawful_buildTellings hf) ⟨buildAdvance, by simp, fun t _ => buildAdvance_state t⟩ ku
    · refine (lawful_tellAll (fun f hf => lawful_buildTellings hf) u).duties ku d ?_
      have hd := hd d
      cases d
      case rest => exact absurd rfl hdr
      case idle => exact fun _ => hn
      all_goals exact hd
  · exact h

theorem lawful_finishTellings {f : State → State} (h : f ∈ [restAdvance, ringGrout, restBuild]) (s : State) :
    Lawful s (f s) := by
  simp only [List.mem_cons, List.not_mem_nil, or_false] at h
  rcases h with rfl | rfl | rfl
  · exact lawful_restAdvance s
  · exact lawful_ringGrout s
  · exact (inside_restBuild s).toLawful

/-- A ring that finishes: the advance rests and no step is left, and every other duty stands as it stood (R96). -/
theorem lawful_finishRing (st : RecordState) (s : State) : Lawful s (finishRing st s) := by
  unfold finishRing
  split
  · exact .refl s
  · rename_i r hr
    dsimp only
    set u := s.setRing { s.ring with
      state := .none, current := none, plan := [], lastNumber := r.number
      history := pushHistory s.ring.history { r with state := st } } with hu
    have hl := lawful_tellAll (fun f hf => lawful_finishTellings hf) u
    have ku : Sound s → Sound u := fun k =>
      ⟨k.permit, k.copy, k.below, k.turning, k.timers, by simp [hu], k.owned, k.modes, k.screw⟩
    refine Lawful.trans ⟨hl.laws ∘ ku, fun k d hd => ?_⟩ (inside_report _ _).toLawful
    by_cases hdr : d = .rest
    · subst hdr
      exact met_tellAll (d := .rest) (fun f hf => lawful_finishTellings hf) ⟨restAdvance, by simp, fun t _ => restAdvance_state t⟩
        (ku k)
    by_cases hdi : d = .idle
    · subst hdi
      exact met_tellAll (d := .idle) (fun f hf => lawful_finishTellings hf) ⟨restBuild, by simp, fun t _ => restBuild_step t⟩ (ku k)
    refine hl.duties (ku k) d ?_
    cases d
    case rest => exact absurd rfl hdr
    case idle => exact absurd rfl hdi
    all_goals exact hd

theorem lawful_takeRingClose (s : State) : Lawful s (takeRingClose s).1 := by
  unfold takeRingClose
  split
  · exact .refl s
  · exact lawful_finishRing _ _

theorem lawful_takeRingAbandon (s : State) : Lawful s (takeRingAbandon s).1 := by
  unfold takeRingAbandon
  split
  · split
    · exact lawful_finishRing _ _
    · exact .refl s
  · exact .refl s

theorem lawful_resetRing (s : State) : Lawful s (resetRing s) := by
  unfold resetRing
  split
  · exact lawful_restAdvance s
  · exact lawful_finishRing _ _

/-! ## The output mode -/

theorem inside_clampAdvance (s : State) : Inside s (clampAdvance s) :=
  (inside_stopAdvance s).trans (inside_stopCutter _)

/-- The tellings of an entry into CLAMPING or RELEASED are inner operations. -/
theorem inside_clampTellings {c : StepCause} {f : State → State} (h : f ∈ clampTellings c) (s : State) :
    Inside s (f s) := by
  simp only [clampTellings, List.mem_cons, List.not_mem_nil, or_false] at h
  rcases h with rfl | rfl | rfl | rfl | rfl | rfl
  · exact inside_tellOutput s
  · exact inside_clampAdvance s
  · exact inside_clampGrout s
  · exact inside_clampBuild c s
  · exact inside_endGrant _ s
  · exact inside_clampRequests s

/-- Every duty of the clamp, but that of the safe writes, is brought by one of the tellings (R171). -/
theorem clampTellings_bring (c : StepCause) {d : Duty} (h : d ≠ .rest) (hi : d ≠ .idle) (hc : d ≠ .clamping) :
    ∃ f ∈ clampTellings c, ∀ s, d.met (f s) := by
  cases d
  case rest => exact absurd rfl h
  case idle => exact absurd rfl hi
  case clamping => exact absurd rfl hc
  case output => exact ⟨tellOutput, by simp [clampTellings], tellOutput_stops⟩
  case lines => exact ⟨clampGrout, by simp [clampTellings], fun s _ => clampGrout_rest s⟩
  case grant => exact ⟨endGrant .output, by simp [clampTellings], fun s _ => endGrant_free _ s⟩
  case step => exact ⟨clampBuild c, by simp [clampTellings], fun s _ st h => stepFault_rest c s st h⟩
  case held =>
    refine ⟨clampBuild c, by simp [clampTellings], fun s _ g hg => ?_⟩
    unfold clampBuild
    rw [holdUnowned_get]
    exact if_pos hg
  case adv =>
    refine ⟨clampAdvance, by simp [clampTellings], fun s _ => ?_⟩
    rw [clampAdvance_adv]
    exact stopped_not_active _
  case cutter =>
    refine ⟨clampAdvance, by simp [clampTellings], fun s _ => ?_⟩
    rw [clampAdvance_adv]

/-- The state is sound, and every duty is met but that of the safe writes. -/
structure Settled (s : State) : Prop where
  sound : Sound s
  duties : ∀ d : Duty, d ≠ .clamping → d.met s

theorem Settled.lawful {s t : State} (h : Settled s) (k : Lawful s t) : Settled t :=
  ⟨k.laws h.sound, fun d hd => k.duties h.sound d (h.duties d hd)⟩

theorem Settled.of_stopLaws {s : State} (h : StopLaws s) : Settled s := by
  rw [stopLaws_iff] at h
  exact ⟨h.1, fun d _ => h.2 d⟩

theorem Settled.stopLaws {s : State} (h : Settled s) (k : s.out.mode = .clamping ↔ ∃ p, s.out.outstanding.get p = true) :
    StopLaws s := by
  rw [stopLaws_iff]
  refine ⟨h.sound, fun d => ?_⟩
  by_cases hd : d = .clamping
  · subst hd
    exact k
  · exact h.duties d hd

/-- The laws do not speak of the mode otherwise than through the duties. -/
theorem Sound.setOut {s : State} (k : Sound s) (v : Output) : Sound (s.setOut v) :=
  ⟨k.permit, k.copy, k.below, k.turning, k.timers, k.current, k.owned, k.modes, k.screw⟩

/-- After the tellings of an entry into CLAMPING or RELEASED the state is settled (R169, R171). -/
theorem settled_clampTellings {c : StepCause} {s : State} (k : Sound s) (hr : Duty.rest.met s) (hi : Duty.idle.met s) :
    Settled (tellAll (clampTellings c) s) := by
  have hl : ∀ f ∈ clampTellings c, ∀ u, Lawful u (f u) := fun f hf u => (inside_clampTellings hf u).toLawful
  have h := lawful_tellAll hl s
  refine ⟨h.laws k, fun d hd => ?_⟩
  by_cases hdr : d = .rest
  · subst hdr
    exact h.duties k _ hr
  by_cases hdi : d = .idle
  · subst hdi
    exact h.duties k _ hi
  exact met_tellAll hl (clampTellings_bring c hdr hdi hd) k

/-- With no safe write outstanding, the tellings change nothing of the Output Unit but the Fault List. -/
theorem clampTellings_out {c : StepCause} {s : State} (h : ∀ p, s.out.outstanding.get p = false) :
    (tellAll (clampTellings c) s).out = { s.out with faults := (tellAll (clampTellings c) s).out.faults } := by
  have hk : Inside (s.setTick (s.tick + 1)) (tellAll (clampTellings c) s) :=
    applyInOrder_keeps (fun t => Inside (s.setTick (s.tick + 1)) t) _ _ _
      (fun f hf t ht => ht.trans (inside_clampTellings hf t)) _ (.refl _)
  exact hk.out h

/-- The safe writes are asked with the mode in CLAMPING, which stands (R169). -/
theorem clampPort_lawful (old : OutMode) {s : State} (p : PortNo) (h : s.out.mode = .clamping) :
    Lawful s (clampPort old s p) ∧ (clampPort old s p).out.mode = .clamping := by
  unfold clampPort
  split
  · exact ⟨.refl s, h⟩
  split
  · exact ⟨(steady_markOutstanding h).toLawful, h⟩
  · refine ⟨(steady_askSafe fun _ => h).toLawful, ?_⟩
    unfold askSafe
    split
    · exact h
    · exact h

theorem registerSafe_lawful (old : OutMode) {s : State} (h : s.out.mode = .clamping) :
    Lawful s (registerSafe old s) ∧ (registerSafe old s).out.mode = .clamping := by
  unfold registerSafe
  generalize List.finRange 16 = l
  induction l generalizing s with
  | nil => exact ⟨.refl s, h⟩
  | cons p l ih =>
    obtain ⟨h1, h2⟩ := clampPort_lawful old p h
    obtain ⟨h3, h4⟩ := ih h2
    exact ⟨h1.trans h3, h4⟩

/-- CLAMPED is entered when no safe write is outstanding: StopLaws holds again (R169, R170). -/
theorem stopLaws_passOn {s : State} (k : Settled s) (h : s.out.mode = .clamping) :
    StopLaws (if s.out.outstandingCount = 0 then enterClamped s else s) := by
  split
  · rename_i h0
    rw [outstandingCount_eq_zero_iff] at h0
    have hc : StopLaws (s.setOut { s.out with mode := .clamped }) := by
      refine Settled.stopLaws ⟨k.sound.setOut _, fun d hd => ?_⟩ (iff_of_false nofun ?_)
      · have hn : ¬ s.out.mode = .normal := by rw [h]; exact nofun
        have := k.duties d hd
        cases d
        case clamping => exact absurd rfl hd
        case rest => exact this
        case idle => exact this
        all_goals exact fun _ => this hn
      · rintro ⟨p, hp⟩
        exact absurd (hp.symm.trans (h0 p)) nofun
    exact ((inside_tellOutput _).toLawful.trans (inside_report _ _).toLawful).stopLaws hc
  · rename_i h0
    refine k.stopLaws (iff_of_true h ?_)
    exact (outstandingCount_ne_zero_iff _).mp h0

theorem StopLaws.none_outstanding {s : State} (k : StopLaws s) (h : s.out.mode ≠ .clamping) :
    ∀ p, s.out.outstanding.get p = false := fun p => by
  by_contra hp
  exact h (k.clamp.clamping.mpr ⟨p, by simpa using hp⟩)

theorem stopLaws_enterClamping {c : OutCause} {s : State} (k : StopLaws s) (h : s.out.mode ≠ .clamping) :
    StopLaws (enterClamping c s) := by
  unfold enterClamping finishClamp
  have ks := Settled.of_stopLaws k
  have hset : Settled (tellAll (clampTellings .clamped) (setMode .clamping c s)) :=
    settled_clampTellings (ks.sound.setOut _) (ks.duties .rest nofun) (ks.duties .idle nofun)
  have hmode : (tellAll (clampTellings .clamped) (setMode .clamping c s)).out.mode = .clamping := by
    rw [clampTellings_out (s := setMode .clamping c s) (k.none_outstanding h)]
    rfl
  obtain ⟨hl, hm⟩ := registerSafe_lawful s.out.mode hmode
  dsimp only
  generalize registerSafe s.out.mode _ = v at hl hm ⊢
  have hm' : (reportMode s.out.mode v).out.mode = .clamping := hm
  exact stopLaws_passOn (hset.lawful (hl.trans (inside_report _ _).toLawful)) hm'

theorem lawful_changeCause {c : OutCause} {s : State} (h : s.out.mode = .clamping) : Lawful s (changeCause c s) := by
  unfold changeCause
  split
  · exact .refl s
  · have hs : Steady s (setMode .clamping c s) :=
      steady_setOut (by simp [h]) fun hd => ⟨fun _ => hd.mp h, fun _ => rfl⟩
    exact hs.toLawful.trans ((inside_tellOutput _).toLawful.trans (inside_report _ _).toLawful)

theorem stopLaws_estopAssert {s : State} (k : StopLaws s) : StopLaws (estopAssert s) := by
  unfold estopAssert
  split
  · exact k
  · have hl : Lawful s (s.setOut { s.out with estop := true }) := .of_stops rfl
    have h := hl.stopLaws k
    dsimp only
    split
    · rename_i hm
      exact (lawful_changeCause hm).stopLaws h
    all_goals
      rename_i hm
      exact stopLaws_enterClamping h (by rw [hm]; exact nofun)

theorem tookMode_fst (s : State) : (tookMode s).1 = s := rfl

theorem stopLaws_takeClamp {s : State} (k : StopLaws s) : StopLaws (takeClamp s).1 := by
  unfold takeClamp
  split
  · rename_i h
    rw [tookMode_fst]
    exact stopLaws_enterClamping k (by rw [h]; exact nofun)
  · rename_i h
    rw [tookMode_fst]
    exact stopLaws_enterClamping k (by rw [h]; exact nofun)
  · exact k
  · exact k

theorem stopLaws_takeResume {s : State} (k : StopLaws s) : StopLaws (takeResume s).1 := by
  unfold takeResume
  split
  · rename_i h
    rw [tookMode_fst]
    exact stopLaws_enterClamping k (by rw [h]; exact nofun)
  all_goals exact k

theorem stopLaws_enterReleased {s : State} (k : StopLaws s) : StopLaws (enterReleased s) := by
  unfold enterReleased
  have ks := Settled.of_stopLaws k
  set u := (setMode .released .release s).setOut { (setMode .released .release s).out with
    outstanding := Vector.replicate 16 false } with hu
  have ku : Sound u := (ks.sound.setOut _).setOut _
  have hno : ∀ p, u.out.outstanding.get p = false := fun p => get_replicate _ _
  have hset : Settled (tellAll (clampTellings .released) u) :=
    settled_clampTellings ku (ks.duties .rest nofun) (ks.duties .idle nofun)
  have hout := clampTellings_out (c := .released) hno
  have hsl : StopLaws (tellAll (clampTellings .released) u) := by
    refine hset.stopLaws (iff_of_false ?_ ?_)
    · rw [hout]
      exact nofun
    · rintro ⟨p, hp⟩
      rw [hout] at hp
      exact absurd (hp.symm.trans (hno p)) nofun
  exact ((steady_foldl steady_askRelinquish _ _).toLawful.trans (inside_report _ _).toLawful).stopLaws hsl

theorem stopLaws_takeRelease {s : State} (k : StopLaws s) : StopLaws (takeRelease s).1 := by
  unfold takeRelease
  split
  · split
    · exact k
    · rw [tookMode_fst]
      exact stopLaws_enterReleased k
  · split
    · exact k
    · rw [tookMode_fst]
      exact stopLaws_enterReleased k
  · exact k
  · exact k

/-! ## RESET_PART -/

/-- Between the steps of RESET_PART: settled, in CLAMPING for the cause RESET, with no safe write outstanding. -/
structure Resetting (s : State) : Prop extends Settled s where
  mode : s.out.mode = .clamping
  cause : s.out.cause = .reset
  none : ∀ p, s.out.outstanding.get p = false

/-- An operation that keeps the laws, and changes of the Output Unit the Fault List at most, leaves the reset going on. -/
theorem Resetting.lawful {s t : State} (h : Resetting s) (k : Lawful s t)
    (ho : t.out = { s.out with faults := t.out.faults }) : Resetting t where
  toSettled := h.toSettled.lawful k
  mode := by rw [ho]; exact h.mode
  cause := by rw [ho]; exact h.cause
  none := by rw [ho]; exact h.none

theorem Resetting.inside {s t : State} (h : Resetting s) (k : Inside s t) : Resetting t :=
  h.lawful k.toLawful (k.out h.none)

theorem changeCause_out (c : OutCause) (s : State) (h : s.out.mode = .clamping) :
    (changeCause c s).out = { s.out with cause := c } := by
  unfold changeCause
  split
  · rename_i hc
    rw [← hc]
  · have : (tellOutput (setMode .clamping c s)).out = (setMode .clamping c s).out :=
      agree_writeEntry .output _ _ _ .out (by simp [permitReach])
    change (tellOutput (setMode .clamping c s)).out = _
    rw [this, ← h]
    rfl

/-- Step 1 of RESET_PART settles the state in CLAMPING with cause RESET (R176). -/
theorem settled_resetEnter {s : State} (k : StopLaws s) :
    Settled (resetEnter s) ∧ (resetEnter s).out.mode = .clamping ∧ (resetEnter s).out.cause = .reset := by
  have hother : s.out.mode ≠ .clamping →
      let t := reportMode s.out.mode (tellAll (clampTellings .clamped) (setMode .clamping .reset s))
      Settled t ∧ t.out.mode = .clamping ∧ t.out.cause = .reset := fun h => by
    have ks := Settled.of_stopLaws k
    have hset : Settled (tellAll (clampTellings .clamped) (setMode .clamping .reset s)) :=
      settled_clampTellings (ks.sound.setOut _) (ks.duties .rest nofun) (ks.duties .idle nofun)
    have hout := clampTellings_out (c := .clamped) (s := setMode .clamping .reset s) (k.none_outstanding h)
    refine ⟨hset.lawful (inside_report _ _).toLawful, ?_, ?_⟩
    · exact (congrArg Output.mode hout).trans rfl
    · exact (congrArg Output.cause hout).trans rfl
  unfold resetEnter
  cases hm : s.out.mode with
  | clamping =>
    refine ⟨(Settled.of_stopLaws k).lawful (lawful_changeCause hm), ?_, ?_⟩
    · simp only [changeCause_out _ _ hm, hm]
    · simp only [changeCause_out _ _ hm]
  | normal => rw [hm] at hother; exact hother nofun
  | clamped => rw [hm] at hother; exact hother nofun
  | released => rw [hm] at hother; exact hother nofun

/-- Step 2 of RESET_PART empties the outstanding set (R176). -/
theorem resetting_resetCancel {s : State} (k : Settled s) (hm : s.out.mode = .clamping) (hc : s.out.cause = .reset) :
    Resetting (resetCancel s) := by
  have h0 : Resetting (s.setOut { s.out with outstanding := Vector.replicate 16 false }) := by
    refine ⟨⟨k.sound.setOut _, fun d hd => ?_⟩, hm, hc, fun p => get_replicate _ _⟩
    have := k.duties d hd
    cases d
    case clamping => exact absurd rfl hd
    all_goals exact this
  exact h0.inside (inside_resetRequests _)

/-- The tellings of a finished ring change nothing of the Output Unit. -/
theorem finishTellings_out {f : State → State} (h : f ∈ [restAdvance, ringGrout, restBuild]) (s : State) :
    (f s).out = s.out := by
  simp only [List.mem_cons, List.not_mem_nil, or_false] at h
  rcases h with rfl | rfl | rfl
  · exact (calm_toIdle s).out
  · exact agree_writeEntry .grout _ _ s .out (by simp [permitReach])
  · rw [restBuild_eq]
    change (withdrawAny (endGrant .ring s)).out = s.out
    have h1 : (endGrant .ring s).out = s.out := by
      unfold endGrant
      split <;> rfl
    have h2 : ∀ u, (withdrawAny u).out = u.out := fun u => by
      unfold withdrawAny withdrawStep
      split
      · rfl
      · split <;> rfl
    rw [h2, h1]

theorem finishRing_out (st : RecordState) (s : State) : (finishRing st s).out = s.out := by
  unfold finishRing
  split
  · rfl
  · exact applyInOrder_keeps (fun t => t.out = s.out) _ _ _ (fun f hf t ht => (finishTellings_out hf t).trans ht) _ rfl

theorem resetRing_out (s : State) : (resetRing s).out = s.out := by
  unfold resetRing
  split
  · exact finishTellings_out (f := restAdvance) (by simp) s
  · exact finishRing_out _ _

theorem steady_resetQueues (s : State) : Steady s (resetQueues s) := by
  have h1 : Steady s (clearSegments s) := steady_setQueue _ _
  have h2 : Steady (clearSegments s) ((clearSegments s).setPres { (clearSegments s).pres with muckTold := .clear }) :=
    steady_setPres rfl
  exact h1.trans (h2.trans (steady_resetMuck _))

theorem writeEntry_out (src : Source) (l : Level) (c : RCause) (s : State) : (writeEntry src l c s).out = s.out :=
  agree_writeEntry src l c s .out (by simp [permitReach])

theorem resetMuck_out (s : State) : (resetMuck s).out = s.out := by
  unfold resetMuck
  dsimp only
  split
  · rw [writeEntry_out, writeEntry_out]
    rfl
  · rw [writeEntry_out]
    rfl

theorem inside_resetFaults (s : State) : Inside s (resetFaults s) :=
  Inside.trans (t := s.setOut { s.out with faults := [] }) (.same (.of_link rfl) rfl rfl rfl)
    (inside_writeEntry _ _ _ (by decide))

/-- RESET_PART before its last step (R176). -/
theorem resetting_before_safe {s : State} (k : StopLaws s) :
    Resetting (resetFaults (resetGrout (resetQueues (resetRing (resetCancel (resetEnter s)))))) := by
  obtain ⟨h1, hm, hc⟩ := settled_resetEnter k
  have h2 := resetting_resetCancel h1 hm hc
  have h3 := h2.lawful (lawful_resetRing _) (by rw [resetRing_out])
  have h4 := h3.lawful (steady_resetQueues _).toLawful
    (by rw [show (resetQueues _).out = _ from resetMuck_out _]; rfl)
  exact (h4.inside (inside_resetGrout _)).inside (inside_resetFaults _)

theorem stopLaws_resetPart {s : State} (k : StopLaws s) : StopLaws (resetPart s) := by
  have h := resetting_before_safe k
  obtain ⟨hl, hm⟩ := registerSafe_lawful .clamping h.mode
  unfold resetPart resetSafe
  generalize registerSafe .clamping _ = v at hl hm ⊢
  exact stopLaws_passOn (h.toSettled.lawful hl) hm

/-! ## Samples and power-on -/

theorem lawful_compareStroke (s : State) : Lawful s (compareStroke s) := by
  unfold compareStroke
  split
  · rename_i h
    have hm : Lawful s (moveAdvance .strokeComplete s) :=
      lawful_moveAdvance (.inr ⟨by rcases h.2 with e | e <;> rw [e] <;> rfl, rfl⟩)
    dsimp only
    split
    · exact hm
    · exact hm.trans (inside_report _ _).toLawful
  · exact .refl s

theorem lawful_massIncrement (m : Nat) (s : State) : Lawful s (massIncrement m s) :=
  (steady_setMuck _ _).toLawful

theorem lawful_creditStroke (d : Nat) (s : State) : Lawful s (creditStroke d s) := by
  have h0 : Lawful s (contribute (Record.advance (s.adv.increment d) (s.adv.credit d).x) (s.setAdv (s.adv.credit d))) :=
    Lawful.trans (t := s.setAdv (s.adv.credit d)) (.of_stops rfl) (lawful_contribute _ _)
  unfold creditStroke
  simp only [State.setAdv_adv]
  generalize contribute _ (s.setAdv (s.adv.credit d)) = u at h0 ⊢
  have h1 : Lawful s (if 0 < (s.adv.increment d).mass then massIncrement (s.adv.increment d).mass u else u) := by
    split
    · exact h0.trans (lawful_massIncrement _ _)
    · exact h0
  generalize (if 0 < (s.adv.increment d).mass then massIncrement (s.adv.increment d).mass u else u) = v at h1 ⊢
  refine Lawful.trans ?_ (lawful_compareStroke _)
  split
  · exact h1.trans (inside_takeDemand _ _).toLawful
  · exact h1

theorem lawful_accountSample (u : State) : Lawful u (accountSample u) := by
  unfold accountSample
  split
  · split
    · exact .refl u
    · dsimp only
      split
      · exact lawful_creditStroke _ _
      · exact Lawful.trans (t := u.setAdv { u.adv with a := u.adv.m }) (.of_stops rfl) (inside_report _ _).toLawful
  · exact .refl u

theorem lawful_strokeSample (rs : List Reading) (s : State) : Lawful s (strokeSample rs s) := by
  have h1 : Lawful s (s.setAdv (s.adv.sense rs)) := .of_stops rfl
  exact (h1.trans (inside_writeLevel _ _ (by decide)).toLawful).trans (lawful_accountSample _)

/-- The permit at power-on is derived from its table (R39). -/
theorem permitDerived_reset (estop : Bool) : permitDerived (Permit.reset estop) := by
  unfold permitDerived
  cases estop <;> decide

theorem stopLaws_powered (estop : Bool) (straps : Vector Straps 16) : StopLaws (State.powered estop straps) where
  permit := permitDerived_reset estop
  boring := ⟨rfl, nofun, nofun, nofun, nofun⟩
  clamp := by
    refine ⟨fun i => .inr ?_, ?_, fun _ => rfl, fun _ i => ?_, fun _ st h => absurd h nofun, fun _ => rfl, fun _ => rfl⟩
    · simp [State.powered, Line.reset]
    · cases estop <;> simp [State.powered, Output.reset]
    · simp [State.powered, Line.reset, LineState.running]
  output := by
    cases estop
    · exact fun h => absurd rfl h
    · exact fun _ => ⟨rfl, rfl⟩
  ring := ⟨by simp [State.powered, Ring.reset], fun _ => rfl⟩
  build := by
    refine ⟨fun _ => rfl, fun sec => ?_, fun g _ => .inr ?_, fun _ g _ => ?_⟩
    · simp [State.powered, Build.reset]
    · simp [State.powered, Build.reset]
    · simp [State.powered, Build.reset]
  screw := .inr rfl

theorem stopLaws_powerUp (estop : Bool) (straps : Vector Straps 16) (s : State) : StopLaws (powerUp estop straps s) := by
  unfold powerUp
  refine (steady_foldl (fun s p => steady_detect p s) _ _).toLawful.stopLaws ?_
  have hl : Lawful (State.powered estop straps) { State.powered estop straps with
      hostLine := s.hostLine, fieldLine := s.fieldLine, tick := s.tick, pending := s.pending } := .of_stops rfl
  exact hl.stopLaws (stopLaws_powered estop straps)

theorem stopLaws_turn (tag : Byte) (c : HostCmd) (s : State) (h : c.turns = true) (k : StopLaws s) :
    StopLaws (takeCommand tag c s).1 := by
  cases c <;> simp only [HostCmd.turns, Bool.false_eq_true] at h
  case setGeometry g =>
    refine Lawful.stopLaws ?_ k
    change Lawful s (takeSetGeometry g s).1
    unfold takeSetGeometry
    split
    · exact .refl s
    · split
      · exact .of_stops rfl
      · exact .refl s
  case ringOpen n key => exact stopLaws_takeRingOpen n key k
  case buildStart => exact stopLaws_takeBuildStart k
  case ringClose => exact (lawful_takeRingClose s).stopLaws k
  case ringAbandon => exact (lawful_takeRingAbandon s).stopLaws k
  case clamp => exact stopLaws_takeClamp k
  case release => exact stopLaws_takeRelease k
  case resume => exact stopLaws_takeResume k
  case resetPart => exact (tookMode_fst (resetPart s)).symm ▸ stopLaws_resetPart k

theorem stepKept_stopLaws : StepKept StopLaws where
  steady h := h.toLawful.stopLaws
  power := stopLaws_powerUp
  command := stopLaws_turn
  estop _ := stopLaws_estopAssert
  stroke rs s := (lawful_strokeSample rs s).stopLaws

/-- Settles O58: the laws hold between any two operations, and each duty that a turn of the mode or of the ring suspends is
brought back by one of its tellings, in whatever order they are taken. -/
theorem stepKeepsStopLaws : Obligations.StepKeepsStopLaws := by
  unfold Obligations.StepKeepsStopLaws
  exact fun s t h e => stepKept_stopLaws.step h e

end Sys2Proof.Machine

/-! SUPPORT. AccountLaws through the steps: the sums of a counted movement, the advance that goes on under a demand, and the
turns of a ring. -/

namespace Sys2Proof.Machine

/-! ## Tellings, in whatever order -/

/-- What every telling keeps stands after all of them. -/
theorem tellAll_keeps (P : State → Prop) {fs : List (State → State)} (hP : ∀ f ∈ fs, ∀ s, P s → P (f s)) {s : State}
    (h : P (s.setTick (s.tick + 1))) : P (tellAll fs s) := applyInOrder_keeps P _ _ _ hP _ h

/-- What one telling brings and the others keep stands after all of them. -/
theorem tellAll_brings (P Q : State → Prop) {fs : List (State → State)} (hP : ∀ f ∈ fs, ∀ s, P s → P (f s))
    (hQ : ∀ f ∈ fs, ∀ s, P s → Q s → Q (f s)) (hb : ∃ f ∈ fs, ∀ s, P s → Q (f s)) {s : State}
    (h : P (s.setTick (s.tick + 1))) : Q (tellAll fs s) :=
  applyInOrder_brings P Q _ _ _ (Nat.le_refl _) hP hQ hb _ h

/-! ## The laws as a law of the meter -/

/-- The laws of the accounted distance, over the meter of a state; done says whether the stroke is complete. -/
structure Meter.Law (m : Meter) (done : Prop) : Prop where
  fits : m.geometry.configured = true → m.geometry.inRanges = true
  configured : m.ring ≠ .none → m.geometry.configured = true
  short : m.ring = .boring → ¬ done → m.x < m.geometry.wR
  bound : m.ring ≠ .none → m.x ≤ m.geometry.wR + 499
  opened : m.account.isSome = true ↔ m.ring ≠ .none
  sums : ∀ n x v, m.account = some (n, x, v) → x = m.x ∧ 100 * v + m.c1 = m.geometry.aF * m.x

theorem accountLaws_iff (s : State) :
    AccountLaws s ↔ permitDerived s.permit ∧ Duty.rest.met s ∧ s.meter.Law (s.adv.state = .strokeComplete) := by
  constructor
  · intro h
    refine ⟨h.permit, h.ring.advance, h.stroke.fits, h.stroke.configured, h.stroke.short, h.stroke.bound, ?_, ?_⟩
    · simpa [State.meter] using h.ring.current
    · intro n x v hm
      obtain ⟨r, hr, he⟩ := Option.map_eq_some_iff.mp hm
      simp only [Record.account, Prod.mk.injEq] at he
      obtain ⟨-, rfl, rfl⟩ := he
      exact ⟨h.stroke.distance r hr, h.stroke.volume r hr⟩
  · rintro ⟨hp, hr, h⟩
    have hs : ∀ r, s.ring.current = some r → s.meter.account = some (r.number, r.x, r.volume) := fun r he => by
      simp only [State.meter, he, Option.map_some, Record.account]
    exact ⟨hp, ⟨by simpa [State.meter] using h.opened, hr⟩, ⟨h.fits, h.configured, h.short, h.bound,
      fun r he => (h.sums _ _ _ (hs r he)).1, fun r he => (h.sums _ _ _ (hs r he)).2⟩⟩

theorem Metered.accountLaws {s t : State} (h : Metered s t) (k : AccountLaws s) : AccountLaws t := by
  rw [accountLaws_iff] at k ⊢
  obtain ⟨hp, hr, hl⟩ := k
  refine ⟨h.permit hp, h.rests hr, ?_⟩
  rw [h.meter, h.complete]
  exact hl

/-- An update that touches nothing the accounting rests on. -/
theorem Metered.same {s t : State} (hm : t.meter = s.meter) (ha : t.adv.state = s.adv.state)
    (hp : t.permit = s.permit) : Metered s t where
  meter := hm
  complete := by rw [ha]
  rests h := by
    have hr : t.ring.state = s.ring.state := congrArg Meter.ring hm
    simp only [Duty.met, hr, ha] at h ⊢
    exact h
  permit h := by rw [hp]; exact h

theorem metered_setOut (v : Output) (s : State) : Metered s (s.setOut v) := .same rfl rfl rfl

theorem metered_foldl {α : Type} {f : State → α → State} (h : ∀ s a, Metered s (f s a)) (l : List α) (s : State) :
    Metered s (l.foldl f s) := by
  induction l generalizing s with
  | nil => exact .refl s
  | cons a l ih => exact (h s a).trans (ih _)

/-! ## The output mode -/

theorem metered_clampPort (old : OutMode) (s : State) (p : PortNo) : Metered s (clampPort old s p) := by
  unfold clampPort askSafe
  split
  · exact .refl s
  · split
    · exact metered_setOut _ s
    · split
      · exact .refl s
      · exact (inside_placeItem _ s).toMetered.trans (metered_setOut _ _)

theorem metered_enterClamped (s : State) : Metered s (enterClamped s) :=
  (metered_setOut _ s).trans ((inside_tellOutput _).trans (inside_report _ _)).toMetered

theorem metered_passOn (s : State) : Metered s (if s.out.outstandingCount = 0 then enterClamped s else s) := by
  split
  · exact metered_enterClamped s
  · exact .refl s

theorem metered_clampTellings (c : StepCause) (s : State) : Metered s (tellAll (clampTellings c) s) :=
  (steady_tellAll (fun _ hf u => (inside_clampTellings hf u).toSteady) s).toMetered

theorem metered_registerSafe (old : OutMode) (s : State) : Metered s (registerSafe old s) :=
  metered_foldl (fun s p => metered_clampPort old s p) _ _

theorem metered_enterClamping (c : OutCause) (s : State) : Metered s (enterClamping c s) := by
  have h : Metered s (tellAll (clampTellings .clamped) (setMode .clamping c s)) :=
    (metered_setOut _ s).trans (metered_clampTellings _ _)
  unfold enterClamping finishClamp
  generalize tellAll (clampTellings .clamped) (setMode .clamping c s) = u at h ⊢
  have hr := metered_registerSafe s.out.mode u
  dsimp only
  generalize registerSafe s.out.mode u = v at hr ⊢
  have hm : Metered v (reportMode s.out.mode v) := (inside_report _ _).toMetered
  generalize reportMode s.out.mode v = w at hm ⊢
  exact h.trans (hr.trans (hm.trans (metered_passOn w)))

theorem metered_changeCause (c : OutCause) (s : State) : Metered s (changeCause c s) := by
  unfold changeCause
  split
  · exact .refl s
  · exact (metered_setOut _ s).trans ((inside_tellOutput _).trans (inside_report _ _)).toMetered

theorem metered_enterReleased (s : State) : Metered s (enterReleased s) := by
  have h : Metered s ((setMode .released .release s).setOut { (setMode .released .release s).out with
      outstanding := Vector.replicate 16 false }) := metered_setOut _ _
  exact h.trans ((metered_clampTellings _ _).trans ((metered_foldl
    (fun s p => (steady_askRelinquish s p).toMetered) _ _).trans (inside_report _ _).toMetered))

theorem metered_estopAssert (s : State) : Metered s (estopAssert s) := by
  unfold estopAssert
  split
  · exact .refl s
  · dsimp only
    split
    · exact (metered_setOut _ s).trans (metered_changeCause _ _)
    all_goals exact (metered_setOut _ s).trans (metered_enterClamping _ _)

theorem metered_takeClamp (s : State) : Metered s (takeClamp s).1 := by
  unfold takeClamp
  split
  · rw [tookMode_fst]
    exact metered_enterClamping .host s
  · rw [tookMode_fst]
    exact metered_enterClamping .host s
  · exact .refl s
  · exact .refl s

theorem metered_takeRelease (s : State) : Metered s (takeRelease s).1 := by
  unfold takeRelease
  split
  · split
    · exact .refl s
    · rw [tookMode_fst]
      exact metered_enterReleased s
  · split
    · exact .refl s
    · rw [tookMode_fst]
      exact metered_enterReleased s
  · exact .refl s
  · exact .refl s

theorem metered_takeResume (s : State) : Metered s (takeResume s).1 := by
  unfold takeResume
  split
  · rw [tookMode_fst]
    exact metered_enterClamping .resume s
  all_goals exact .refl s

/-! ## Rings -/

/-- No ring is open: nothing is accounted. -/
structure Closed (s : State) : Prop where
  permit : permitDerived s.permit
  state : s.ring.state = .none
  current : s.ring.current = none
  fits : s.adv.geometry.configured = true → s.adv.geometry.inRanges = true

theorem Closed.accountLaws {s : State} (h : Closed s) (ha : s.adv.state = .idle) : AccountLaws s :=
  (accountLaws_iff s).mpr ⟨h.permit, fun _ => ha, {
    fits := h.fits
    configured := fun hc => absurd h.state hc
    short := fun hb => absurd (hb.symm.trans h.state) nofun
    bound := fun hc => absurd h.state hc
    opened := iff_of_false (by simp [State.meter, h.current]) (not_not.mpr h.state)
    sums := fun n x v he => absurd he (by simp [State.meter, h.current]) }⟩

theorem AccountLaws.closed {s : State} (h : AccountLaws s) (hr : s.ring.state = .none) : Closed s where
  permit := h.permit
  state := hr
  current := by
    by_contra hc
    exact h.ring.current.mp (Option.isSome_iff_ne_none.mpr hc) hr
  fits := h.stroke.fits

theorem Closed.metered {s t : State} (h : Closed s) (k : Metered s t) : Closed t where
  permit := k.permit h.permit
  state := (congrArg Meter.ring k.meter).trans h.state
  current := by
    have := congrArg Meter.account k.meter
    simp only [State.meter, h.current, Option.map_none, Option.map_eq_none_iff] at this
    exact this
  fits := by
    have hg : t.adv.geometry = s.adv.geometry := congrArg Meter.geometry k.meter
    rw [hg]
    exact h.fits

theorem moveAdvance_permit (new : AdvState) (s : State) : (moveAdvance new s).permit = s.permit :=
  (calm_moveAdvance new s).permit

theorem Closed.restAdvance {s : State} (h : Closed s) : Closed (restAdvance s) := by
  have hc := calm_toIdle s
  refine ⟨?_, ?_, ?_, ?_⟩
  · exact (congrArg permitDerived hc.permit).mpr h.permit
  · exact (congrArg Ring.state (toIdle_ring s)).trans h.state
  · exact (congrArg Ring.current (toIdle_ring s)).trans h.current
  · have hg : (Machine.restAdvance s).adv.geometry = s.adv.geometry := by
      rw [restAdvance_eq]
      change (toIdle s).adv.geometry = _
      rw [toIdle_adv]
    rw [hg]
    exact h.fits

theorem accountLaws_restAdvance {s : State} (h : Closed s) : AccountLaws (restAdvance s) :=
  h.restAdvance.accountLaws (restAdvance_state s)

theorem Closed.finishTelling {f : State → State} (hf : f ∈ [Machine.restAdvance, ringGrout, restBuild]) {s : State}
    (h : Closed s) : Closed (f s) := by
  simp only [List.mem_cons, List.not_mem_nil, or_false] at hf
  rcases hf with rfl | rfl | rfl
  · exact h.restAdvance
  · exact h.metered (inside_writeGrout s).toMetered
  · exact h.metered (inside_restBuild s).toMetered

/-- An advance that is IDLE while no ring is bored stays IDLE as a ring finishes. -/
theorem finishTelling_idle {f : State → State} (hf : f ∈ [restAdvance, ringGrout, restBuild]) {s : State}
    (h : Closed s) (ha : s.adv.state = .idle) : (f s).adv.state = .idle := by
  simp only [List.mem_cons, List.not_mem_nil, or_false] at hf
  have hb : s.ring.state ≠ .boring := by rw [h.state]; exact nofun
  rcases hf with rfl | rfl | rfl
  · exact restAdvance_state s
  · have ht : (writeGrout s).ring.state = s.ring.state := congrArg Meter.ring (inside_writeGrout s).meter
    exact (inside_writeGrout s).rests (fun _ => ha) (by rw [ht]; exact hb)
  · have ht : (restBuild s).ring.state = s.ring.state := congrArg Meter.ring (inside_restBuild s).meter
    exact (inside_restBuild s).rests (fun _ => ha) (by rw [ht]; exact hb)

theorem accountLaws_finishRing {st : RecordState} {s : State} (h : AccountLaws s) : AccountLaws (finishRing st s) := by
  unfold finishRing
  split
  · exact h
  · rename_i r _
    dsimp only
    set u := (s.setRing { s.ring with
      state := .none, current := none, plan := [], lastNumber := r.number
      history := pushHistory s.ring.history { r with state := st } }) with hu
    have hc : Closed u := ⟨h.permit, rfl, rfl, h.stroke.fits⟩
    have hc1 : Closed (u.setTick (u.tick + 1)) := ⟨hc.permit, hc.state, hc.current, hc.fits⟩
    have hk := tellAll_keeps Closed (fun f hf t ht => ht.finishTelling hf) hc1
    have hi := tellAll_brings Closed (fun t => t.adv.state = .idle) (fun f hf t ht => ht.finishTelling hf) (fun f hf t ht ha => finishTelling_idle hf ht ha)
      ⟨restAdvance, by simp, fun t _ => restAdvance_state t⟩ hc1
    exact (inside_report _ _).toMetered.accountLaws (hk.accountLaws hi)

theorem accountLaws_resetRing {s : State} (h : AccountLaws s) : AccountLaws (resetRing s) := by
  unfold resetRing
  split
  · rename_i hr
    have hn : s.ring.state = .none := by
      by_contra hc
      exact absurd (h.ring.current.mpr hc) (by simp [hr])
    exact accountLaws_restAdvance (h.closed hn)
  · exact accountLaws_finishRing h

theorem accountLaws_takeRingClose {s : State} (h : AccountLaws s) : AccountLaws (takeRingClose s).1 := by
  unfold takeRingClose
  split
  · exact h
  · exact accountLaws_finishRing h

theorem accountLaws_takeRingAbandon {s : State} (h : AccountLaws s) : AccountLaws (takeRingAbandon s).1 := by
  unfold takeRingAbandon
  split
  · split
    · exact accountLaws_finishRing h
    · exact h
  · exact h

theorem accountLaws_resetPart {s : State} (h : AccountLaws s) : AccountLaws (resetPart s) := by
  have h1 : Metered s (resetEnter s) := by
    unfold resetEnter
    split
    · exact metered_changeCause _ _
    all_goals
      exact (metered_setOut _ s).trans ((metered_clampTellings _ _).trans (inside_report _ _).toMetered)
  have h2 : Metered s (resetCancel (resetEnter s)) :=
    h1.trans ((metered_setOut _ _).trans (inside_resetRequests _).toMetered)
  have h3 := accountLaws_resetRing (h2.accountLaws h)
  unfold resetPart
  generalize resetRing (resetCancel (resetEnter s)) = u at h3 ⊢
  have h4 : Metered u (resetFaults (resetGrout (resetQueues u))) :=
    (steady_resetQueues u).toMetered.trans ((inside_resetGrout _).toMetered.trans (inside_resetFaults _).toMetered)
  generalize resetFaults (resetGrout (resetQueues u)) = v at h4 ⊢
  have h5 := metered_registerSafe .clamping v
  unfold resetSafe
  dsimp only
  generalize registerSafe .clamping v = w at h5 ⊢
  exact ((h4.trans h5).trans (metered_passOn w)).accountLaws h3

/-! RING_OPEN and BUILD_START -/

/-- A ring being opened: BORING, its record new, the geometry g, the stroke not complete. -/
structure Opening (g : Geometry) (s : State) : Prop where
  permit : permitDerived s.permit
  geometry : s.adv.geometry = g
  state : s.ring.state = .boring
  account : ∃ n, s.ring.current.map Record.account = some (n, 0, 0)
  advance : s.adv.state ≠ .strokeComplete

theorem Opening.metered {g : Geometry} {s t : State} (h : Opening g s) (k : Metered s t) : Opening g t where
  permit := k.permit h.permit
  geometry := (congrArg Meter.geometry k.meter).trans h.geometry
  state := (congrArg Meter.ring k.meter).trans h.state
  account := h.account.imp fun _ he => (congrArg Meter.account k.meter).trans he
  advance := fun e => h.advance (k.complete.mp e)

theorem Opening.openAdvance {g : Geometry} {s : State} (h : Opening g s) : Opening g (openAdvance s) := by
  obtain ⟨n, hn⟩ := h.account
  refine ⟨h.permit, h.geometry, h.state, ⟨n, ?_⟩, h.advance⟩
  rw [← hn]
  simp only [Machine.openAdvance, contribute, State.setRing_ring, Option.map_map]
  rfl

theorem openMuck_counters (s : State) : (openMuck s).adv.x = s.adv.x ∧ (openMuck s).adv.c1 = s.adv.c1 := by
  have h := (steady_openMuck s).meter
  exact ⟨congrArg Meter.x h, congrArg Meter.c1 h⟩

theorem openGrout_counters (s : State) : (openGrout s).adv.x = s.adv.x ∧ (openGrout s).adv.c1 = s.adv.c1 := by
  have h := (steady_openGrout s).meter
  exact ⟨congrArg Meter.x h, congrArg Meter.c1 h⟩

theorem Opening.accountLaws {g : Geometry} {s : State} (h : Opening g s) (hx : s.adv.x = 0 ∧ s.adv.c1 = 0)
    (hg : g.configured = true) (hf : g.inRanges = true) : AccountLaws s := by
  obtain ⟨n, hn⟩ := h.account
  have hw : 0 < g.wR := by
    simp only [Geometry.configured, Bool.and_eq_true, decide_eq_true_eq] at hg
    unfold Geometry.wR
    omega
  rw [accountLaws_iff]
  refine ⟨h.permit, fun hb => absurd h.state hb, ?_⟩
  have hm : s.meter = { geometry := g, x := 0, c1 := 0, ring := .boring, account := some (n, 0, 0) } := by
    simp only [State.meter, h.geometry, hx.1, hx.2, h.state, hn]
  rw [hm]
  exact ⟨fun _ => hf, fun _ => hg, fun _ _ => hw, fun _ => Nat.zero_le _, by simp, fun _ _ _ he => by
    simp only [Option.some.injEq, Prod.mk.injEq] at he
    obtain ⟨-, rfl, rfl⟩ := he
    exact ⟨rfl, by simp⟩⟩

theorem accountLaws_openRing {s : State} (n : Nat) (key : Fin 8) (h : AccountLaws s) (hr : s.ring.state = .none)
    (hg : s.adv.geometry.configured = true) : AccountLaws (openRing n key s) := by
  have hi : s.adv.state = .idle := h.ring.advance (by rw [hr]; exact nofun)
  unfold openRing
  dsimp only
  set u := (s.setRing { s.ring with
    state := .boring, current := some (Record.opened n key), plan := buildPlan key }) with hu
  have h0 : Opening s.adv.geometry (u.setTick (u.tick + 1)) :=
    ⟨h.permit, rfl, rfl, ⟨n, rfl⟩, by rw [show (u.setTick (u.tick + 1)).adv.state = _ from hi]; exact nofun⟩
  have keep : ∀ f ∈ [openAdvance, openMuck, openGrout, clearRaises], ∀ t,
      Opening s.adv.geometry t → Opening s.adv.geometry (f t) := by
    intro f hf t ht
    simp only [List.mem_cons, List.not_mem_nil, or_false] at hf
    rcases hf with rfl | rfl | rfl | rfl
    · exact ht.openAdvance
    · exact ht.metered (steady_openMuck t).toMetered
    · exact ht.metered (steady_openGrout t).toMetered
    · exact ht.metered (steady_clearRaises t).toMetered
  have hx := tellAll_brings (Opening s.adv.geometry) (fun t => t.adv.x = 0 ∧ t.adv.c1 = 0) keep
    (fun f hf t _ hz => by
      simp only [List.mem_cons, List.not_mem_nil, or_false] at hf
      rcases hf with rfl | rfl | rfl | rfl
      · exact ⟨rfl, rfl⟩
      · obtain ⟨h1, h2⟩ := openMuck_counters t
        exact ⟨h1.trans hz.1, h2.trans hz.2⟩
      · obtain ⟨h1, h2⟩ := openGrout_counters t
        exact ⟨h1.trans hz.1, h2.trans hz.2⟩
      · exact hz)
    ⟨openAdvance, by simp, fun t _ => ⟨rfl, rfl⟩⟩ h0
  exact (tellAll_keeps _ keep h0).accountLaws hx hg (h.stroke.fits hg)

theorem accountLaws_takeRingOpen (n key : Nat) {s : State} (h : AccountLaws s) :
    AccountLaws (takeRingOpen n key s).1 := by
  unfold takeRingOpen
  split
  · split
    · exact h
    split
    · exact h
    rename_i hr
    split
    · exact h
    rename_i hg
    split
    · exact h
    split
    · exact h
    split
    · exact h
    · exact accountLaws_openRing _ _ h (not_not.mp hr) (by simpa using hg)
  · exact h

/-- A ring being built, with the meter m. -/
structure Building (m : Meter) (s : State) : Prop where
  permit : permitDerived s.permit
  meter : s.meter = m

theorem Building.buildTelling {m : Meter} {f : State → State} (hf : f ∈ [buildAdvance, ringGrout]) {s : State}
    (h : Building m s) : Building m (f s) := by
  simp only [List.mem_cons, List.not_mem_nil, or_false] at hf
  rcases hf with rfl | rfl
  · have hc := (calm_toIdle s).trans (calm_stopCutter (toIdle s))
    refine ⟨(congrArg permitDerived hc.permit).mpr h.permit, ?_⟩
    have ha : (stopCutter (toIdle s)).adv.geometry = s.adv.geometry ∧ (stopCutter (toIdle s)).adv.x = s.adv.x ∧
        (stopCutter (toIdle s)).adv.c1 = s.adv.c1 := by
      have := frame_adv hc.frame
      rw [this]
      exact ⟨rfl, rfl, rfl⟩
    have hacc := frame_account hc.frame
    rw [← h.meter, buildAdvance_eq]
    simp only [State.meter, contribute, State.setRing_ring, State.setRing_adv, Option.map_map, hc.ringState, ha]
    exact congrArg (Meter.mk _ _ _ _) hacc
  · have k := inside_writeGrout s
    exact ⟨k.permit h.permit, k.meter.trans h.meter⟩

theorem accountLaws_takeBuildStart {s : State} (h : AccountLaws s) : AccountLaws (takeBuildStart s).1 := by
  unfold takeBuildStart
  split
  · rename_i hc
    dsimp only
    have hl := ((accountLaws_iff s).mp h).2.2
    set u := s.setRing { s.ring with
      state := .building, current := s.ring.current.map fun r => { r with state := .building } } with hu
    have hm : u.meter = { s.meter with ring := .building } := by
      simp only [State.meter, hu, State.setRing_ring, State.setRing_adv, Option.map_map]
      rfl
    have hb0 : Building u.meter (u.setTick (u.tick + 1)) := ⟨h.permit, rfl⟩
    have hk := tellAll_keeps (Building u.meter) (fun f hf t ht => ht.buildTelling hf) hb0
    have hi := tellAll_brings (Building u.meter) (fun t => t.adv.state = .idle) (fun f hf t ht => ht.buildTelling hf)
      (fun f hf t ht ha => by
        simp only [List.mem_cons, List.not_mem_nil, or_false] at hf
        rcases hf with rfl | rfl
        · exact buildAdvance_state t
        · refine (inside_writeGrout t).rests (fun _ => ha) ?_
          have hr : (writeGrout t).ring.state = t.ring.state := congrArg Meter.ring (inside_writeGrout t).meter
          have hr' : t.ring.state = .building := congrArg Meter.ring (ht.meter.trans hm)
          rw [hr, hr']
          exact nofun)
      ⟨buildAdvance, by simp, fun t _ => buildAdvance_state t⟩ hb0
    rw [accountLaws_iff]
    refine ⟨hk.permit, fun _ => hi, ?_⟩
    have hne : s.meter.ring ≠ .none := by
      rw [show s.meter.ring = .boring from hc.1]
      exact nofun
    rw [hk.meter, hm]
    exact ⟨hl.fits, fun _ => hl.configured hne, fun e => absurd e nofun, fun _ => hl.bound hne,
      iff_of_true (hl.opened.mpr hne) nofun, hl.sums⟩
  · exact h

theorem accountLaws_takeSetGeometry (g : Geometry) {s : State} (h : AccountLaws s) :
    AccountLaws (takeSetGeometry g s).1 := by
  unfold takeSetGeometry
  split
  · exact h
  rename_i hr
  split
  · rename_i hg
    have hc := h.closed (not_not.mp hr)
    have ha : s.adv.state = .idle := h.ring.advance (by rw [hc.state]; exact nofun)
    have hc' : Closed (s.setAdv { s.adv with geometry := g }) := ⟨hc.permit, hc.state, hc.current, fun _ => hg⟩
    exact hc'.accountLaws ha
  · exact h

theorem accountLaws_powerUp (estop : Bool) (straps : Vector Straps 16) (s : State) :
    AccountLaws (powerUp estop straps s) := by
  unfold powerUp
  refine (steady_foldl (fun s p => steady_detect p s) _ _).toMetered.accountLaws ?_
  have hc : Closed { State.powered estop straps with
      hostLine := s.hostLine, fieldLine := s.fieldLine, tick := s.tick, pending := s.pending } :=
    ⟨permitDerived_reset estop, rfl, rfl, fun h => absurd h (by simp [State.powered, Advance.reset, Geometry.configured])⟩
  exact hc.accountLaws rfl

/-! ## A demand leaves the advance active (R9, R75, R90) -/

/-- The advance is active as before: no write to the Restriction Table is at STOP. -/
def GoesOn (s t : State) : Prop :=
  permitDerived s.permit → permitDerived t.permit ∧ t.adv.state.active = s.adv.state.active

theorem GoesOn.of_eq {s t : State} (ha : t.adv = s.adv) (hp : t.permit = s.permit) : GoesOn s t :=
  fun h => ⟨by rw [hp]; exact h, by rw [ha]⟩

theorem GoesOn.refl (s : State) : GoesOn s s := .of_eq rfl rfl

theorem GoesOn.trans {s t u : State} (h : GoesOn s t) (k : GoesOn t u) : GoesOn s u := fun hp => by
  obtain ⟨ht, ha⟩ := h hp
  obtain ⟨hu, hb⟩ := k ht
  exact ⟨hu, hb.trans ha⟩

theorem goesOn_foldl {α : Type} {f : State → α → State} (h : ∀ s a, GoesOn s (f s a)) (l : List α) (s : State) :
    GoesOn s (l.foldl f s) := by
  induction l generalizing s with
  | nil => exact .refl s
  | cons a l ih => exact (h s a).trans (ih _)

theorem goesOn_writeEntry (src : Source) {l : Level} (c : RCause) (s : State) (h : l ≠ .stop) :
    GoesOn s (writeEntry src l c s) := fun hp =>
  ⟨by rw [writeEntry_permit]; exact permitDerived_write .., writeEntry_active h hp⟩

theorem groutLevel_ne_stop (r : RingState) (v : Vector Line 6) : (groutLevel r v).1 ≠ .stop := by
  unfold groutLevel
  dsimp only
  split
  · exact nofun
  split
  · exact nofun
  split
  · exact nofun
  split
  · exact nofun
  split <;> exact nofun

theorem goesOn_writeGrout (s : State) : GoesOn s (writeGrout s) := goesOn_writeEntry _ _ _ (groutLevel_ne_stop _ _)

theorem goesOn_report (r : Report) (s : State) : GoesOn s (report r s) := .of_eq rfl rfl

theorem goesOn_handFault (f : FaultRec) (s : State) : GoesOn s (handFault f s) := by
  unfold handFault
  split
  · exact .of_eq rfl rfl
  · exact goesOn_writeEntry _ _ _ nofun

theorem goesOn_setLine (i : LineNo) (l : Line) (s : State) : GoesOn s (setLine i l s) := .of_eq rfl rfl

theorem goesOn_moveLine (i : LineNo) (st : LineState) (m : LineMode) (c : LineCause) (s : State) :
    GoesOn s (moveLine i st m c s) := by
  unfold moveLine
  dsimp only
  split
  · exact goesOn_setLine _ _ _
  · exact (goesOn_setLine _ _ _).trans (goesOn_report _ _)

theorem goesOn_faultLine (i : LineNo) (f : FaultFormat) (c : FaultCause) (t : LineCause) (s : State) :
    GoesOn s (faultLine i f c t s) :=
  (goesOn_handFault _ _).trans ((goesOn_setLine _ _ _).trans (goesOn_moveLine _ _ _ _ _))

theorem goesOn_loseLine (i : LineNo) (s : State) : GoesOn s (loseLine i s) := by
  unfold loseLine
  dsimp only
  split
  · exact goesOn_setLine _ _ _
  · exact (goesOn_setLine _ _ _).trans (goesOn_setLine _ _ _)
  all_goals exact (goesOn_setLine _ _ _).trans (goesOn_faultLine _ _ _ _ _)

theorem goesOn_losePump (p : PortNo) (s : State) : GoesOn s (losePump p s) :=
  (goesOn_foldl (fun s i => goesOn_loseLine i s) _ _).trans (goesOn_writeGrout _)

theorem goesOn_issueStroke (i : LineNo) (s : State) : GoesOn s (issueStroke i s) := by
  have hp : GoesOn s (placeItem ⟨.grout, pumpPort i, .action (.stroke i (s.line i).vs)⟩ s).1 := .of_eq rfl rfl
  unfold issueStroke
  dsimp only
  split
  · exact hp.trans (goesOn_setLine _ _ _)
  · exact hp.trans (goesOn_setLine _ _ _)
  · exact hp.trans (goesOn_losePump _ _)

theorem goesOn_shareLine (q w : Nat) (i : LineNo) (s : State) : GoesOn s (shareLine q w i s) := by
  unfold shareLine
  dsimp only
  split
  · exact .of_eq rfl rfl
  · exact .refl s

theorem goesOn_checkTracking (s : State) : GoesOn s (checkTracking s) := by
  refine goesOn_foldl (fun s i => ?_) _ _
  split
  · unfold checkStroke
    split
    · exact goesOn_issueStroke _ _
    · exact .refl s
  · exact .refl s

theorem goesOn_takeDemand (q : Nat) (s : State) : GoesOn s (takeDemand q s) := by
  rw [takeDemand_eq]
  refine GoesOn.trans ?_ ((goesOn_checkTracking _).trans (goesOn_writeGrout _))
  split
  · exact .of_eq rfl rfl
  · exact goesOn_foldl (fun s i => goesOn_shareLine _ _ i s) _ _

/-! ## A counted movement (R5, R6, R10) -/

/-- The sums of a counted movement: no step of R6 loses a part, and the volume of a ring stays far below its field. -/
theorem volume_sums {aF x d c1 v : Nat} (h : 100 * v + c1 = aF * x) (ha : aF ≤ 520000) (hx : x + d ≤ 32499) :
    100 * sat32 v ((aF * d + c1) / 100) + (aF * d + c1) % 100 = aF * (x + d) := by
  have hb : aF * (x + d) ≤ 520000 * 32499 := Nat.mul_le_mul ha hx
  rw [Nat.mul_add] at hb ⊢
  have hs : sat32 v ((aF * d + c1) / 100) = v + (aF * d + c1) / 100 := by
    unfold sat32
    rw [min_eq_left]
    unfold Config.max32
    omega
  rw [hs]
  omega

theorem Geometry.inRanges_bounds {g : Geometry} (h : g.inRanges = true) : g.aF ≤ 520000 ∧ g.wR ≤ 32000 := by
  simp only [Geometry.inRanges, inRange, Bool.and_eq_true, decide_eq_true_eq] at h
  omega

/-- A stroke being accounted: the laws hold, but that X may have reached W_r with the advance still active. -/
structure Counting (s : State) : Prop where
  permit : permitDerived s.permit
  state : s.ring.state = .boring
  active : s.adv.state.active = true
  law : s.meter.Law True

theorem Counting.metered {s t : State} (h : Counting s) (k : Metered s t) (g : GoesOn s t) : Counting t where
  permit := k.permit h.permit
  state := (congrArg Meter.ring k.meter).trans h.state
  active := (g h.permit).2.trans h.active
  law := by rw [k.meter]; exact h.law

theorem active_iff (a : AdvState) : a.active = true ↔ a = .boring ∨ a = .held := by cases a <;> decide

theorem Meter.Law.weaken {m : Meter} {p q : Prop} (h : m.Law p) (k : m.ring = .boring → ¬ q → m.x < m.geometry.wR) :
    m.Law q := ⟨h.fits, h.configured, k, h.bound, h.opened, h.sums⟩

theorem Counting.compareStroke {s : State} (h : Counting s) : AccountLaws (compareStroke s) := by
  unfold Machine.compareStroke
  split
  · have hm : AccountLaws (moveAdvance .strokeComplete s) := by
      rw [accountLaws_iff]
      have hr : (moveAdvance .strokeComplete s).ring.state = .boring := (calm_moveAdvance _ s).ringState.trans h.state
      refine ⟨by rw [moveAdvance_permit]; exact h.permit, fun hb => absurd hr hb, ?_⟩
      have hmet : (moveAdvance .strokeComplete s).meter = s.meter := by
        simp only [State.meter, moveAdvance_adv, (calm_moveAdvance .strokeComplete s).ringState,
          frame_account (calm_moveAdvance .strokeComplete s).frame]
      rw [hmet]
      exact h.law.weaken fun _ hn => absurd (by rw [moveAdvance_adv]) hn
    dsimp only
    split
    · exact hm
    · exact (inside_report _ _).toMetered.accountLaws hm
  · rename_i hc
    rw [accountLaws_iff]
    refine ⟨h.permit, fun hb => absurd h.state hb, h.law.weaken fun _ _ => ?_⟩
    by_contra hx
    exact hc ⟨Nat.le_of_not_lt hx, (active_iff _).mp h.active⟩

theorem accountLaws_creditStroke {d : Nat} {s : State} (h : AccountLaws s) (hr : s.ring.state = .boring)
    (ha : s.adv.state.active = true) (hd : d ≤ 500) : AccountLaws (creditStroke d s) := by
  obtain ⟨hp, -, hl⟩ := (accountLaws_iff s).mp h
  have hne : s.meter.ring ≠ .none := by
    rw [show s.meter.ring = .boring from hr]
    exact nofun
  obtain ⟨haF, hwR⟩ := Geometry.inRanges_bounds (hl.fits (hl.configured hne))
  have hx : s.adv.x < s.adv.geometry.wR := hl.short hr fun e => by
    rw [e] at ha
    exact absurd ha nofun
  have h0 : Counting (contribute (Record.advance (s.adv.increment d) (s.adv.credit d).x) (s.setAdv (s.adv.credit d))) := by
    refine ⟨hp, hr, ha, hl.fits, hl.configured, fun _ hn => absurd trivial hn, fun _ => ?_, ?_, ?_⟩
    · change s.adv.x + d ≤ s.adv.geometry.wR + 499
      omega
    · refine Iff.trans ?_ hl.opened
      simp [State.meter, contribute]
    · intro n x v he
      obtain ⟨r', hr', hacc⟩ := Option.map_eq_some_iff.mp he
      obtain ⟨r, hcur, rfl⟩ := Option.map_eq_some_iff.mp hr'
      have hsum := hl.sums r.number r.x r.volume (by simpa [State.meter, Record.account] using ⟨r, hcur, rfl, rfl, rfl⟩)
      simp only [Record.account, Prod.mk.injEq] at hacc
      obtain ⟨-, rfl, rfl⟩ := hacc
      have hbound : s.adv.x + d ≤ 32499 := by
        change s.adv.geometry.wR ≤ 32000 at hwR
        omega
      exact ⟨rfl, volume_sums hsum.2 haF hbound⟩
  unfold creditStroke
  simp only [State.setAdv_adv]
  generalize contribute _ (s.setAdv (s.adv.credit d)) = u at h0 ⊢
  have h1 : Counting (if 0 < (s.adv.increment d).mass then massIncrement (s.adv.increment d).mass u else u) := by
    split
    · exact h0.metered (steady_setMuck _ _).toMetered (.of_eq rfl rfl)
    · exact h0
  generalize (if 0 < (s.adv.increment d).mass then massIncrement (s.adv.increment d).mass u else u) = v at h1 ⊢
  refine Counting.compareStroke ?_
  split
  · exact h1.metered (inside_takeDemand _ _).toMetered (goesOn_takeDemand _ _)
  · exact h1

/-- What the accounting of a sample demands (R4). -/
theorem accounts_iff (s : State) : accounts s = true ↔
    s.ring.state = .boring ∧ s.adv.state.active = true ∧ 2 ≤ s.adv.validCount := by
  simp [accounts, active_iff, and_assoc]

theorem accountLaws_strokeSample (rs : List Reading) {s : State} (h : AccountLaws s) :
    AccountLaws (strokeSample rs s) := by
  have h0 : Metered s (s.setAdv (s.adv.sense rs)) := .same rfl rfl rfl
  have h1 := h0.trans (inside_writeLevel (src := .strokeRef) (strokeRefLevel (s.setAdv (s.adv.sense rs)).adv.validCount)
    (s.setAdv (s.adv.sense rs)) (by decide)).toMetered
  have hu := h1.accountLaws h
  unfold strokeSample
  dsimp only
  generalize writeLevel .strokeRef _ (s.setAdv (s.adv.sense rs)) = u at hu ⊢
  unfold accountSample
  split
  · rename_i hacc
    obtain ⟨hr, ha, -⟩ := (accounts_iff u).mp hacc
    split
    · exact hu
    dsimp only
    split
    · rename_i hd
      exact accountLaws_creditStroke hu hr ha hd
    · have hm : Metered u (u.setAdv { u.adv with a := u.adv.m }) := .same rfl rfl rfl
      exact (hm.trans (inside_report _ _).toMetered).accountLaws hu
  · exact hu

theorem accountLaws_turn (tag : Byte) (c : HostCmd) (s : State) (h : c.turns = true) (k : AccountLaws s) :
    AccountLaws (takeCommand tag c s).1 := by
  cases c <;> simp only [HostCmd.turns, Bool.false_eq_true] at h
  case setGeometry g => exact accountLaws_takeSetGeometry g k
  case ringOpen n key => exact accountLaws_takeRingOpen n key k
  case buildStart => exact accountLaws_takeBuildStart k
  case ringClose => exact accountLaws_takeRingClose k
  case ringAbandon => exact accountLaws_takeRingAbandon k
  case clamp => exact (metered_takeClamp s).accountLaws k
  case release => exact (metered_takeRelease s).accountLaws k
  case resume => exact (metered_takeResume s).accountLaws k
  case resetPart => exact (tookMode_fst (resetPart s)).symm ▸ accountLaws_resetPart k

theorem stepKept_accountLaws : StepKept AccountLaws where
  steady h := h.toMetered.accountLaws
  power := accountLaws_powerUp
  command := accountLaws_turn
  estop s := (metered_estopAssert s).accountLaws
  stroke rs _ := accountLaws_strokeSample rs

/-- Settles O59: a counted movement keeps the sums, and ends the stroke when X reaches W_r, as a demand never stops the
advance; a ring opens with X at 0 and finishes with the advance at rest. -/
theorem stepKeepsAccountLaws : Obligations.StepKeepsAccountLaws := by
  unfold Obligations.StepKeepsAccountLaws
  exact fun s t h e => stepKept_accountLaws.step h e

end Sys2Proof.Machine

/-! SUPPORT. The values after reset. -/

namespace Sys2Proof.Machine

theorem accountLaws_reset : AccountLaws State.reset := by
  have hc : Closed State.reset := ⟨permitDerived_reset false, rfl, rfl, fun h => absurd h (by decide)⟩
  exact hc.accountLaws rfl

theorem recordLaws_reset : RecordLaws State.reset where
  permit := permitDerived_reset false
  capacity := by constructor <;> decide
  table := by
    refine ⟨fun e he => absurd he ?_, by decide, by decide, fun p => ?_, fun w hw => absurd hw ?_⟩
    · exact List.not_mem_nil
    · exact Nat.zero_le _
    · exact List.not_mem_nil
  transit := rfl
  backlogs := fun i => by simp [State.reset, State.powered, Line.reset]
  segments := ⟨List.nodup_nil, nofun⟩

/-- Settles O60. -/
theorem lawsHoldAtReset : Obligations.LawsHoldAtReset := by
  unfold Obligations.LawsHoldAtReset
  exact ⟨recordLaws_reset, stopLaws_powered _ _, accountLaws_reset⟩

/-! Each vector of the reset state holds one value throughout. -/

theorem reset_lines (i : LineNo) : State.reset.lines.get i = Line.reset := get_replicate _ _

theorem reset_owners (sec : Fin 8) : State.reset.build.owners.get sec = .none := get_replicate _ _

theorem reset_groups (g : Fin 16) : State.reset.build.groups.get g = .hold := get_replicate _ _

theorem reset_ports (p : PortNo) : State.reset.ports.get p = Port.reset Straps.open := by
  unfold State.reset State.powered
  rw [get_map, get_replicate]

theorem reset_seqBytes (p : PortNo) : State.reset.req.seqBytes.get p = 0 := get_replicate _ _

theorem reset_point (p : PortNo) (i : Fin 16) : State.reset.req.point p i = ⟨some 0, none, .clean⟩ := by
  unfold Requests.point State.reset State.powered Requests.reset
  rw [get_replicate, get_replicate]

theorem reset_outstanding (p : PortNo) : State.reset.out.outstanding.get p = false := get_replicate _ _

/-- Settles O2. -/
theorem resetValues : Obligations.ResetValues := by
  unfold Obligations.ResetValues
  dsimp only
  have hline : ∀ i, (State.reset.lines.get i).mode = .none ∧ (State.reset.lines.get i).state = .stopped
      ∧ (State.reset.lines.get i).backlog = 0 ∧ (State.reset.lines.get i).rem = 0
      ∧ (State.reset.lines.get i).phase = .none ∧ (State.reset.lines.get i).timings = ⟨20, 60, 5⟩
      ∧ (State.reset.lines.get i).staged = none := fun i => by
    rw [reset_lines]
    exact ⟨rfl, rfl, rfl, rfl, rfl, rfl, rfl⟩
  have hport : ∀ p, (State.reset.ports.get p).state = .empty ∧ (State.reset.ports.get p).cause = .none
      ∧ (State.reset.ports.get p).supply = false ∧ (State.reset.ports.get p).identity = none
      ∧ (State.reset.ports.get p).noAnswer = 0 := fun p => by
    rw [reset_ports]
    exact ⟨rfl, rfl, rfl, rfl, rfl⟩
  exact ⟨rfl, rfl, rfl, rfl, rfl, rfl, rfl, rfl, rfl, rfl, rfl, rfl, rfl, rfl, rfl, rfl, rfl, rfl, by decide, rfl, rfl,
    rfl, rfl, rfl, rfl, rfl, rfl, rfl, rfl, rfl, rfl, rfl, rfl, rfl, hline, rfl, reset_owners, reset_groups, rfl, rfl,
    hport, rfl, rfl, rfl, reset_seqBytes, reset_point, rfl, rfl, rfl, reset_outstanding, rfl, rfl, rfl, rfl, rfl⟩

end Sys2Proof.Machine

/-! SUPPORT. The setpoints of the Advance Unit: what a job's write does to the Output Image, and that in NORMAL a refresh
leaves every setpoint as commanded value; the advance state after a permit is told. -/

namespace Sys2Proof.Machine

/-! ## The Output Image -/

/-- A job's write commands its value at its point, and leaves the others (R159). -/
theorem jobWrite_point (r : Requests) (o : Bool) (org : Origin) (p q : PortNo) (i j : Fin 16) (v : Nat) :
    (p = q ∧ i = j → ((r.jobWrite o org p i v).point q j).commanded = some v)
      ∧ (¬ (p = q ∧ i = j) → (r.jobWrite o org p i v).point q j = r.point q j) := by
  unfold Requests.jobWrite
  dsimp only
  split
  · rw [point_setPoint]
    exact ⟨fun h => by rw [if_pos h]; rfl, fun h => by rw [if_neg h]; rfl⟩
  · split
    · rw [point_setPoint]
      exact ⟨fun h => by rw [if_pos h]; rfl, fun h => by rw [if_neg h]; rfl⟩
    · rw [point_setPoint]
      exact ⟨fun h => by rw [if_pos h]; rfl, fun h => by rw [if_neg h]⟩

theorem jobWrite_waits (r : Requests) (o : Bool) (org : Origin) (p : PortNo) (i : Fin 16) (v : Nat) :
    (r.jobWrite o org p i v).waits = r.waits := by
  unfold Requests.jobWrite
  dsimp only
  split
  · rfl
  · split <;> rfl

/-! ## The setpoints (R19, R20) -/

/-- The point of a target. -/
def Target.key (t : Target) : PortNo × Fin 16 := (t.port, t.point)

/-- The points that the Advance Unit commands, whatever their values. -/
def targetKeys : List (PortNo × Fin 16) := (targets (Advance.reset .clear)).map Target.key

theorem targets_keys (a : Advance) : (targets a).map Target.key = targetKeys := rfl

theorem targetKeys_nodup : targetKeys.Nodup := by decide +kernel

theorem targetKeys_owner : ∀ k ∈ targetKeys, Config.pointOwner k.1 k.2.val = .advance := by decide +kernel

/-- A target that a placement step owns is passed over (R117). -/
def ownedTarget (s : State) (t : Target) : Bool :=
  match t.groupOf with
  | some g => s.build.owners.get (sectorOf g) == .build
  | none => false

/-- The write of one target: passed over when owned, or when its setpoint is commanded already (R20, R117). -/
theorem writeTarget_fst (s : State) (acc : Requests × Vector GroupState 16) (t : Target) :
    (writeTarget s acc t).1 =
      if ownedTarget s t = true ∨ (acc.1.point t.port t.point).commanded = some t.value then acc.1
      else acc.1.jobWrite (s.portUp t.port) .advance t.port t.point t.value := by
  unfold writeTarget ownedTarget
  cases t.groupOf <;> simp only [Bool.or_eq_true, decide_eq_true_eq] <;> split <;> rfl

theorem writeTarget_holds (s : State) (acc : Requests × Vector GroupState 16) (t : Target)
    (h : ownedTarget s t = false) : ((writeTarget s acc t).1.point t.port t.point).commanded = some t.value := by
  rw [writeTarget_fst]
  split
  · rename_i hc
    exact hc.resolve_left (by simp [h])
  · exact (jobWrite_point ..).1 ⟨rfl, rfl⟩

theorem writeTarget_point_ne (s : State) (acc : Requests × Vector GroupState 16) (t : Target) (q : PortNo)
    (j : Fin 16) (h : t.key ≠ (q, j)) : (writeTarget s acc t).1.point q j = acc.1.point q j := by
  rw [writeTarget_fst]
  split
  · rfl
  · exact (jobWrite_point _ _ _ t.port q t.point j _).2 fun e => h (Prod.ext e.1 e.2)

theorem foldl_writeTarget_point_ne (s : State) (q : PortNo) (j : Fin 16) :
    ∀ (l : List Target) (acc : Requests × Vector GroupState 16), (q, j) ∉ l.map Target.key →
      (l.foldl (writeTarget s) acc).1.point q j = acc.1.point q j
  | [], _, _ => rfl
  | t :: l, acc, h => by
    rw [List.map_cons, List.mem_cons, not_or] at h
    rw [List.foldl_cons, foldl_writeTarget_point_ne s q j l _ h.2]
    exact writeTarget_point_ne s acc t q j (Ne.symm h.1)

theorem foldl_writeTarget_holds (s : State) {x : Target} (hx : ownedTarget s x = false) :
    ∀ (l : List Target) (acc : Requests × Vector GroupState 16), (l.map Target.key).Nodup → x ∈ l →
      ((l.foldl (writeTarget s) acc).1.point x.port x.point).commanded = some x.value
  | t :: l, acc, hn, hm => by
    rw [List.map_cons, List.nodup_cons] at hn
    rw [List.foldl_cons]
    rcases List.mem_cons.mp hm with rfl | hl
    · rw [foldl_writeTarget_point_ne s _ _ l _ hn.1]
      exact writeTarget_holds s acc x hx
    · exact foldl_writeTarget_holds s hx l _ hn.2 hl

theorem foldl_writeTarget_waits (s : State) :
    ∀ (l : List Target) (acc : Requests × Vector GroupState 16), (l.foldl (writeTarget s) acc).1.waits = acc.1.waits
  | [], _ => rfl
  | t :: l, acc => by
    rw [List.foldl_cons, foldl_writeTarget_waits s l, writeTarget_fst]
    split
    · rfl
    · exact jobWrite_waits ..

/-- In NORMAL a refresh leaves every setpoint as commanded value (R19, R20). -/
theorem setpointsHeld_refresh {s : State} (h : s.out.mode = .normal) : SetpointsHeld (refresh s) := by
  intro x hx ho
  change ((setpoints s).1.point x.port x.point).commanded = some x.value
  unfold setpoints
  rw [if_pos h]
  refine foldl_writeTarget_holds s ?_ _ _ (by rw [targets_keys]; exact targetKeys_nodup) hx
  unfold ownedTarget
  split
  · rename_i g hg
    have hn : s.build.owners.get (sectorOf g) = .none := ho g hg
    rw [hn]
    rfl
  · rfl

/-- Outside NORMAL nothing is written (R20). -/
theorem refresh_of_not_normal {s : State} (h : s.out.mode ≠ .normal) : refresh s = s := by
  unfold refresh setpoints
  rw [if_neg h]
  rfl

/-- Points that are not the Advance Unit's are left alone by a refresh. -/
theorem refresh_point {s : State} {p : PortNo} {i : Fin 16} (h : Config.pointOwner p i.val ≠ .advance) :
    (refresh s).req.point p i = s.req.point p i := by
  change (setpoints s).1.point p i = _
  unfold setpoints
  split
  · refine foldl_writeTarget_point_ne s p i _ _ fun hm => h ?_
    rw [targets_keys] at hm
    exact targetKeys_owner _ hm
  · rfl

theorem refresh_groups {s : State} {g : Fin 16} (h : s.build.owners.get (sectorOf g) = .build) :
    (refresh s).build.groups.get g = s.build.groups.get g :=
  ((calm_refresh s).groups g).elim id fun k => absurd h k.2.1

theorem refresh_waits (s : State) : (refresh s).req.waits = s.req.waits := by
  change (setpoints s).1.waits = _
  unfold setpoints
  split
  · exact foldl_writeTarget_waits s _ _
  · rfl

theorem thrustRate_reduced_le {rReq fRed : Nat} (h : fRed ≤ 900) : rReq * fRed / 1000 ≤ rReq := by
  have hm : rReq * fRed ≤ rReq * 1000 := Nat.mul_le_mul_left _ (by omega)
  omega

/-- The thrust rate under the permits (R19). -/
theorem thrustRate_le {fRed : Nat} (h : fRed ≤ 900) (a : AdvState) (l : Level) (rReq : Nat) :
    thrustRate a l rReq fRed ≤ rReq := by
  cases a
  case boring =>
    cases l
    case clear => exact Nat.le_refl _
    case reduced => exact thrustRate_reduced_le h
    all_goals exact Nat.zero_le _
  all_goals exact Nat.zero_le _

/-- Settles O12. -/
theorem setpointsFollowTheAdvance : Obligations.SetpointsFollowTheAdvance := by
  unfold Obligations.SetpointsFollowTheAdvance
  refine ⟨fun a l rReq fRed => ⟨fun h => ?_, rfl, rfl, fun h => thrustRate_le h a l rReq⟩, fun s => ?_⟩
  · cases a
    case boring => exact absurd rfl h
    all_goals rfl
  · exact ⟨setpointsHeld_refresh, refresh_of_not_normal, fun _ _ => refresh_point, fun _ => refresh_groups, rfl, rfl, rfl,
      refresh_waits s, (agree_refresh s).mono (by simp)⟩

/-! ## The advance state (R17, R30) -/

theorem setpointsHeld_moveAdvance {new : AdvState} {s : State} (h : s.out.mode = .normal) :
    SetpointsHeld (moveAdvance new s) := by
  have hm : (advanced new s).out.mode = .normal := by
    rw [(calm_advanced new s).out]
    exact h
  exact setpointsHeld_refresh hm

theorem toldState_of_stop (s : State) :
    toldState .stop s = if s.adv.state = .strokeComplete then .strokeComplete else .idle := by
  unfold toldState
  cases s.adv.state <;> rfl

/-- A HOLD or a STOP takes the advance out of BORING (R17). -/
theorem toldState_leaves {l : Level} {s : State} (h : l = .hold ∨ l = .stop) : toldState l s ≠ .boring := fun hb => by
  have hr := (toldState_boring hb).1
  rcases h with rfl | rfl <;> exact absurd hr (by decide)

/-- An entry into HELD comes of a HOLD told in BORING alone (R17, R36). -/
theorem toldState_held_iff (l : Level) (s : State) :
    toldState l s = .held ∧ s.adv.state ≠ .held ↔ l = .hold ∧ s.adv.state = .boring := by
  unfold toldState
  cases l <;> cases h : s.adv.state <;> by_cases hm : mayBore s = true <;>
    simp [hm, AdvState.active, AdvState.stopped]

theorem tellPermit_holdCount {l : Level} {s : State} {r : Record} (h : s.ring.current = some r) :
    (tellPermit l s).ring.current.map (·.holdCount)
      = some (if l = .hold ∧ s.adv.state = .boring then min (r.holdCount + 1) 65535 else r.holdCount) := by
  rw [tellPermit_ring]
  simp only [toldState_held_iff]
  split <;> rw [h] <;> rfl

/-- Settles O11. -/
theorem advanceStateRule : Obligations.AdvanceStateRule := by
  unfold Obligations.AdvanceStateRule
  refine ⟨fun l s => ?_, fun new s => ?_⟩
  · have ha := tellPermit_adv l s
    dsimp only
    rw [ha]
    refine ⟨rfl, rfl, rfl, ?_, ?_, ?_, ?_, fun r => tellPermit_holdCount, agree_tellPermit l s⟩
    · intro h
      have hne : l ≠ .stop := by rcases h with rfl | rfl <;> exact nofun
      have hst : toldState l s = if s.adv.state = .held ∧ mayBore s = true then .boring else s.adv.state := by
        rcases h with rfl | rfl <;> rfl
      refine ⟨hst, if_neg hne, ?_⟩
      rw [tellPermit_pres, if_neg]
      rintro ⟨hb, hn⟩
      rw [hst, hb] at hn
      simp at hn
    · rintro rfl
      exact ⟨rfl, rfl⟩
    · rintro rfl
      exact ⟨toldState_of_stop s, rfl⟩
    · intro hb h
      rw [tellPermit_pres, if_pos ⟨hb, toldState_leaves h⟩]
      exact ⟨rfl, rfl⟩
  · exact ⟨moveAdvance_adv new s, moveAdvance_pres new s, moveAdvance_ring new s, setpointsHeld_moveAdvance,
      agree_moveAdvance new s⟩

end Sys2Proof.Machine

/-! SUPPORT. A host command handed on: its answer, and the commands of the advance and of the configuration. -/

namespace Sys2Proof.Machine

/-! ## A command handed on at once (R180, R181) -/

theorem passage_taken {s : State} (h : handsOn s) : s.link.passage = .taken := by
  unfold Link.passage
  rw [h.1]
  simp [h.2]

theorem receiveCommand_handsOn {s : State} (h : handsOn s) (tag : Byte) (c : HostCmd) :
    receiveCommand tag c s = answerCommand tag c s := by
  unfold receiveCommand
  rw [passage_taken h]

/-- A row that is a host command, handed on at once, leaves the state its owner makes, with the reply added (R181). -/
theorem exec_command {i : Instr} {tag : Byte} {c : HostCmd} {s u : State} {st : Status} {data : List Byte}
    (hrow : hostRow i = some (tag, c)) (h : handsOn s) (ht : takeCommand tag c s = (u, st, data)) :
    exec i s = .next (withReply tag c.code st data u) := by
  rw [exec_hostRow hrow, receiveCommand_handsOn h]
  unfold answerCommand
  rw [ht]
  rfl

theorem linkGrown_withReply (tag code : Byte) (st : Status) (data : List Byte) (u : State) :
    LinkGrown u (withReply tag code st data u) :=
  ⟨rfl, rfl, rfl, rfl, rfl, rfl, List.prefix_rfl, id⟩

/-- What a command's answer says of the units (R181). -/
theorem Answered.of_taken {ps : List Part} {tag code : Byte} {st : Status} {data : List Byte} {s u : State}
    (g : Grown s u) (a : AgreeBut (.link :: ps) s u) :
    Answered ps s (withReply tag code st data u) tag code st data where
  replies := by
    change u.link.replies ++ _ = _
    rw [g.replies]
  link := g.link.trans (linkGrown_withReply _ _ _ _ _)
  frame := a.trans (agree_setLink (by simp) _ _)

theorem AgreeBut.link {ps : List Part} {s t : State} (h : AgreeBut ps s t) : AgreeBut (.link :: ps) s t :=
  h.mono fun _ => List.mem_cons_of_mem _

/-- A frame is narrowed by a unit that is in fact the same. -/
theorem AgreeBut.narrow {ps qs : List Part} {s t : State} (h : AgreeBut ps s t)
    (hq : ∀ p ∈ ps, p ∉ qs → Part.same s t p) : AgreeBut qs s t := fun p hp => by
  by_cases hm : p ∈ ps
  · exact hq p hm hp
  · exact h p hm

theorem setpointsHeld_withReply {tag code : Byte} {st : Status} {data : List Byte} {u : State}
    (h : SetpointsHeld u) : SetpointsHeld (withReply tag code st data u) := h

/-! ## ADVANCE_START and ADVANCE_STOP (R15, R16) -/

/-- The state after an ADVANCE_START that is taken. -/
def startedAdvance (rate : Nat) (s : State) : State :=
  moveAdvance (startedState s) (s.setAdv { s.adv with rReq := clampNat 1 120 rate })

theorem takeAdvanceStart_of_met {s : State} (rate : Nat) (h : advanceUnmet s = none) :
    takeAdvanceStart rate s = (startedAdvance rate s, if clampNat 1 120 rate = rate then .ok else .okClamped,
      u8 (startedState s).code ++ u8 (clampNat 1 120 rate)) := by
  unfold takeAdvanceStart
  rw [h]
  dsimp only
  rw [moveAdvance_adv]
  rfl

theorem takeAdvanceStart_of_unmet {s : State} {n : Nat} (rate : Nat) (h : advanceUnmet s = some n) :
    takeAdvanceStart rate s = (s, .wrongState, u8 n) := by
  unfold takeAdvanceStart
  rw [h]

theorem startedAdvance_adv (rate : Nat) (s : State) :
    (startedAdvance rate s).adv = { s.adv with rReq := clampNat 1 120 rate, state := startedState s } := by
  unfold startedAdvance
  rw [moveAdvance_adv]
  rfl

/-- An ADVANCE_START does not leave BORING: the screw is left alone (R15, R49). -/
theorem startedAdvance_pres (rate : Nat) (s : State) : (startedAdvance rate s).pres = s.pres := by
  unfold startedAdvance
  rw [moveAdvance_pres, if_neg]
  · rfl
  · rintro ⟨hb, hn⟩
    refine hn ?_
    unfold startedState
    rw [show s.adv.state = .boring from hb]

theorem startedAdvance_ring {s : State} (rate : Nat) (h : s.adv.state ≠ .strokeComplete) :
    (startedAdvance rate s).ring = if s.adv.state = .idle ∧ s.adv.permitCopy = .hold then
      { s.ring with current := s.ring.current.map fun c => { c with holdCount := min (c.holdCount + 1) 65535 } }
      else s.ring := by
  have hiff : startedState s = .held ∧ s.adv.state ≠ .held ↔ s.adv.state = .idle ∧ s.adv.permitCopy = .hold := by
    rw [startedState_eq h]
    cases hs : s.adv.state <;> simp
  unfold startedAdvance
  rw [moveAdvance_ring]
  simp only [State.setAdv_adv, State.setAdv_ring, hiff]
  rfl

theorem agree_startedAdvance (rate : Nat) (s : State) :
    AgreeBut [.adv, .ring, .build, .req] s (startedAdvance rate s) := by
  have h : AgreeBut advanceReach s (startedAdvance rate s) :=
    (agree_setAdv (by simp [advanceReach]) _ s).trans (agree_moveAdvance _ _)
  refine h.narrow fun p _ hp => ?_
  cases p
  case pres => exact startedAdvance_pres rate s
  all_goals simp_all [advanceReach]

theorem grown_startedAdvance (rate : Nat) (s : State) : Grown s (startedAdvance rate s) :=
  Grown.trans (t := s.setAdv { s.adv with rReq := clampNat 1 120 rate }) (.of_link rfl) (calm_moveAdvance _ _).grown

theorem clampNat_eq_self_iff (n : Nat) {lo hi : Nat} (_h : lo ≤ hi) : clampNat lo hi n = n ↔ lo ≤ n ∧ n ≤ hi := by
  unfold clampNat
  split
  · omega
  · split <;> omega

theorem advanceUnmet_complete {s : State} (h : s.adv.state = .strokeComplete) : advanceUnmet s = some 0 := by
  simp [advanceUnmet, h]

theorem exec_advanceStart {s : State} (tag : Byte) (rate : Nat) (h : handsOn s) (hu : advanceUnmet s = none) :
    exec (.advanceStart tag rate) s = .next (withReply tag 0x10
      (if clampNat 1 120 rate = rate then .ok else .okClamped) (u8 (startedState s).code ++ u8 (clampNat 1 120 rate))
      (startedAdvance rate s)) :=
  exec_command (c := .advanceStart rate) rfl h (takeAdvanceStart_of_met rate hu)

theorem exec_advanceStart_unmet {s : State} {n : Nat} (tag : Byte) (rate : Nat) (h : handsOn s)
    (hu : advanceUnmet s = some n) :
    exec (.advanceStart tag rate) s = .next (withReply tag 0x10 .wrongState (u8 n) s) :=
  exec_command (c := .advanceStart rate) rfl h (takeAdvanceStart_of_unmet rate hu)

/-- Settles O13. -/
theorem advanceStartRule : Obligations.AdvanceStartRule := by
  unfold Obligations.AdvanceStartRule
  refine ⟨fun tag rate s h h0 h1 h2 h3 h4 => ?_, fun tag rate s h => ⟨?_, ?_, ?_, ?_, ?_⟩⟩
  · have hu : advanceUnmet s = none := (advanceUnmet_none_iff s).mpr ⟨h0, h1, h2, h3, h4⟩
    dsimp only
    rw [← startedState_eq h0]
    refine ⟨_, exec_advanceStart tag rate h hu, startedAdvance_adv rate s,
      setpointsHeld_withReply (setpointsHeld_moveAdvance h2), startedAdvance_ring rate h0, ?_⟩
    simp only [← clampNat_eq_self_iff rate (show 1 ≤ 120 by decide)]
    exact .of_taken (grown_startedAdvance rate s) (agree_startedAdvance rate s).link
  · exact fun h0 => exec_advanceStart_unmet tag rate h (advanceUnmet_complete h0)
  · exact fun h0 h1 => exec_advanceStart_unmet (n := 1) tag rate h (by simp [advanceUnmet, h0, h1])
  · exact fun h0 h1 h2 => exec_advanceStart_unmet (n := 2) tag rate h (by simp [advanceUnmet, h0, h1, h2])
  · exact fun h0 h1 h2 h3 => exec_advanceStart_unmet (n := 3) tag rate h (by simp [advanceUnmet, h0, h1, h2, h3])
  · exact fun h0 h1 h2 h3 h4 => exec_advanceStart_unmet (n := 4) tag rate h (by simp [advanceUnmet, h0, h1, h2, h3, h4])

/-- The units that stopping the advance or the cutter reaches: the record is not one of them. -/
theorem agree_withoutRing {s t : State} (h : AgreeBut advanceReach s t) (hr : t.ring = s.ring) :
    AgreeBut [.adv, .pres, .build, .req] s t := by
  refine h.narrow fun p _ hp => ?_
  cases p
  case ring => exact hr
  all_goals simp_all [advanceReach]

theorem setpointsHeld_stopAdvance {s : State} (ha : s.adv.state.active = true) (h : s.out.mode = .normal) :
    SetpointsHeld (stopAdvance s) := by
  rw [stopAdvance_eq, if_pos ha]
  exact setpointsHeld_moveAdvance h

theorem takeAdvanceStop_of_ne_idle {s : State} (h : s.adv.state ≠ .idle) :
    takeAdvanceStop s = (stopAdvance s, .ok, u8 (stopAdvance s).adv.state.code) := by
  unfold takeAdvanceStop
  split
  · rename_i e
    exact absurd e h
  all_goals rfl

/-- Settles O14. -/
theorem advanceStopRule : Obligations.AdvanceStopRule := by
  unfold Obligations.AdvanceStopRule
  intro tag s h
  refine ⟨fun hs => ?_, fun hs => ?_, fun hs => ?_, fun rate hu => ?_⟩
  · have ha : s.adv.state.active = true := (active_iff _).mpr hs
    have hadv : (stopAdvance s).adv = { s.adv with state := .idle } := by
      rw [stopAdvance_adv, AdvState.stopped, if_pos ha]
    have hd : u8 (stopAdvance s).adv.state.code = [0] :=
      (congrArg (fun a => u8 a.state.code) hadv).trans (by decide : u8 AdvState.idle.code = [0])
    have ht : takeCommand tag .advanceStop s = (stopAdvance s, .ok, [0]) :=
      (takeAdvanceStop_of_ne_idle fun e => by rw [e] at ha; exact absurd ha nofun).trans (by rw [hd])
    refine ⟨_, exec_command (c := .advanceStop) rfl h ht, hadv, stopAdvance_ring s, fun hb => ?_, fun hh => ?_,
      fun hm => setpointsHeld_withReply (setpointsHeld_stopAdvance ha hm), ?_⟩
    · change (stopAdvance s).pres.setpoint = 0 ∧ (stopAdvance s).pres.sOld = 0
      rw [stopAdvance_pres, if_pos hb]
      exact ⟨rfl, rfl⟩
    · change (stopAdvance s).pres = s.pres
      rw [stopAdvance_pres, if_neg (by rw [hh]; exact nofun)]
    · exact .of_taken (calm_stopAdvance s).grown (agree_withoutRing (agree_stopAdvance s) (stopAdvance_ring s)).link
  · refine exec_command (c := .advanceStop) rfl h ?_
    change takeAdvanceStop s = _
    unfold takeAdvanceStop
    rw [hs]
    rfl
  · have hst : stopAdvance s = s := by rw [stopAdvance_eq, hs]; rfl
    have hd : u8 s.adv.state.code = [3] := by
      rw [hs]
      decide
    refine exec_command (c := .advanceStop) rfl h ?_
    change takeAdvanceStop s = _
    rw [takeAdvanceStop_of_ne_idle (by rw [hs]; exact nofun), hst, hd]
  · exact ⟨_, exec_advanceStart tag rate h hu, congrArg Advance.rReq (startedAdvance_adv rate s)⟩

/-! ## CUTTER_SET (R21) -/

theorem exec_cutterSet {s u : State} {tag : Byte} {speed : Nat} {st : Status} {data : List Byte} (h : handsOn s)
    (ht : takeCutterSet speed s = (u, st, data)) :
    exec (.cutterSet tag speed) s = .next (withReply tag 0x12 st data u) :=
  exec_command (c := .cutterSet speed) rfl h ht

theorem takeCutterSet_stop {s : State} (h : s.ring.state ≠ .building) :
    takeCutterSet 0 s = (stopCutter s, .ok, [0, 0, 0]) := by
  have hd : u8 (stopCutter s).adv.cutter.code ++ u16 (stopCutter s).adv.cutter.speed = [0, 0, 0] :=
    (congrArg (fun a => u8 a.cutter.code ++ u16 a.cutter.speed) (stopCutter_adv s)).trans
      (by decide : u8 Cutter.stopped.code ++ u16 Cutter.stopped.speed = [0, 0, 0])
  unfold takeCutterSet
  rw [if_neg h, if_neg (by simp)]
  dsimp only
  rw [if_pos rfl, hd, if_pos (.inl rfl)]

theorem setpointsHeld_stopCutter {s : State} (hc : s.adv.cutter ≠ .stopped) (h : s.out.mode = .normal) :
    SetpointsHeld (stopCutter s) := by
  rw [stopCutter_eq, if_neg hc]
  refine setpointsHeld_refresh ?_
  rw [(calm_stopAdvance _).out]
  exact h

/-- Settles O15. -/
theorem cutterSetRule : Obligations.CutterSetRule := by
  unfold Obligations.CutterSetRule
  intro tag speed s h
  refine ⟨fun hw => exec_cutterSet h ?_, fun hr hm hs => ?_, fun hr hs hc => ?_, fun hr hs hc => ?_⟩
  · unfold takeCutterSet
    by_cases hb : s.ring.state = .building
    · rw [if_pos hb]
      rfl
    · rw [if_neg hb, if_pos (hw.resolve_left hb)]
      rfl
  · have ht : takeCutterSet speed s = (refresh (s.setAdv { s.adv with cutter := .turning (clampNat 50 400 speed) }),
        if 50 ≤ speed ∧ speed ≤ 400 then .ok else .okClamped, u8 1 ++ u16 (clampNat 50 400 speed)) := by
      unfold takeCutterSet
      rw [if_neg hr, if_neg (by simp [hm])]
      simp [hs, inRange, cutterFor, Cutter.code, Cutter.speed]
    refine ⟨_, exec_cutterSet h ht, rfl, setpointsHeld_withReply (setpointsHeld_refresh hm), ?_⟩
    exact .of_taken (.of_link rfl) (AgreeBut.link ((agree_setAdv (by simp) _ s).trans ((agree_refresh _).mono (by simp))))
  · subst hs
    refine ⟨_, exec_cutterSet h (takeCutterSet_stop hr), ?_, fun hb => ?_,
      fun hm => setpointsHeld_withReply (setpointsHeld_stopCutter hc hm), stopCutter_ring s, ?_⟩
    · change (stopCutter s).adv = _
      rw [stopCutter_adv, if_neg hc]
      rfl
    · change (stopCutter s).pres.setpoint = 0
      rw [stopCutter_pres, if_pos ⟨hc, hb⟩]
    · exact .of_taken (calm_stopCutter s).grown (agree_withoutRing (agree_stopCutter s) (stopCutter_ring s)).link
  · subst hs
    have hst : stopCutter s = s := by rw [stopCutter_eq, if_pos hc]
    refine exec_cutterSet h ?_
    rw [takeCutterSet_stop hr, hst]

/-! ## The configuration (R23, R24, R25, R51, R68) -/

theorem Geometry.inRanges_iff (g : Geometry) : g.inRanges = true ↔
    (100000 ≤ g.aF ∧ g.aF ≤ 520000) ∧ (5000 ≤ g.aA ∧ g.aA ≤ 60000) ∧ (8000 ≤ g.width ∧ g.width ≤ 20000)
      ∧ g.clearance ≤ 3000 ∧ (16000 ≤ g.strokeLimit ∧ g.strokeLimit ≤ 32000) ∧ g.width + g.clearance ≤ g.strokeLimit := by
  simp only [Geometry.inRanges, inRange, and_assoc, Bool.and_eq_true, decide_eq_true_eq, Nat.zero_le, true_and]
  exact Iff.rfl

theorem Ground.inRanges_iff (g : Ground) : g.inRanges = true ↔
    (1200 ≤ g.rho ∧ g.rho ≤ 2600) ∧ (1000 ≤ g.fill ∧ g.fill ≤ 1600) ∧ g.voidCap ≤ 500 := by
  simp [Ground.inRanges, inRange, and_assoc]

theorem PSettings.inRanges_iff (p : PSettings) : p.inRanges = true ↔
    (500 ≤ p.pSet ∧ p.pSet ≤ 6000) ∧ (20 ≤ p.bS ∧ p.bS ≤ 500) ∧ (p.bS < p.bH ∧ p.bH ≤ 1500) ∧ p.gain ≤ 1023
      ∧ (1 ≤ p.rate ∧ p.rate ≤ 50) ∧ p.sMin ≤ 100 ∧ (50 ≤ p.sMax ∧ p.sMax ≤ 250)
      ∧ (300 ≤ p.dOvx ∧ p.dOvx ≤ 1000) := by
  simp [PSettings.inRanges, inRange, and_assoc]

theorem takeSetGeometry_closed {s : State} (g : Geometry) (h : s.ring.state = .none) :
    takeSetGeometry g s = if g.inRanges then (s.setAdv { s.adv with geometry := g }, .ok, []) else (s, .badValue, []) :=
  if_neg (not_not.mpr h)

theorem takeSetGround_closed {s : State} (g : Ground) (h : s.ring.state = .none) :
    takeSetGround g s = if g.inRanges then (s.setAdv { s.adv with ground := g }, .ok, []) else (s, .badValue, []) :=
  if_neg (not_not.mpr h)

/-- A command that is whole or not at all: taken on a condition, refused with BAD_VALUE otherwise. -/
theorem exec_whole {i : Instr} {tag : Byte} {c : HostCmd} {s u : State} {data : List Byte} {p : Prop} {b : Bool}
    [Decidable p] (hrow : hostRow i = some (tag, c)) (h : handsOn s) (hb : b = true ↔ p)
    (ht : takeCommand tag c s = if b = true then (u, .ok, data) else (s, .badValue, [])) :
    exec i s = .next (if p then withReply tag c.code .ok data u else withReply tag c.code .badValue [] s) := by
  by_cases hp : p
  · rw [if_pos hp]
    exact exec_command hrow h (ht.trans (if_pos (hb.mpr hp)))
  · rw [if_neg hp]
    exact exec_command hrow h (ht.trans (if_neg fun e => hp (hb.mp e)))

theorem limits_iff (fRed tWarn : Nat) : (inRange 100 900 fRed && inRange 500 990 tWarn) = true ↔
    100 ≤ fRed ∧ fRed ≤ 900 ∧ 500 ≤ tWarn ∧ tWarn ≤ 990 := by
  simp [inRange, and_assoc]

theorem balance_iff (lT lOvx : Nat) : (inRange 100 50000 lT && inRange 100 20000 lOvx) = true ↔
    (100 ≤ lT ∧ lT ≤ 50000) ∧ (100 ≤ lOvx ∧ lOvx ≤ 20000) := by
  simp [inRange]

/-- Settles O16. -/
theorem configurationIsSet : Obligations.ConfigurationIsSet := by
  unfold Obligations.ConfigurationIsSet
  refine ⟨fun tag s h => ⟨fun aF aA width clearance stroke => ⟨fun hr => ?_, fun hr => ?_⟩,
    fun rho fill cap => ⟨fun hr => ?_, fun hr => ?_⟩⟩, fun tag fRed tWarn s h => ⟨fun hf => ?_, fun hf => ?_⟩,
    fun tag pSet bS bH gain rate sMin sMax dOvx s h => ?_, fun tag lT lOvx s h => ?_, fun tag body s h hb => ?_⟩
  · exact exec_command (c := .setGeometry ⟨aF, aA, width, clearance, stroke⟩) rfl h (if_pos hr)
  · exact exec_whole (c := .setGeometry ⟨aF, aA, width, clearance, stroke⟩) rfl h (Geometry.inRanges_iff _)
      (takeSetGeometry_closed _ hr)
  · exact exec_command (c := .setGround ⟨rho, fill, cap⟩) rfl h (if_pos hr)
  · exact exec_whole (c := .setGround ⟨rho, fill, cap⟩) rfl h (Ground.inRanges_iff _) (takeSetGround_closed _ hr)
  · refine ⟨_, exec_command (c := .setLimits fRed tWarn) rfl h (if_pos ((limits_iff _ _).mpr hf)), rfl,
      fun hm => setpointsHeld_withReply (setpointsHeld_refresh hm), ?_⟩
    exact .of_taken (.of_link rfl) (AgreeBut.link ((agree_setAdv (by simp) _ s).trans ((agree_refresh _).mono (by simp))))
  · exact exec_command (c := .setLimits fRed tWarn) rfl h (if_neg fun e => hf ((limits_iff _ _).mp e))
  · exact exec_whole (c := .setPressure ⟨pSet, bS, bH, gain, rate, sMin, sMax, dOvx⟩) rfl h (PSettings.inRanges_iff _) rfl
  · exact exec_whole (c := .setBalance ⟨lT, lOvx⟩) rfl h (balance_iff _ _) rfl
  · unfold takeFrame
    rw [passage_taken h]
    have hp : hostParse 0x1C body = .badLength := if_neg hb
    unfold handOn
    rw [hp]
    rfl

end Sys2Proof.Machine

/-! SUPPORT. The arithmetic of an increment, and a stroke sample. -/

namespace Sys2Proof.Machine

/-! ## The Transit Queue (R56, R57) -/

theorem queuedMass_append (q : List Parcel) (p : Parcel) : queuedMass (q ++ [p]) = queuedMass q + p.mass := by
  simp [queuedMass]

theorem queuedMass_cons (p : Parcel) (q : List Parcel) : queuedMass (p :: q) = p.mass + queuedMass q := by
  simp [queuedMass]

/-- A mass added to the newest parcel is not lost, when there is a parcel. -/
theorem queuedMass_addToNewest (m : Nat) : ∀ {q : List Parcel}, q ≠ [] → queuedMass (addToNewest m q) = queuedMass q + m
  | [p], _ => rfl
  | p :: q :: rest, _ => by
    rw [addToNewest, queuedMass_cons, queuedMass_cons, queuedMass_addToNewest m (List.cons_ne_nil q rest), Nat.add_assoc]

theorem length_addToNewest (m : Nat) : ∀ q : List Parcel, (addToNewest m q).length = q.length
  | [] => rfl
  | [_] => rfl
  | p :: q :: rest => by
    rw [addToNewest, List.length_cons, length_addToNewest m (q :: rest)]
    rfl

theorem enqueue_of_getLast {k : Muck} {newest : Parcel} (h : k.queue.getLast? = some newest) (m ring : Nat) :
    k.enqueue m ring =
      if 64 ≤ k.queue.length ∨ newest.due = k.due then addToNewest m k.queue else k.queue ++ [⟨m, k.due, ring⟩] := by
  unfold Muck.enqueue
  rw [h]
  rfl

theorem enqueue_of_empty {k : Muck} (h : k.queue = []) (m ring : Nat) : k.enqueue m ring = [⟨m, k.due, ring⟩] := by
  unfold Muck.enqueue
  rw [h]
  rfl

theorem queuedMass_enqueue (k : Muck) (m ring : Nat) : queuedMass (k.enqueue m ring) = queuedMass k.queue + m := by
  cases h : k.queue.getLast? with
  | none =>
    rw [List.getLast?_eq_none_iff] at h
    rw [enqueue_of_empty h, h]
    simp [queuedMass]
  | some newest =>
    rw [enqueue_of_getLast h]
    split
    · exact queuedMass_addToNewest m fun e => by simp [e] at h
    · exact queuedMass_append _ _

theorem length_enqueue (k : Muck) (m ring : Nat) :
    (k.enqueue m ring).length = match k.queue.getLast? with
      | none => 1
      | some newest =>
        if 64 ≤ k.queue.length ∨ newest.due = k.due then k.queue.length else k.queue.length + 1 := by
  cases h : k.queue.getLast? with
  | none =>
    rw [List.getLast?_eq_none_iff] at h
    rw [enqueue_of_empty h]
    rfl
  | some newest =>
    rw [enqueue_of_getLast h]
    dsimp only
    split
    · exact length_addToNewest m _
    · exact List.length_append

theorem agree_setMuck {ps : List Part} (hp : .muck ∈ ps) (v : Muck) (s : State) : AgreeBut ps s (s.setMuck v) := by
  intro p h
  cases p
  case muck => exact absurd hp h
  all_goals rfl

/-- Settles O17. -/
theorem incrementsLoseNothing : Obligations.IncrementsLoseNothing := by
  unfold Obligations.IncrementsLoseNothing
  refine ⟨fun a d => ⟨Nat.div_add_mod _ 100, Nat.mod_lt _ (by decide), Nat.div_add_mod _ 1000000,
    Nat.mod_lt _ (by decide), Nat.div_add_mod _ 100000, Nat.mod_lt _ (by decide), rfl, rfl, rfl⟩, fun m s => ?_⟩
  exact ⟨queuedMass_enqueue _ _ _, rfl, rfl, length_enqueue _ _ _, fun h => enqueue_of_empty h _ _,
    agree_setMuck (by simp) _ s⟩

/-! ## A stroke sample (R1, R2, R4, R5, R9, R10) -/

theorem accountSample_of_not {s : State} (h : accounts s = false ∨ s.adv.m ≤ s.adv.a) : accountSample s = s := by
  unfold accountSample
  split
  · rename_i hc
    rw [if_pos (h.resolve_left (by simp [hc]))]
  · rfl

theorem accountSample_of_jump {s : State} (h : accounts s = true) (hj : s.adv.a + 500 < s.adv.m) :
    accountSample s = report (.strokeJump s.ring.number s.adv.m s.adv.a (s.adv.m - s.adv.a))
      (s.setAdv { s.adv with a := s.adv.m }) := by
  unfold accountSample
  rw [if_pos h, if_neg (by omega)]
  exact if_neg (by omega)

theorem accountSample_of_move {s : State} (h : accounts s = true) (hm : s.adv.a < s.adv.m)
    (hj : s.adv.m ≤ s.adv.a + 500) : accountSample s = creditStroke (s.adv.m - s.adv.a) s := by
  unfold accountSample
  rw [if_pos h, if_neg (by omega)]
  exact if_pos (by omega)

theorem compareStroke_adv (s : State) :
    (compareStroke s).adv.x = s.adv.x ∧ (compareStroke s).adv.a = s.adv.a := by
  unfold compareStroke
  split
  · have h : (moveAdvance .strokeComplete s).adv.x = s.adv.x ∧ (moveAdvance .strokeComplete s).adv.a = s.adv.a := by
      rw [moveAdvance_adv]
      exact ⟨rfl, rfl⟩
    dsimp only
    split <;> exact h
  · exact ⟨rfl, rfl⟩

/-- The state that the increment of a movement leaves before it is handed on: mark, X, carries and record (R4, R9). -/
def credited (d : Nat) (s : State) : State :=
  (s.setAdv (s.adv.credit d)).setRing { s.ring with
    current := s.ring.current.map (Record.advance (s.adv.increment d) (s.adv.x + d)) }

theorem creditStroke_eq (d : Nat) (s : State) :
    creditStroke d s =
      let w := if (s.adv.increment d).mass = 0 then credited d s
        else massIncrement (s.adv.increment d).mass (credited d s)
      compareStroke (if (s.adv.increment d).demand = 0 then w else takeDemand (s.adv.increment d).demand w) := by
  unfold creditStroke
  dsimp only
  simp only [Nat.pos_iff_ne_zero, ite_not]
  rfl

theorem creditStroke_adv (d : Nat) (s : State) :
    (creditStroke d s).adv.x = s.adv.x + d ∧ (creditStroke d s).adv.a = s.adv.m := by
  have h0 : (credited d s).adv.x = s.adv.x + d ∧ (credited d s).adv.a = s.adv.m := ⟨rfl, rfl⟩
  rw [creditStroke_eq]
  dsimp only
  generalize credited d s = u at h0 ⊢
  have h1 : (if (s.adv.increment d).mass = 0 then u else massIncrement (s.adv.increment d).mass u).adv = u.adv := by
    split <;> rfl
  rw [← h1] at h0
  generalize (if (s.adv.increment d).mass = 0 then u else massIncrement (s.adv.increment d).mass u) = v at h0 ⊢
  rw [(compareStroke_adv _).1, (compareStroke_adv _).2]
  split
  · exact h0
  · rw [frame_adv (inside_takeDemand (s.adv.increment d).demand v).frame]
    exact h0

theorem compareStroke_of_not {s : State} (h : s.adv.x < s.adv.geometry.wR ∨ s.adv.state.active = false) :
    compareStroke s = s := by
  unfold compareStroke
  refine if_neg ?_
  rw [← active_iff]
  rintro ⟨hx, ha⟩
  exact h.elim (fun e => absurd hx (by omega)) fun e => absurd (ha.symm.trans e) nofun

theorem compareStroke_of_reached {s : State} {r : Record} (hx : s.adv.geometry.wR ≤ s.adv.x)
    (ha : s.adv.state.active = true) (hr : s.ring.current = some r) :
    compareStroke s = report (.strokeComplete r.number s.adv.x s.adv.geometry.wR r.volume r.mass r.demand)
      (moveAdvance .strokeComplete s) := by
  have hcur : (moveAdvance .strokeComplete s).ring.current = some r := by
    rw [moveAdvance_ring]
    exact hr
  unfold compareStroke
  rw [if_pos ⟨hx, (active_iff _).mp ha⟩]
  dsimp only
  rw [hcur, moveAdvance_adv]

/-- The four readings of a sample as they are stored (R1). -/
theorem strokeReadings_four (r0 r1 r2 r3 : Reading) :
    strokeReadings [r0, r1, r2, r3] = #v[storeStroke r0, storeStroke r1, storeStroke r2, storeStroke r3] := by
  ext i hi
  interval_cases i <;> rfl

theorem sense_four (a : Advance) (r0 r1 r2 r3 : Reading) :
    a.sense [r0, r1, r2, r3] = { a with
      readings := #v[storeStroke r0, storeStroke r1, storeStroke r2, storeStroke r3]
      m := if 2 ≤ (validValues ([r0, r1, r2, r3].map storeStroke)).length then
          (validValues ([r0, r1, r2, r3].map storeStroke)).sum / (validValues ([r0, r1, r2, r3].map storeStroke)).length
        else a.m } := by
  have hm : ∀ l : List Reading, (strokeMean l).getD a.m =
      if 2 ≤ (validValues l).length then (validValues l).sum / (validValues l).length else a.m := fun l => by
    unfold strokeMean
    dsimp only
    split <;> rfl
  unfold Advance.sense
  dsimp only
  rw [strokeReadings_four, hm]
  rfl

theorem length_validValues_le (rs : List Reading) : (validValues rs).length ≤ rs.length := by
  unfold validValues
  rw [List.length_map]
  exact List.length_filter_le _ _

/-- STROKE_REF by the number of valid readings (R2). -/
theorem writeLevel_strokeRef {n : Nat} (h : n ≤ 4) (u : State) :
    writeLevel .strokeRef (strokeRefLevel n) u =
      if n = 4 then writeEntry .strokeRef .clear .none u
      else if n = 3 then writeEntry .strokeRef .reduced .oneInvalid u
      else if n = 2 then writeEntry .strokeRef .hold .twoInvalid u
      else writeEntry .strokeRef .hold .blind u := by
  interval_cases n <;> rfl

/-- Settles O18. -/
theorem strokeSampleRule : Obligations.StrokeSampleRule := by
  unfold Obligations.StrokeSampleRule
  refine ⟨fun r0 r1 r2 r3 s => ?_, fun s => ⟨fun h => accountSample_of_not ?_, fun h0 h1 h2 => ?_⟩,
    creditStroke_eq, fun s => ⟨compareStroke_of_not, fun r => compareStroke_of_reached⟩⟩
  · have hn := length_validValues_le ([r0, r1, r2, r3].map storeStroke)
    have hv : (s.adv.sense [r0, r1, r2, r3]).validCount = (validValues ([r0, r1, r2, r3].map storeStroke)).length := by
      rw [sense_four]
      rfl
    dsimp only
    rw [← writeLevel_strokeRef hn, ← sense_four, ← hv]
    rfl
  · rw [← Bool.not_eq_true, accounts_iff]
    rcases h with h | h | h | h
    · exact .inl fun k => h k.1
    · exact .inl fun k => absurd (k.2.1.symm.trans h) nofun
    · exact .inl fun k => absurd k.2.2 (by omega)
    · exact .inr h
  · have ha : accounts s = true := (accounts_iff s).mpr ⟨h0, h1, h2⟩
    refine ⟨accountSample_of_jump ha, fun hm hj => ?_⟩
    rw [accountSample_of_move ha hm hj]
    exact ⟨rfl, creditStroke_adv _ s⟩

end Sys2Proof.Machine

/-! SUPPORT. BUILD_START, RING_CLOSE and RING_ABANDON: writes to the Restriction Table with the advance at rest, and the
groups of freed sectors until the advance rests. -/

namespace Sys2Proof.Machine

/-! ## An advance at rest -/

/-- What a write to the Restriction Table does while the advance is neither BORING nor HELD: of the Advance Unit the copy
of the permit changes and the cutter may stop, and the record stands. -/
structure Quiet (s t : State) : Prop where
  grown : Grown s t
  adv : t.adv = { s.adv with cutter := t.adv.cutter, permitCopy := t.adv.permitCopy }
  cutter : s.adv.cutter = .stopped → t.adv.cutter = .stopped
  ring : t.ring = s.ring
  frame : AgreeBut (.link :: permitReach) s t

theorem quiet_writeEntry {src : Source} (l : Level) (c : RCause) {s : State} (h : s.adv.state.active = false)
    (ho : src ≠ .output) : Quiet s (writeEntry src l c s) where
  grown := (inside_writeEntry l c s ho).grown
  adv := by
    have ha := frame_adv (inside_writeEntry l c s ho).frame
    rw [(writeEntry_at_rest h).1] at ha
    exact ha
  cutter hc := by
    rw [writeEntry_adv, permitWritten_adv]
    dsimp only
    split
    · simp only [hc, ite_self]
    · exact hc
  ring := (writeEntry_at_rest h).2
  frame := agree_writeEntry _ _ _ _

theorem quiet_writeGrout {s : State} (h : s.adv.state.active = false) : Quiet s (writeGrout s) :=
  quiet_writeEntry (src := .grout) _ _ h (by decide)

/-- With no ring open, an inner operation leaves the Ring Unit as it stands. -/
theorem Inside.ring_of_closed {s t : State} (h : Inside s t) (hc : s.ring.current = none) : t.ring = s.ring := by
  have hr := frame_ring h.frame
  have ha := frame_account h.frame
  rw [hc, Option.map_none, Option.map_eq_none_iff] at ha
  rw [hr, ha, ← hc]

/-! ## BUILD_START (R101) -/

/-- A ring being built: what stands of the state s from which BUILD_START was taken, with its record r. -/
structure BuildingFrom (s : State) (r : Record) (t : State) : Prop where
  grown : Grown s t
  adv : t.adv = { s.adv with state := t.adv.state, cutter := t.adv.cutter, permitCopy := t.adv.permitCopy }
  rest : t.adv.state.active = false
  ring : ∃ e, t.ring = { s.ring with
    state := .building, current := some { r with state := .building, endStroke := e } }
  frame : AgreeBut (.link :: .tick :: permitReach) s t

/-- The Advance Unit has done its part of BUILD_START (R12). -/
structure BuiltAdvance (s t : State) : Prop where
  idle : t.adv.state = .idle
  cutter : t.adv.cutter = .stopped
  stroke : ∃ r, t.ring.current = some r ∧ r.endStroke = some s.adv.capture

theorem BuildingFrom.quiet {s : State} {r : Record} {t u : State} (h : BuildingFrom s r t) (q : Quiet t u) :
    BuildingFrom s r u where
  grown := h.grown.trans q.grown
  adv := by
    rw [q.adv, h.adv]
  rest := by
    rw [q.adv]
    exact h.rest
  ring := by
    rw [q.ring]
    exact h.ring
  frame := h.frame.trans (q.frame.mono (by simp [permitReach]))

theorem BuiltAdvance.quiet {s t u : State} (h : BuiltAdvance s t) (q : Quiet t u) : BuiltAdvance s u where
  idle := by
    rw [q.adv]
    exact h.idle
  cutter := q.cutter h.cutter
  stroke := by
    rw [q.ring]
    exact h.stroke

theorem agree_contribute (f : Record → Record) (s : State) : AgreeBut [.ring] s (contribute f s) :=
  agree_setRing (by simp) _ s

theorem agree_toIdle (s : State) : AgreeBut advanceReach s (toIdle s) := by
  unfold toIdle
  split
  · exact .refl _ s
  · exact agree_moveAdvance _ _

theorem buildAdvance_adv (s : State) : (buildAdvance s).adv = { s.adv with cutter := .stopped, state := .idle } := by
  rw [buildAdvance_eq]
  change (stopCutter (toIdle s)).adv = _
  rw [stopCutter_adv, toIdle_adv]
  dsimp only
  split <;> rfl

theorem buildAdvance_ring (s : State) : (buildAdvance s).ring = { s.ring with
    current := s.ring.current.map fun r => { r with endStroke := some s.adv.capture } } := by
  have hcap : (stopCutter (toIdle s)).adv.capture = s.adv.capture := by
    rw [stopCutter_adv, toIdle_adv]
    rfl
  rw [buildAdvance_eq, hcap]
  unfold contribute
  rw [State.setRing_ring, stopCutter_ring, toIdle_ring]

theorem agree_buildAdvance (s : State) : AgreeBut advanceReach s (buildAdvance s) :=
  ((agree_toIdle s).trans (agree_stopCutter _)).trans ((agree_contribute _ _).mono (by simp [advanceReach]))

theorem grown_buildAdvance (s : State) : Grown s (buildAdvance s) :=
  ((calm_toIdle s).grown.trans (calm_stopCutter _).grown).trans (.of_link rfl)

theorem BuildingFrom.buildAdvance {s : State} {r : Record} {t : State} (h : BuildingFrom s r t) :
    BuildingFrom s r (buildAdvance t) ∧ BuiltAdvance s (buildAdvance t) := by
  obtain ⟨e, hr⟩ := h.ring
  have hcap : t.adv.capture = s.adv.capture := by
    rw [h.adv]
    rfl
  have hring := buildAdvance_ring t
  rw [hcap, hr] at hring
  have ha := buildAdvance_adv t
  refine ⟨⟨h.grown.trans (grown_buildAdvance t), ?_, by rw [ha]; rfl, ⟨_, hring⟩, ?_⟩, by rw [ha], by rw [ha],
    ⟨_, congrArg Ring.current hring, rfl⟩⟩
  · rw [ha, h.adv]
  · exact h.frame.trans ((agree_buildAdvance t).mono (by simp [advanceReach, permitReach]))

theorem buildTelling_keeps {s : State} {r : Record} {f : State → State} (hf : f ∈ [buildAdvance, ringGrout]) {t : State}
    (h : BuildingFrom s r t) : BuildingFrom s r (f t) ∧ (BuiltAdvance s t → BuiltAdvance s (f t)) := by
  simp only [List.mem_cons, List.not_mem_nil, or_false] at hf
  rcases hf with rfl | rfl
  · exact ⟨h.buildAdvance.1, fun _ => h.buildAdvance.2⟩
  · exact ⟨h.quiet (quiet_writeGrout h.rest), fun k => k.quiet (quiet_writeGrout h.rest)⟩

/-- The state after a BUILD_START that is taken (R101). -/
def buildStarted (s : State) : State :=
  tellAll [buildAdvance, ringGrout] (s.setRing { s.ring with
    state := .building, current := s.ring.current.map fun r => { r with state := .building } })

theorem takeBuildStart_eq {s : State} (hs : s.ring.state = .boring) (ha : s.adv.state = .strokeComplete) :
    takeBuildStart s = (buildStarted s, .ok, u16 (buildStarted s).ring.number ++
      (match (buildStarted s).ring.current with
        | some r => opt strokeBytes r.endStroke
        | none => [])) := by
  unfold takeBuildStart
  rw [if_pos ⟨hs, ha⟩]
  rfl

theorem buildStarted_spec {s : State} {r : Record} (ha : s.adv.state = .strokeComplete) (hr : s.ring.current = some r) :
    BuildingFrom s r (buildStarted s) ∧ BuiltAdvance s (buildStarted s) := by
  set u := s.setRing { s.ring with
    state := .building, current := s.ring.current.map fun r => { r with state := .building } } with hu
  have h0 : BuildingFrom s r (u.setTick (u.tick + 1)) := by
    refine ⟨.of_link rfl, rfl, ?_, ⟨r.endStroke, ?_⟩, fun p hp => ?_⟩
    · change s.adv.state.active = false
      rw [ha]
      rfl
    · simp only [hu, State.setTick_ring, State.setRing_ring, hr]
      rfl
    · cases p
      case ring => exact absurd (by simp [permitReach]) hp
      case tick => exact absurd (by simp) hp
      all_goals rfl
  exact ⟨tellAll_keeps (BuildingFrom s r) (fun f hf t ht => (buildTelling_keeps hf ht).1) h0,
    tellAll_brings (BuildingFrom s r) (BuiltAdvance s) (fun f hf t ht => (buildTelling_keeps hf ht).1)
      (fun f hf t ht => (buildTelling_keeps hf ht).2)
      ⟨buildAdvance, by simp, fun t ht => ht.buildAdvance.2⟩ h0⟩

/-- Settles O32. -/
theorem buildStarts : Obligations.BuildStarts := by
  unfold Obligations.BuildStarts
  intro tag s h
  refine ⟨fun r hs ha hr => ?_, fun hn => ?_⟩
  · obtain ⟨hk, hb⟩ := buildStarted_spec ha hr
    obtain ⟨e, hring⟩ := hk.ring
    obtain ⟨r', hr', he⟩ := hb.stroke
    have hcur := congrArg Ring.current hring
    rw [hr'] at hcur
    cases Option.some.inj hcur
    subst he
    have hadv := hk.adv
    refine ⟨_, exec_command (c := .buildStart) rfl h (takeBuildStart_eq hs ha), hring, hb.idle, hb.cutter, ?_, ?_, ?_,
      ?_, ?_, ?_⟩
    · exact (congrArg Advance.x hadv :)
    · exact (congrArg Advance.a hadv :)
    · exact (congrArg Advance.c1 hadv :)
    · exact (congrArg Advance.c2 hadv :)
    · exact (congrArg Advance.c3 hadv :)
    · rw [hring]
      exact .of_taken hk.grown hk.frame
  · refine exec_command (c := .buildStart) rfl h ?_
    exact if_neg fun e => hn.elim (fun k => k e.1) fun k => k e.2

end Sys2Proof.Machine

/-! SUPPORT. RING_CLOSE and RING_ABANDON: the thrust groups of the freed sectors stand at HOLD once the advance rests, in
whatever order the units are told. -/

namespace Sys2Proof.Machine

/-! ## The groups of freed sectors (R13, R19, R131) -/

/-- The port and the point of a thrust group's mode (R19). -/
def groupPort (g : Fin 16) : PortNo := if g.val < 8 then 0 else 1

/-- The point of a thrust group's mode. -/
def groupPoint (g : Fin 16) : Fin 16 := ⟨g.val % 8 + 1, by omega⟩

/-- The setpoint of a thrust group's mode. -/
def groupTarget (a : AdvState) (g : Fin 16) : Target := ⟨groupPort g, groupPoint g, groupValue a, some g⟩

theorem groupTarget_mem (a : Advance) (g : Fin 16) : groupTarget a.state g ∈ targets a := by
  have hlow : ∀ k : Fin 8, groupTarget a.state (Fin.ofNat 16 (0 + k.val)) ∈ groupTargets 0 0 (groupValue a.state) := by
    intro k
    refine List.mem_map.mpr ⟨k, List.mem_finRange k, ?_⟩
    fin_cases k <;> rfl
  have hhigh : ∀ k : Fin 8, groupTarget a.state (Fin.ofNat 16 (8 + k.val)) ∈ groupTargets 1 8 (groupValue a.state) := by
    intro k
    refine List.mem_map.mpr ⟨k, List.mem_finRange k, ?_⟩
    fin_cases k <;> rfl
  have hg : (∃ k : Fin 8, g = Fin.ofNat 16 (0 + k.val)) ∨ ∃ k : Fin 8, g = Fin.ofNat 16 (8 + k.val) := by
    revert g
    decide
  rcases hg with ⟨k, rfl⟩ | ⟨k, rfl⟩
  · exact List.mem_append_left _ (List.mem_append_left _ (List.mem_cons_of_mem _ (hlow k)))
  · exact List.mem_append_left _ (List.mem_append_right _ (List.mem_cons_of_mem _ (hhigh k)))

/-- Of the group of a target that is not owned: the mode was written, or its value was commanded already (R20, R117). -/
theorem foldl_writeTarget_group (s : State) {x : Target} {g : Fin 16} (hg : x.groupOf = some g)
    (hx : ownedTarget s x = false) :
    ∀ (l : List Target) (acc : Requests × Vector GroupState 16), (l.map Target.key).Nodup → x ∈ l →
      (l.foldl (writeTarget s) acc).2.get g = groupMode s.adv.state
        ∨ ((l.foldl (writeTarget s) acc).2.get g = acc.2.get g
            ∧ (acc.1.point x.port x.point).commanded = some x.value)
  | t :: l, acc, hn, hm => by
    rw [List.map_cons, List.nodup_cons] at hn
    rw [List.foldl_cons]
    rcases List.mem_cons.mp hm with rfl | hl
    · by_cases hc : (acc.1.point x.port x.point).commanded = some x.value
      · rcases foldl_writeTarget_groups s g l (writeTarget s acc x) with h | h
        · rcases writeTarget_groups s acc x g with k | k
          · exact .inr ⟨h.trans k, hc⟩
          · exact .inl (h.trans k.2)
        · exact .inl h.2
      · have hw : (writeTarget s acc x).2.get g = groupMode s.adv.state := by
          unfold writeTarget
          unfold ownedTarget at hx
          simp only [hg] at hx ⊢
          rw [hx, if_neg (by simpa using hc)]
          simp
        rcases foldl_writeTarget_groups s g l (writeTarget s acc x) with h | h
        · exact .inl (h.trans hw)
        · exact .inl h.2
    · have hne : t.key ≠ x.key := fun e => hn.1 (e ▸ List.mem_map_of_mem hl)
      rcases foldl_writeTarget_group s hg hx l (writeTarget s acc t) hn.2 hl with h | ⟨h, hc⟩
      · exact .inl h
      · rw [writeTarget_point_ne s acc t _ _ hne] at hc
        rcases writeTarget_groups s acc t g with k | k
        · exact .inr ⟨h.trans k, hc⟩
        · exact .inl (h.trans k.2)

/-- The sectors are free, with no step and no grant, and each group stands at HOLD, or has PUSH commanded in NORMAL and so
goes to HOLD when the advance leaves BORING. -/
structure Freed (s : State) : Prop where
  step : s.build.step = none
  grant : s.build.grant = .free
  owners : ∀ sec, s.build.owners.get sec = .none
  groups : ∀ g, s.build.groups.get g = .hold ∨
    s.out.mode = .normal ∧ (s.req.point (groupPort g) (groupPoint g)).commanded = some 1

/-- The sectors are free, and outside BORING every group stands at HOLD. -/
structure Rested (s : State) : Prop extends Freed s where
  held : s.adv.state ≠ .boring → ∀ g, s.build.groups.get g = .hold

theorem Freed.same {s t : State} (h : Freed s) (hb : t.build = s.build) (ho : t.out = s.out)
    (hp : ∀ g, t.req.point (groupPort g) (groupPoint g) = s.req.point (groupPort g) (groupPoint g)) : Freed t where
  step := by rw [hb]; exact h.step
  grant := by rw [hb]; exact h.grant
  owners := by rw [hb]; exact h.owners
  groups g := by rw [hb, ho, hp]; exact h.groups g

theorem Rested.same {s t : State} (h : Rested s) (ha : t.adv.state = s.adv.state) (hb : t.build = s.build)
    (ho : t.out = s.out) (hr : t.req = s.req) : Rested t where
  toFreed := h.toFreed.same hb ho fun _ => by rw [hr]
  held := by
    rw [ha, hb]
    exact h.held

/-- After a refresh the groups of free sectors follow the advance (R19, R20). -/
theorem Freed.refresh {s : State} (h : Freed s) : Rested (refresh s) := by
  by_cases hm : s.out.mode = .normal
  · have hfold : ∀ g, (Machine.refresh s).build.groups.get g = groupMode s.adv.state ∨
        ((Machine.refresh s).build.groups.get g = s.build.groups.get g ∧
          (s.req.point (groupPort g) (groupPoint g)).commanded = some (groupValue s.adv.state)) := fun g => by
      change (setpoints s).2.get g = _ ∨ (setpoints s).2.get g = _ ∧ _
      unfold setpoints
      rw [if_pos hm]
      refine foldl_writeTarget_group s (x := groupTarget s.adv.state g) rfl ?_ _ _
        (by rw [targets_keys]; exact targetKeys_nodup) (groupTarget_mem s.adv g)
      unfold ownedTarget groupTarget
      dsimp only
      rw [h.owners]
      rfl
    have hset : ∀ g, ((Machine.refresh s).req.point (groupPort g) (groupPoint g)).commanded
        = some (groupValue s.adv.state) := fun g =>
      setpointsHeld_refresh hm (groupTarget s.adv.state g) (groupTarget_mem s.adv g) fun g' hg' => h.owners _
    have hheld : s.adv.state ≠ .boring → ∀ g, (Machine.refresh s).build.groups.get g = .hold := fun hb g => by
      have hgm : groupMode s.adv.state = .hold := by cases hs : s.adv.state <;> simp_all [groupMode]
      have hgv : groupValue s.adv.state = 0 := by cases hs : s.adv.state <;> simp_all [groupValue]
      rcases hfold g with e | ⟨e, hc⟩
      · exact e.trans hgm
      · rcases h.groups g with k | ⟨-, k⟩
        · exact e.trans k
        · rw [hgv, k] at hc
          exact absurd hc (by decide)
    refine ⟨⟨h.step, h.grant, h.owners, fun g => ?_⟩, hheld⟩
    by_cases hb : s.adv.state = .boring
    · refine .inr ⟨hm, ?_⟩
      rw [hset g, hb]
      rfl
    · exact .inl (hheld hb g)
  · rw [refresh_of_not_normal hm]
    exact ⟨h, fun _ g => (h.groups g).resolve_right fun k => hm k.1⟩

theorem groupPort_ne_five (g : Fin 16) : groupPort g ≠ 5 := by
  unfold groupPort
  split <;> decide

/-- The screw's setpoint is no point of the thrust groups (R50). -/
theorem setScrew_point (v : Nat) (s : State) (g : Fin 16) :
    (setScrew v s).req.point (groupPort g) (groupPoint g) = s.req.point (groupPort g) (groupPoint g) := by
  change (screwRequests false (s.setPres { s.pres with setpoint := v, sOld := v })).point _ _ = _
  unfold screwRequests
  split
  · exact (jobWrite_point _ _ _ 5 _ 0 _ _).2 fun e => groupPort_ne_five g e.1.symm
  · rfl

theorem Freed.advanced {s : State} (h : Freed s) (new : AdvState) : Freed (advanced new s) := by
  have h1 : Freed (s.setAdv { s.adv with state := new }) := h.same rfl rfl fun _ => rfl
  have hh : ∀ {u}, Freed u → Freed (countHold u) := fun k => k.same rfl rfl fun _ => rfl
  have hl : ∀ {u}, Freed u → Freed (pressureLeave u) := fun {u} k => k.same rfl rfl (setScrew_point 0 u)
  unfold Machine.advanced
  dsimp only
  split <;> split
  · exact hl (hh h1)
  · exact hl h1
  · exact hh h1
  · exact h1

theorem Freed.moveAdvance {s : State} (h : Freed s) (new : AdvState) : Rested (moveAdvance new s) :=
  (h.advanced new).refresh

theorem Freed.stopAdvance {s : State} (h : Freed s) : Freed (stopAdvance s) := by
  rw [stopAdvance_eq]
  split
  · exact (h.moveAdvance _).toFreed
  · exact h

theorem Freed.stopCutter {s : State} (h : Freed s) : Freed (stopCutter s) := by
  rw [stopCutter_eq]
  split
  · exact h
  · have h1 : Freed (s.setAdv { s.adv with cutter := .stopped }) := h.same rfl rfl fun _ => rfl
    exact h1.stopAdvance.refresh.toFreed

theorem Freed.tellPermit {s : State} (h : Freed s) (l : Level) : Rested (tellPermit l s) := by
  have h1 : Freed (s.setAdv { s.adv with permitCopy := l }) := h.same rfl rfl fun _ => rfl
  rw [tellPermit_eq]
  dsimp only
  split
  · exact h1.stopAdvance.stopCutter.refresh
  · split
    · exact h1.refresh
    · exact h1.moveAdvance _

theorem Rested.permitWritten {s : State} (h : Rested s) (src : Source) (l : Level) (c : RCause) :
    Rested (permitWritten src l c s) := by
  unfold Machine.permitWritten
  dsimp only
  split
  · have h1 : Freed (s.setPermit (s.permit.write src l c s.ring.number s.adv.x)) := h.toFreed.same rfl rfl fun _ => rfl
    exact (h1.tellPermit _).same rfl rfl rfl rfl
  · exact h.same rfl rfl rfl rfl

theorem Rested.writeGrout {s : State} (h : Rested s) : Rested (writeGrout s) := by
  unfold Machine.writeGrout writeLevel
  rw [writeEntry_eq, if_neg (by simp)]
  exact h.permitWritten _ _ _

theorem Rested.restAdvance {s : State} (h : Rested s) : Rested (restAdvance s) := by
  rw [restAdvance_eq]
  have h1 : Rested (toIdle s) := by
    unfold toIdle
    split
    · exact h
    · exact h.toFreed.moveAdvance _
  exact h1.same rfl rfl rfl rfl

theorem rested_restBuild (s : State) : Rested (restBuild s) := by
  have hg : (withdrawAny (endGrant .ring s)).build.grant = .free := by
    have : (withdrawAny (endGrant .ring s)).build = (endGrant .ring s).build := by
      unfold withdrawAny withdrawStep
      split
      · rfl
      · split <;> rfl
    rw [this]
    exact endGrant_free _ _
  rw [restBuild_eq]
  refine Freed.refresh ⟨rfl, hg, fun sec => ?_, fun g => .inl ?_⟩
  · simp [Build.freed]
  · simp [Build.freed]

/-! ## A ring that finishes (R96, R102 to R104) -/

/-- What stands of the state s, in which the ring is closed already, while the units are told that it has finished. -/
structure FinishingFrom (s t : State) : Prop where
  grown : Grown s t
  mark : t.adv.m = s.adv.m
  ring : t.ring = s.ring
  frame : AgreeBut (.link :: .tick :: permitReach) s t

/-- The advance has returned to rest (R13). -/
structure AtRest (s t : State) : Prop where
  idle : t.adv.state = .idle
  adv : t.adv.a = s.adv.m ∧ t.adv.x = 0 ∧ t.adv.c1 = 0 ∧ t.adv.c2 = 0 ∧ t.adv.c3 = 0

theorem restAdvance_adv (s : State) : (restAdvance s).adv = { s.adv with
    state := .idle, a := s.adv.m, x := 0, c1 := 0, c2 := 0, c3 := 0 } := by
  rw [restAdvance_eq]
  change (toIdle s).adv.rebase = _
  rw [toIdle_adv]
  rfl

theorem grown_restAdvance (s : State) : Grown s (restAdvance s) := (calm_toIdle s).grown.trans (.of_link rfl)

theorem agree_restAdvance (s : State) : AgreeBut advanceReach s (restAdvance s) := by
  rw [restAdvance_eq]
  exact (agree_toIdle s).trans (agree_setAdv (by simp [advanceReach]) _ _)

theorem agree_restBuild (s : State) : AgreeBut (.link :: .tick :: permitReach) s (restBuild s) := by
  have h1 : AgreeBut (.link :: .tick :: permitReach) s (endGrant .ring s) := by
    unfold endGrant
    split
    · exact .refl _ s
    · exact (agree_setBuild (by simp [permitReach]) _ s).trans (agree_setLink (by simp) _ _)
  have h2 : ∀ u, AgreeBut (.link :: .tick :: permitReach) u (withdrawAny u) := fun u => by
    unfold withdrawAny withdrawStep
    split
    · exact .refl _ u
    · split
      · exact agree_setReq (by simp [permitReach]) _ u
      · exact agree_setReq (by simp [permitReach]) _ u
      · exact .refl _ u
      · exact .refl _ u
  rw [restBuild_eq]
  exact (h1.trans (h2 _)).trans ((agree_setBuild (by simp [permitReach]) _ _).trans
    ((agree_refresh _).mono (by simp [permitReach])))

theorem FinishingFrom.inside {s t u : State} (h : FinishingFrom s t) (hc : s.ring.current = none) (k : Inside t u)
    (a : AgreeBut (.link :: .tick :: permitReach) t u) : FinishingFrom s u where
  grown := h.grown.trans k.grown
  mark := by
    rw [frame_adv k.frame]
    exact h.mark
  ring := (k.ring_of_closed (by rw [h.ring]; exact hc)).trans h.ring
  frame := h.frame.trans a

theorem FinishingFrom.restAdvance {s t : State} (h : FinishingFrom s t) : FinishingFrom s (restAdvance t) where
  grown := h.grown.trans (grown_restAdvance t)
  mark := by
    rw [restAdvance_adv]
    exact h.mark
  ring := (toIdle_ring t).trans h.ring
  frame := h.frame.trans ((agree_restAdvance t).mono (by simp [advanceReach, permitReach]))

theorem FinishingFrom.atRest {s t : State} (h : FinishingFrom s t) : AtRest s (Machine.restAdvance t) := by
  have ha := restAdvance_adv t
  refine ⟨by rw [ha], ?_⟩
  rw [ha]
  exact ⟨h.mark, rfl, rfl, rfl, rfl⟩

theorem AtRest.of_adv {s t u : State} (h : AtRest s t)
    (ha : u.adv = { t.adv with cutter := u.adv.cutter, permitCopy := u.adv.permitCopy }) : AtRest s u where
  idle := by
    rw [ha]
    exact h.idle
  adv := by
    rw [ha]
    exact h.adv

theorem restBuild_adv (s : State) : (restBuild s).adv = s.adv := by
  have h1 : (endGrant .ring s).adv = s.adv := by
    unfold endGrant
    split <;> rfl
  have h2 : ∀ u, (withdrawAny u).adv = u.adv := fun u => by
    unfold withdrawAny withdrawStep
    split
    · rfl
    · split <;> rfl
  rw [restBuild_eq]
  exact (h2 _).trans h1

theorem finishTelling_keeps {s : State} (hc : s.ring.current = none) {f : State → State}
    (hf : f ∈ [restAdvance, ringGrout, restBuild]) {t : State} (h : FinishingFrom s t) :
    FinishingFrom s (f t) ∧ (AtRest s t → AtRest s (f t)) ∧ (Rested t → Rested (f t)) := by
  simp only [List.mem_cons, List.not_mem_nil, or_false] at hf
  rcases hf with rfl | rfl | rfl
  · exact ⟨h.restAdvance, fun _ => h.atRest, Rested.restAdvance⟩
  · refine ⟨h.inside hc (inside_writeGrout t) ((agree_writeEntry _ _ _ t).mono (by simp [permitReach])), fun k => ?_,
      Rested.writeGrout⟩
    exact k.of_adv (quiet_writeGrout (by rw [k.idle]; rfl)).adv
  · refine ⟨h.inside hc (inside_restBuild t) (agree_restBuild t), fun k => ?_, fun _ => rested_restBuild t⟩
    exact k.of_adv (by rw [restBuild_adv])

/-- The state in which a ring finishes, before the units are told (R104, R107). -/
def ringFinished (st : RecordState) (r : Record) (s : State) : State :=
  s.setRing { s.ring with
    state := .none, current := none, plan := [], lastNumber := r.number
    history := pushHistory s.ring.history { r with state := st } }

theorem finishRing_eq {s : State} {r : Record} (st : RecordState) (h : s.ring.current = some r) :
    finishRing st s = report (.ringClosed { r with state := st })
      (tellAll [restAdvance, ringGrout, restBuild] (ringFinished st r s)) := by
  unfold finishRing
  rw [h]
  rfl

/-- A ring that finishes: the units stand as R13, R96 and R131 have them, and RING_CLOSED is reported. -/
theorem finishRing_spec {s : State} {r : Record} (st : RecordState) (h : s.ring.current = some r) :
    FinishingFrom (ringFinished st r s) (finishRing st s) ∧ AtRest s (finishRing st s) ∧ Rested (finishRing st s)
      ∧ Reported (.ringClosed { r with state := st }) (finishRing st s) := by
  have hk := fun (f : State → State) (hf : f ∈ [restAdvance, ringGrout, restBuild]) (t : State) =>
    finishTelling_keeps (s := ringFinished st r s) rfl hf (t := t)
  have h0 : FinishingFrom (ringFinished st r s) ((ringFinished st r s).setTick ((ringFinished st r s).tick + 1)) := by
    refine ⟨.of_link rfl, rfl, rfl, fun p hp => ?_⟩
    cases p
    case tick => exact absurd (by simp) hp
    all_goals rfl
  have h1 := tellAll_keeps (FinishingFrom (ringFinished st r s)) (fun f hf t ht => (hk f hf t ht).1) h0
  have h2 := tellAll_brings (FinishingFrom (ringFinished st r s)) (AtRest (ringFinished st r s))
    (fun f hf t ht => (hk f hf t ht).1) (fun f hf t ht => (hk f hf t ht).2.1)
    ⟨restAdvance, by simp, fun t ht => ht.atRest⟩ h0
  have h3 := tellAll_brings (FinishingFrom (ringFinished st r s)) Rested
    (fun f hf t ht => (hk f hf t ht).1) (fun f hf t ht => (hk f hf t ht).2.2)
    ⟨restBuild, by simp, fun t _ => rested_restBuild t⟩ h0
  rw [finishRing_eq st h]
  refine ⟨⟨h1.grown.trans (grown_report _ _), h1.mark, h1.ring, h1.frame.trans (agree_setLink (by simp) _ _)⟩,
    ⟨h2.idle, h2.adv⟩, h3.same rfl rfl rfl rfl, reported_report _ _⟩

theorem agree_ringFinished (st : RecordState) (r : Record) (s : State) :
    AgreeBut (.link :: .tick :: permitReach) s (ringFinished st r s) := agree_setRing (by simp [permitReach]) _ s

theorem grown_ringFinished (st : RecordState) (r : Record) (s : State) : Grown s (ringFinished st r s) := .of_link rfl

theorem closeUnmet_none {s : State} {r : Record} (hs : s.ring.state = .building) (hr : s.ring.current = some r)
    (h8 : r.placed.length = 8) (hb : s.build.step = none) : closeUnmet s = none := by
  simp [closeUnmet, hs, Ring.placedCount, hr, h8, hb]

theorem takeRingClose_unmet {s : State} {n : Nat} (h : closeUnmet s = some n) :
    takeRingClose s = (s, .wrongState, u8 n) := by
  unfold takeRingClose
  rw [h]

theorem takeRingClose_met {s : State} {r : Record} (h : closeUnmet s = none) (hr : s.ring.current = some r) :
    takeRingClose s = (finishRing .closed s, .ok, u16 r.number) := by
  have hn : s.ring.number = r.number := by
    unfold Ring.number
    rw [hr]
  unfold takeRingClose
  rw [h]
  dsimp only
  rw [hn]

theorem takeRingAbandon_met {s : State} {r : Record} (hs : s.ring.state = .boring) (hr : s.ring.current = some r)
    (hx : r.x = 0) : takeRingAbandon s = (finishRing .abandoned s, .ok, []) := by
  unfold takeRingAbandon
  rw [hr]
  exact if_pos ⟨hs, hx⟩

theorem takeRingAbandon_unmet {s : State} (h : s.ring.state ≠ .boring ∨ ∃ r, s.ring.current = some r ∧ r.x ≠ 0) :
    takeRingAbandon s = refuse .wrongState s := by
  unfold takeRingAbandon
  split
  · rename_i r hr
    refine if_neg fun e => ?_
    rcases h with h | ⟨r', hr', hx⟩
    · exact h e.1
    · rw [hr] at hr'
      cases hr'
      exact hx e.2
  · rfl

/-- Settles O33. -/
theorem ringFinishes : Obligations.RingFinishes := by
  unfold Obligations.RingFinishes
  intro tag s h
  refine ⟨fun r hs hr h8 hb => ?_, fun r hs hr hx => ?_, fun hs => ?_, fun hs h8 => ?_, fun hs h8 hb => ?_,
    fun hn => exec_command (c := .ringAbandon) rfl h (takeRingAbandon_unmet hn)⟩
  · obtain ⟨hf, hq, hd, hrep⟩ := finishRing_spec .closed hr
    refine ⟨_, exec_command (c := .ringClose) rfl h (takeRingClose_met (closeUnmet_none hs hr h8 hb) hr), hf.ring,
      ⟨hq.idle, hq.adv.1, hq.adv.2.1, hq.adv.2.2.1, hq.adv.2.2.2.1, hq.adv.2.2.2.2, hd.step, hd.grant, hd.owners,
        hd.held (by rw [hq.idle]; exact nofun)⟩, hrep, ?_⟩
    exact .of_taken ((grown_ringFinished _ _ s).trans hf.grown) ((agree_ringFinished _ _ s).trans hf.frame)
  · obtain ⟨hf, hq, hd, hrep⟩ := finishRing_spec .abandoned hr
    refine ⟨_, exec_command (c := .ringAbandon) rfl h (takeRingAbandon_met hs hr hx), hf.ring,
      ⟨hq.idle, hq.adv.1, hq.adv.2.1, hq.adv.2.2.1, hq.adv.2.2.2.1, hq.adv.2.2.2.2, hd.step, hd.grant, hd.owners,
        hd.held (by rw [hq.idle]; exact nofun)⟩, hrep, ?_⟩
    exact .of_taken ((grown_ringFinished _ _ s).trans hf.grown) ((agree_ringFinished _ _ s).trans hf.frame)
  · exact exec_command (c := .ringClose) rfl h (takeRingClose_unmet (n := 0) (by simp [closeUnmet, hs]))
  · exact exec_command (c := .ringClose) rfl h (takeRingClose_unmet (n := 1) (by simp [closeUnmet, hs, h8]))
  · exact exec_command (c := .ringClose) rfl h (takeRingClose_unmet (n := 2) (by simp [closeUnmet, hs, h8, hb]))

end Sys2Proof.Machine

/-! SUPPORT. RING_OPEN: the units as a ring opens, in whatever order they are told. -/

namespace Sys2Proof.Machine

/-! ## The lines as a ring opens -/

/-- A line with nothing delivered in this ring (R93). -/
def Line.cleared (l : Line) : Line := { l with ringDelivered := 0 }

theorem openGrout_eq (s : State) : openGrout s = writeGrout (s.setLines (s.lines.map Line.cleared)) := rfl

theorem cleared_cleared (v : Vector Line 6) : (v.map Line.cleared).map Line.cleared = v.map Line.cleared := by
  rw [Vector.map_map]
  rfl

/-- What the lines have delivered in a ring is no part of the GROUT level (R91). -/
theorem groutLevel_cleared (r : RingState) (v : Vector Line 6) : groutLevel r (v.map Line.cleared) = groutLevel r v := by
  have hw : trackWeight (v.map Line.cleared) = trackWeight v := by
    simp only [trackWeight, Vector.toList_map, List.filter_map, List.map_map]
    rfl
  simp only [groutLevel, hw, Vector.toList_map, List.filter_map, List.any_map]
  rfl

/-! ## The state of the units while they are told -/

/-- What stands of the state s from which RING_OPEN was taken, for ring n with key slot k, while the units are told. -/
structure OpeningFrom (s : State) (n : Nat) (k : Fin 8) (t : State) : Prop where
  grown : Grown s t
  idle : t.adv.state = .idle
  sense : t.adv.readings = s.adv.readings ∧ t.adv.m = s.adv.m
  ring : ∃ v, t.ring = { s.ring with
    state := .boring, plan := buildPlan k, current := some { Record.opened n k with startStroke := v } }
  muck : t.muck.clearWindow = s.muck.clearWindow
  lines : t.lines.map Line.cleared = s.lines.map Line.cleared
  frame : AgreeBut (.link :: .lines :: .muck :: .tick :: permitReach) s t

theorem Quiet.muck {s t : State} (q : Quiet s t) : t.muck = s.muck := q.frame .muck (by simp [permitReach])

theorem Quiet.lines {s t : State} (q : Quiet s t) : t.lines = s.lines := q.frame .lines (by simp [permitReach])

section
variable {s : State} {n : Nat} {k : Fin 8} {t : State}

theorem OpeningFrom.quiet {u : State} (h : OpeningFrom s n k t) (q : Quiet t u) : OpeningFrom s n k u where
  grown := h.grown.trans q.grown
  idle := by
    rw [q.adv]
    exact h.idle
  sense := by
    rw [q.adv]
    exact h.sense
  ring := by
    rw [q.ring]
    exact h.ring
  muck := by
    rw [q.muck]
    exact h.muck
  lines := by
    rw [q.lines]
    exact h.lines
  frame := h.frame.trans (q.frame.mono (by simp [permitReach]))

theorem OpeningFrom.rest (h : OpeningFrom s n k t) : t.adv.state.active = false := by
  rw [h.idle]
  rfl

theorem OpeningFrom.openAdvance (h : OpeningFrom s n k t) : OpeningFrom s n k (openAdvance t) := by
  obtain ⟨v, hr⟩ := h.ring
  refine ⟨h.grown.trans (.of_link rfl), h.idle, h.sense, ⟨t.adv.capture, ?_⟩, h.muck, h.lines, h.frame.trans ?_⟩
  · simp only [Machine.openAdvance, contribute, State.setRing_ring, State.setAdv_ring, hr]
    rfl
  · exact (agree_setAdv (by simp [permitReach]) _ t).trans ((agree_contribute _ _).mono (by simp [permitReach]))

theorem OpeningFrom.clearedMuck (h : OpeningFrom s n k t) : OpeningFrom s n k (t.setMuck t.muck.clearWindow) where
  grown := h.grown.trans (.of_link rfl)
  idle := h.idle
  sense := h.sense
  ring := h.ring
  muck := by
    rw [← h.muck]
    rfl
  lines := h.lines
  frame := h.frame.trans (agree_setMuck (by simp) _ t)

theorem agree_setLines {ps : List Part} (hp : .lines ∈ ps) (v : Vector Line 6) (s : State) :
    AgreeBut ps s (s.setLines v) := by
  intro p h
  cases p
  case lines => exact absurd hp h
  all_goals rfl

theorem OpeningFrom.clearedLines (h : OpeningFrom s n k t) : OpeningFrom s n k (t.setLines (t.lines.map Line.cleared)) where
  grown := h.grown.trans (.of_link rfl)
  idle := h.idle
  sense := h.sense
  ring := h.ring
  muck := h.muck
  lines := (cleared_cleared t.lines).trans h.lines
  frame := h.frame.trans (agree_setLines (by simp) _ t)

theorem OpeningFrom.clearRaises (h : OpeningFrom s n k t) : OpeningFrom s n k (clearRaises t) where
  grown := h.grown.trans (.of_link rfl)
  idle := h.idle
  sense := h.sense
  ring := h.ring
  muck := h.muck
  lines := h.lines
  frame := h.frame.trans (agree_setPermit (by simp [permitReach]) _ t)

/-- The level that MUCK is written at as the ring opens: from the blind flag (R66). -/
def openedMuck (s : State) : Level := if s.muck.blind then .reduced else .clear

/-- openMuck is one write to MUCK, on the cleared window. -/
theorem OpeningFrom.openMuck_eq (h : OpeningFrom s n k t) :
    ∃ c, openMuck t = writeEntry .muck (openedMuck s) c (t.setMuck t.muck.clearWindow) := by
  have hb : t.muck.blind = s.muck.blind := (congrArg Muck.blind h.muck :)
  unfold openMuck openedMuck
  dsimp only
  rw [← hb]
  by_cases hm : t.muck.blind = true
  · exact ⟨_, by rw [if_pos hm]; exact if_pos hm⟩
  · exact ⟨_, by rw [if_neg hm]; exact if_neg hm⟩

/-- openGrout is one write to GROUT, on the cleared lines. -/
theorem OpeningFrom.openGrout_eq (h : OpeningFrom s n k t) :
    ∃ c, openGrout t = writeEntry .grout (groutLevel .boring s.lines).1 c (t.setLines (t.lines.map Line.cleared)) := by
  obtain ⟨v, hr⟩ := h.ring
  have hl : groutLevel t.ring.state (t.lines.map Line.cleared) = groutLevel .boring s.lines := by
    rw [hr, h.lines, groutLevel_cleared]
  refine ⟨(groutLevel .boring s.lines).2, ?_⟩
  rw [Machine.openGrout_eq]
  unfold writeGrout writeLevel
  rw [State.setLines_ring, State.setLines_lines, hl]

theorem OpeningFrom.quiet_muck (h : OpeningFrom s n k t) : Quiet (t.setMuck t.muck.clearWindow) (openMuck t) := by
  obtain ⟨c, hc⟩ := h.openMuck_eq
  rw [hc]
  exact quiet_writeEntry (src := .muck) _ _ h.rest (by decide)

theorem OpeningFrom.quiet_grout (h : OpeningFrom s n k t) :
    Quiet (t.setLines (t.lines.map Line.cleared)) (openGrout t) := by
  obtain ⟨c, hc⟩ := h.openGrout_eq
  rw [hc]
  exact quiet_writeEntry (src := .grout) _ _ h.rest (by decide)

/-! ## What each telling brings (R11, R37, R66, R93) -/

/-- The Advance Unit has its part of RING_OPEN done: the rebaseline and the start stroke (R11). -/
structure RebasedAdvance (s t : State) : Prop where
  adv : t.adv.a = s.adv.m ∧ t.adv.x = 0 ∧ t.adv.c1 = 0 ∧ t.adv.c2 = 0 ∧ t.adv.c3 = 0
  stroke : ∃ r, t.ring.current = some r ∧ r.startStroke = s.adv.capture

theorem RebasedAdvance.same {u : State} (h : RebasedAdvance s t) (hr : u.ring = t.ring)
    (ha : u.adv = { t.adv with cutter := u.adv.cutter, permitCopy := u.adv.permitCopy }) : RebasedAdvance s u where
  adv := by
    rw [ha]
    exact h.adv
  stroke := by
    rw [hr]
    exact h.stroke

theorem OpeningFrom.rebased (h : OpeningFrom s n k t) : RebasedAdvance s (Machine.openAdvance t) := by
  obtain ⟨v, hr⟩ := h.ring
  refine ⟨⟨h.sense.2, rfl, rfl, rfl, rfl⟩, { Record.opened n k with startStroke := t.adv.capture }, ?_, ?_⟩
  · simp only [Machine.openAdvance, contribute, State.setRing_ring, State.setAdv_ring, hr]
    rfl
  · change t.adv.capture = s.adv.capture
    unfold Advance.capture
    rw [h.sense.1]

/-- A raise count as the ring has opened: 0, or at most 1 with the entry at the level written at the opening (R37). -/
def RaisedOnce (s : State) (src : Source) (e : REntry) : Prop :=
  e.raises = 0 ∨ e.raises ≤ 1 ∧ (src = .muck ∧ e.level = openedMuck s ∨
    src = .grout ∧ e.level = (groutLevel .boring s.lines).1)

theorem RaisedOnce.write {src : Source} {e : REntry} {l : Level} {c : RCause} {ring x : Nat} (h : RaisedOnce s src e)
    (hl : src = .muck ∧ l = openedMuck s ∨ src = .grout ∧ l = (groutLevel .boring s.lines).1) :
    RaisedOnce s src (e.write l c ring x) := by
  unfold REntry.write
  split
  · rename_i hlt
    refine .inr ⟨?_, hl⟩
    rcases h with h | ⟨-, h⟩
    · change count16 e.raises ≤ 1
      rw [h]
      decide
    · have he : e.level = l := by
        rcases h with ⟨h1, h2⟩ | ⟨h1, h2⟩ <;> rcases hl with ⟨k1, k2⟩ | ⟨k1, k2⟩
        · rw [h2, k2]
        · exact absurd (h1.symm.trans k1) nofun
        · exact absurd (h1.symm.trans k1) nofun
        · rw [h2, k2]
      rw [he] at hlt
      exact absurd hlt (lt_irrefl _)
  · exact h.imp id fun h => ⟨h.1, hl⟩

/-- The raise counts as the ring has opened (R37). -/
def RaisesCleared (s t : State) : Prop := ∀ src : Source, RaisedOnce s src (t.permit.table.get src.idx)

theorem RaisesCleared.writeEntry {src : Source} {l : Level} (c : RCause) (h : RaisesCleared s t)
    (hl : src = .muck ∧ l = openedMuck s ∨ src = .grout ∧ l = (groutLevel .boring s.lines).1) :
    RaisesCleared s (writeEntry src l c t) := fun src' => by
  rw [writeEntry_permit, write_table_get]
  split
  · rename_i he
    cases idx_injective he
    exact (h src).write hl
  · exact h src'

theorem raisesCleared_clearRaises (s t : State) : RaisesCleared s (Machine.clearRaises t) := fun src => .inl (by
  simp only [Machine.clearRaises, State.setPermit_permit, get_map])

/-- The parts of an opening that a telling keeps once they are brought. -/
structure OpeningKeeps (s t u : State) : Prop where
  advance : RebasedAdvance s t → RebasedAdvance s u
  muck : t.muck = s.muck.clearWindow → u.muck = s.muck.clearWindow
  lines : t.lines = s.lines.map Line.cleared → u.lines = s.lines.map Line.cleared
  raises : RaisesCleared s t → RaisesCleared s u

theorem openTelling_keeps {f : State → State} (hf : f ∈ [openAdvance, openMuck, openGrout, clearRaises])
    (h : OpeningFrom s n k t) : OpeningFrom s n k (f t) ∧ OpeningKeeps s t (f t) := by
  simp only [List.mem_cons, List.not_mem_nil, or_false] at hf
  rcases hf with rfl | rfl | rfl | rfl
  · exact ⟨h.openAdvance, fun _ => h.rebased, id, id, id⟩
  · have q := h.quiet_muck
    refine ⟨h.clearedMuck.quiet q, fun k => k.same q.ring q.adv, fun _ => q.muck.trans h.muck, fun k => ?_, fun k => ?_⟩
    · exact q.lines.trans k
    · obtain ⟨c, hc⟩ := h.openMuck_eq
      rw [hc]
      exact RaisesCleared.writeEntry (t := t.setMuck t.muck.clearWindow) c k (.inl ⟨rfl, rfl⟩)
  · have q := h.quiet_grout
    refine ⟨h.clearedLines.quiet q, fun k => k.same q.ring q.adv, fun k => ?_, fun _ => ?_, fun k => ?_⟩
    · exact q.muck.trans k
    · exact q.lines.trans h.lines
    · obtain ⟨c, hc⟩ := h.openGrout_eq
      rw [hc]
      exact RaisesCleared.writeEntry (t := t.setLines (t.lines.map Line.cleared)) c k (.inr ⟨rfl, rfl⟩)
  · exact ⟨h.clearRaises, fun k => k.same rfl rfl, id, id, fun _ => raisesCleared_clearRaises s t⟩

end

/-! ## RING_OPEN (R98, R99) -/

/-- A part that one telling of RING_OPEN brings and the others keep stands when the ring is open. -/
theorem openRing_brings {s : State} {n : Nat} {k : Fin 8} (hi : s.adv.state = .idle) (Q : State → Prop)
    (hk : ∀ t u, OpeningKeeps s t u → Q t → Q u)
    (hb : ∃ f ∈ [openAdvance, openMuck, openGrout, clearRaises], ∀ t, OpeningFrom s n k t → Q (f t)) :
    OpeningFrom s n k (openRing n k s) ∧ Q (openRing n k s) := by
  set u := s.setRing { s.ring with
    state := .boring, current := some (Record.opened n k), plan := buildPlan k } with hu
  have h0 : OpeningFrom s n k (u.setTick (u.tick + 1)) := by
    refine ⟨.of_link rfl, hi, ⟨rfl, rfl⟩, ⟨(Record.opened n k).startStroke, rfl⟩, rfl, rfl, fun p hp => ?_⟩
    cases p
    case ring => exact absurd (by simp [permitReach]) hp
    case tick => exact absurd (by simp) hp
    all_goals rfl
  exact ⟨tellAll_keeps (OpeningFrom s n k) (fun f hf t ht => (openTelling_keeps hf ht).1) h0,
    tellAll_brings (OpeningFrom s n k) Q (fun f hf t ht => (openTelling_keeps hf ht).1)
      (fun f hf t ht => hk t _ (openTelling_keeps hf ht).2) hb h0⟩

theorem RaisesCleared.bound {s t : State} (h : RaisesCleared s t) (src : Source) :
    (t.permit.table.get src.idx).raises ≤ if src = .muck ∨ src = .grout then 1 else 0 := by
  rcases h src with h | ⟨h1, h | h⟩
  · rw [h]
    exact Nat.zero_le _
  · rw [if_pos (.inl h.1)]
    exact h1
  · rw [if_pos (.inr h.1)]
    exact h1

theorem inRange_iff (lo hi n : Nat) : inRange lo hi n = true ↔ lo ≤ n ∧ n ≤ hi := by
  simp [inRange]

theorem strokeFits_iff (a : Advance) : a.strokeFits = true ↔ a.m + a.geometry.wR ≤ a.geometry.strokeLimit := by
  simp [Advance.strokeFits]

/-- The tests of RING_OPEN on a number and a key slot that name a ring, in their order (R98). -/
theorem takeRingOpen_named {n : Nat} {k : Fin 8} (hn : 1 ≤ n ∧ n ≤ 65535) (s : State) :
    takeRingOpen n k.val s =
      if s.ring.state ≠ .none then refuse .wrongState s
      else if s.adv.geometry.configured = false then refuse .notConfigured s
      else if s.out.mode ≠ .normal then refuse .wrongState s
      else if n ≤ s.ring.lastNumber then refuse .badValue s
      else if s.adv.strokeFits = false then refuse .strokeRange s
      else (openRing n k s, .ok, openData n k) := by
  unfold takeRingOpen
  rw [dif_pos k.isLt, (inRange_iff 1 65535 n).mpr hn]
  simp only [Bool.not_true, Bool.false_eq_true, if_false, Bool.not_eq_true']

theorem takeRingOpen_unnamed {n key : Nat} (h : ¬ ((1 ≤ n ∧ n ≤ 65535) ∧ key < 8)) (s : State) :
    takeRingOpen n key s = refuse .badValue s := by
  unfold takeRingOpen
  by_cases hk : key < 8
  · have hn : inRange 1 65535 n = false := by
      rw [← Bool.not_eq_true, inRange_iff]
      exact fun e => h ⟨e, hk⟩
    rw [dif_pos hk, hn]
    rfl
  · exact dif_neg hk

/-- Settles O30. -/
theorem ringOpens : Obligations.RingOpens := by
  unfold Obligations.RingOpens
  intro tag n key s h
  have refused : ∀ st, takeRingOpen n key s = refuse st s →
      exec (.ringOpen tag n key) s = .next (withReply tag 0x28 st [] s) := fun st ht =>
    exec_command (c := .ringOpen n key) rfl h ht
  refine ⟨fun hn => refused _ (takeRingOpen_unnamed hn s), fun hn hr => ?_, fun hn hr hg => ?_, fun hn hr hg hm => ?_,
    fun hn hr hg hm hl => ?_, fun hn hr hg hm hl hf => ?_, fun hn hr hg hm hl hf hi k hk => ?_⟩
  · refine refused _ ((takeRingOpen_named (k := ⟨key, hn.2⟩) hn.1 s).trans ?_)
    rw [if_pos hr]
  · refine refused _ ((takeRingOpen_named (k := ⟨key, hn.2⟩) hn.1 s).trans ?_)
    rw [if_neg (not_not.mpr hr), if_pos hg]
  · refine refused _ ((takeRingOpen_named (k := ⟨key, hn.2⟩) hn.1 s).trans ?_)
    rw [if_neg (not_not.mpr hr), if_neg (by simp [hg]), if_pos hm]
  · refine refused _ ((takeRingOpen_named (k := ⟨key, hn.2⟩) hn.1 s).trans ?_)
    rw [if_neg (not_not.mpr hr), if_neg (by simp [hg]), if_neg (not_not.mpr hm), if_pos hl]
  · refine refused _ ((takeRingOpen_named (k := ⟨key, hn.2⟩) hn.1 s).trans ?_)
    have hsf : s.adv.strokeFits = false := by
      rw [← Bool.not_eq_true, strokeFits_iff]
      exact not_le.mpr hf
    rw [if_neg (not_not.mpr hr), if_neg (by simp [hg]), if_neg (not_not.mpr hm), if_neg (by omega), if_pos hsf]
  · subst hk
    have ht : takeRingOpen n k.val s = (openRing n k s, .ok, openData n k) := by
      rw [takeRingOpen_named hn.1, if_neg (not_not.mpr hr), if_neg (by simp [hg]), if_neg (not_not.mpr hm),
        if_neg (by omega), if_neg (by rw [(strokeFits_iff _).mpr hf]; decide)]
    obtain ⟨hk, ha⟩ := openRing_brings (n := n) (k := k) hi (RebasedAdvance s) (fun _ _ k => k.advance)
      ⟨openAdvance, by simp, fun _ ht => ht.rebased⟩
    obtain ⟨-, hmu⟩ := openRing_brings (n := n) (k := k) hi (fun t => t.muck = s.muck.clearWindow) (fun _ _ k => k.muck)
      ⟨openMuck, by simp, fun _ ht => ht.quiet_muck.muck.trans ht.muck⟩
    obtain ⟨-, hli⟩ := openRing_brings (n := n) (k := k) hi (fun t => t.lines = s.lines.map Line.cleared)
      (fun _ _ k => k.lines) ⟨openGrout, by simp, fun _ ht => ht.quiet_grout.lines.trans ht.lines⟩
    obtain ⟨-, hra⟩ := openRing_brings (n := n) (k := k) hi (RaisesCleared s) (fun _ _ k => k.raises)
      ⟨clearRaises, by simp, fun t _ => raisesCleared_clearRaises s t⟩
    obtain ⟨v, hring⟩ := hk.ring
    obtain ⟨r, hcur, hst⟩ := ha.stroke
    rw [hring] at hcur
    cases Option.some.inj hcur
    subst hst
    refine ⟨_, exec_command (c := .ringOpen n k.val) rfl h ht, hring, ha.adv.1, hk.sense.2, ha.adv.2.1, ha.adv.2.2.1,
      ha.adv.2.2.2.1, ha.adv.2.2.2.2, hk.idle, hmu, fun i => ?_, hra.bound, .of_taken hk.grown hk.frame⟩
    change (openRing n k s).lines.get i = _
    rw [hli, get_map]
    rfl

end Sys2Proof.Machine

/-! SUPPORT. The frames of stations: samples, events and the bytes of a field line. -/

namespace Sys2Proof.Machine

/-! ## Samples (R139, R140) -/

/-- A sample goes to the block of its class: the ports of the sensing classes, by number (R133, R139). -/
theorem passSample_eq (p : PortNo) (rs : List Reading) (s : State) :
    passSample p rs s =
      if p = 2 then strokeSample rs s
      else if p = 3 then chamberSample rs s
      else if p = 4 then cutterSample (readingValue rs 0) s
      else if p = 6 then beltSample (readingValue rs 0) (readingValue rs 1) s
      else s := by
  fin_cases p <;> rfl

theorem portClass_beltScale_iff (p : PortNo) : Config.portClass p = .beltScale ↔ p = 6 := by
  revert p
  decide

theorem sampleReadings_none {channels : Nat} {body : List Byte}
    (h : body.length ≠ 1 + 3 * channels ∨ fld body 0 1 ≠ channels) : sampleReadings channels body = none := by
  unfold sampleReadings
  exact if_neg fun e => h.elim (fun k => k e.1) fun k => k e.2

theorem exec_sampleFrame (p : PortNo) (body : List Byte) (s : State) :
    exec (.sampleFrame p body) s = .next (takeSample p body s) := rfl

/-- A port's entry with its stale timer restarted (R140). -/
def restarted (p : PortNo) (s : State) : State :=
  s.setPorts (put s.ports p { s.ports.get p with stale := some (3 * Config.reportPeriod (Config.portClass p)) })

theorem refreshStale_eq (p : PortNo) (s : State) :
    refreshStale p s = if (s.ports.get p).state = .stale then movePort p .ready .sample (restarted p s)
      else restarted p s := rfl

theorem takeSample_of_up {p : PortNo} {body : List Byte} {rs : List Reading} {idn : Identity} {s : State}
    (hi : (s.ports.get p).identity = some idn) (hu : s.portUp p = true)
    (hr : sampleReadings idn.channels body = some rs) :
    takeSample p body s = passSample p rs (refreshStale p s) := by
  unfold takeSample
  rw [hi]
  dsimp only
  rw [if_pos hu, hr]

theorem takeSample_discarded {p : PortNo} {body : List Byte} {idn : Identity} {s : State}
    (hi : (s.ports.get p).identity = some idn)
    (h : s.portUp p = false ∨ body.length ≠ 1 + 3 * idn.channels ∨ fld body 0 1 ≠ idn.channels) :
    takeSample p body s = s := by
  unfold takeSample
  rw [hi]
  dsimp only
  split
  · rename_i hu
    rw [sampleReadings_none (h.resolve_left (by simp [hu]))]
  · rfl

/-- The belt sample that had reached its unit before the port was lost is waited for (R70; log 25). -/
def lateSample (p : PortNo) (s : State) : Prop :=
  p = 6 ∧ s.muck.late = true ∧ (s.ports.get p).state.powered = false

theorem takeSample_unidentified {p : PortNo} {body : List Byte} {s : State} (hi : (s.ports.get p).identity = none) :
    takeSample p body s = takeLateSample p body s := by
  unfold takeSample
  rw [hi]

theorem takeLateSample_of_late {p : PortNo} {body : List Byte} {rs : List Reading} {s : State} (h : lateSample p s)
    (hr : sampleReadings 2 body = some rs) :
    takeLateSample p body s = passSample p rs (s.setMuck { s.muck with late := false }) := by
  unfold takeLateSample
  rw [if_pos ⟨(portClass_beltScale_iff p).mpr h.1, h.2⟩, hr]

theorem takeLateSample_of_misfit {p : PortNo} {body : List Byte} {s : State} (hr : sampleReadings 2 body = none) :
    takeLateSample p body s = s := by
  unfold takeLateSample
  rw [hr]
  exact ite_self _

theorem takeLateSample_of_not {p : PortNo} {s : State} (body : List Byte) (h : ¬ lateSample p s) :
    takeLateSample p body s = s :=
  if_neg fun e => h ⟨(portClass_beltScale_iff p).mp e.1, e.2⟩

/-- A STALE port that returns to READY keeps its entry but for the state, the cause and the timers (R133, R140). -/
theorem movePort_ready_sample {p : PortNo} {s : State} (h : (s.ports.get p).state = .stale) :
    (movePort p .ready .sample s).ports.get p = { s.ports.get p with
      state := .ready, cause := .sample, supply := true, debounce := none, partialTimer := none, settle := none } := by
  have hports : ∀ f ∈ portTellings p (s.ports.get p).state .ready (portRecord (s.ports.get p).state .sample none),
      ∀ t : State, (f t).ports = t.ports := by
    intro f hf t
    rw [h] at hf
    have hf' : p.val ≤ 5 ∧ f = stationTelling := by
      simpa [portTellings, portRecord, recordTelling, unitTellings, jobTellings, PortState.lost, PortState.inService]
        using hf
    rw [hf'.2]
    exact agree_writeEntry _ _ _ t .ports (by simp [permitReach])
  have hk : ∀ u : State, (tellAll (portTellings p (s.ports.get p).state .ready
      (portRecord (s.ports.get p).state .sample none)) u).ports = u.ports := fun u =>
    tellAll_keeps (fun t => t.ports = u.ports) (fun f hf t ht => (hports f hf t).trans ht) rfl
  unfold movePort changePort
  dsimp only
  rw [hk]
  have hm : ∀ u : State, (if Config.portClass p = .beltScale then markLate (s.ports.get p).state .ready u else u).ports
      = u.ports := fun u => by split <;> rfl
  rw [hm]
  simp [portReport, report, modPort, setPort, Port.enter, PortState.powered, PortState.inService]

/-! ## Events (R139, R164) -/

/-- The row of an event from a port's station. -/
def eventRow (p : PortNo) (seq : Byte) : StationEvent → Instr
  | .retracted sector => .retracted p seq sector
  | .holding sector => .holding p seq sector
  | .placed serial => .placed p seq serial
  | .returned => .returned p seq
  | .strokeDone line delivered peak => .strokeDone p seq line delivered peak
  | .pieceArrived kind serial => .pieceArrived p seq kind serial
  | .localRequest => .localRequest p seq
  | .localRelease => .localRelease p seq
  | .placeRequest => .placeRequest p seq
  | .retryRequest => .retryRequest p seq
  | .backoutRequest => .backoutRequest p seq

theorem exec_eventRow (p : PortNo) (seq : Byte) (e : StationEvent) (s : State) :
    exec (eventRow p seq e) s = .next (takeEvent p seq e s) := by cases e <;> rfl

theorem exec_fieldFrameDiscard (p : PortNo) (bytes : List Byte) (s : State) :
    exec (.fieldFrameDiscard p bytes) s = .next (takeFieldBytes p bytes s) := rfl

theorem takeFieldBytes_event {p : PortNo} {bytes body : List Byte} {seq : Byte} {s : State}
    (h : fieldFrame bytes = some (.event seq body)) : takeFieldBytes p bytes s = takeEventBody p seq body s := by
  unfold takeFieldBytes
  rw [h]

/-- An event that the port's class does not send, or on a port out of service, is passed to no block (R139). -/
theorem takeEvent_notExpected {p : PortNo} {e : StationEvent} {s : State} (seq : Byte)
    (h : s.portUp p = false ∨ Config.portClass p ≠ e.sentBy) : takeEvent p seq e s = notExpected p seq s := by
  unfold takeEvent
  refine if_neg fun hc => ?_
  rw [Bool.and_eq_true, beq_iff_eq] at hc
  exact h.elim (fun k => by simp [hc.1] at k) fun k => k hc.2

/-! ## The cutter drive's sample (R22) -/

theorem writeLevel_torque (tWarn v : Nat) (u : State) :
    writeLevel .torque (torqueLevel tWarn v) u =
      if v < tWarn then writeEntry .torque .clear .none u
      else if v < 1000 then writeEntry .torque .reduced .warn u
      else writeEntry .torque .hold .over u := by
  unfold torqueLevel
  split
  · rfl
  · split <;> rfl

/-- Settles O42. -/
theorem stationFramesAreTaken : Obligations.StationFramesAreTaken := by
  unfold Obligations.StationFramesAreTaken
  refine ⟨fun p body rs idn s hi hu hr => ?_, fun p body s => ⟨fun idn hi h => ?_, fun hi h => ?_, fun rs hi h hr => ?_⟩,
    fun p bytes s => ⟨fun h => ?_, fun seq body h => ?_, fun body h => ?_, fun seq body e h he => ?_,
      fun seq body h he => ?_, fun seq body cls h he => ?_, fun seq e h => ?_⟩, fun torque s => ?_⟩
  · dsimp only
    simp only [exec_sampleFrame, takeSample_of_up hi hu hr, ← passSample_eq, refreshStale_eq]
    refine ⟨fun hs => ?_, fun hs => ⟨?_, ?_⟩⟩
    · rw [if_neg (by rw [hs]; exact nofun)]
      rfl
    · rw [if_pos hs]
      rfl
    · have hs' : ((restarted p s).ports.get p).state = .stale := by
        simp [restarted, hs]
      refine (movePort_ready_sample hs').trans ?_
      simp [restarted]
  · rw [exec_sampleFrame, takeSample_discarded hi h]
  · rw [exec_sampleFrame, takeSample_unidentified hi]
    rcases h with h | h
    · rw [takeLateSample_of_not body h]
    · rw [takeLateSample_of_misfit h]
  · rw [exec_sampleFrame, takeSample_unidentified hi, takeLateSample_of_late h hr, passSample_eq, h.1]
    rfl
  · rw [exec_fieldFrameDiscard]
    unfold takeFieldBytes
    rw [h]
  · rw [exec_fieldFrameDiscard]
    unfold takeFieldBytes
    rw [h]
    rfl
  · rw [exec_fieldFrameDiscard]
    unfold takeFieldBytes
    rw [h]
    rfl
  · rw [exec_fieldFrameDiscard, takeFieldBytes_event h]
    unfold takeEventBody
    rw [he]
    exact (exec_eventRow p seq e s).symm
  · rw [exec_fieldFrameDiscard, takeFieldBytes_event h]
    unfold takeEventBody
    rw [he]
    rfl
  · rw [exec_fieldFrameDiscard, takeFieldBytes_event h]
    unfold takeEventBody
    rw [he]
    simp only [Bool.and_eq_true, beq_iff_eq]
    rfl
  · refine (exec_eventRow p seq e s).trans ?_
    rw [takeEvent_notExpected seq h]
    rfl
  · unfold cutterSample
    dsimp only
    have hr : (writeLevel .torque (torqueLevel s.adv.tWarn (min torque 2000))
        (s.setAdv { s.adv with torque := min torque 2000 })).ring.state = s.ring.state :=
      congrArg Meter.ring (inside_writeLevel (src := .torque) _ _ (by decide)).meter
    rw [← writeLevel_torque, ← hr]
    rfl

end Sys2Proof.Machine

/-! SUPPORT. What stands of a lost port's requests, and of the fault records, while the outcomes of a lost port are handed
on. -/

namespace Sys2Proof.Machine

/-! ## The entries of a port -/

/-- The entry as it stays until it ends: a job's write may take a new value where it stands (R150). -/
def Entry.lasting (e : Entry) : Entry :=
  match e.origin, e.kind with
  | .advance, .write pairs => { e with kind := .write (pairs.map fun pv => (pv.1, 0)) }
  | .pressure, .write pairs => { e with kind := .write (pairs.map fun pv => (pv.1, 0)) }
  | _, _ => e

theorem lasting_eq_or (e : Entry) : e.lasting = e ∨
    (e.origin = .advance ∨ e.origin = .pressure) ∧ ∃ pairs, e.kind = .write pairs ∧
      e.lasting = { e with kind := .write (pairs.map fun pv => (pv.1, 0)) } := by
  unfold Entry.lasting
  split
  · rename_i pairs ho hk
    exact .inr ⟨.inl ho, pairs, hk, rfl⟩
  · rename_i pairs ho hk
    exact .inr ⟨.inr ho, pairs, hk, rfl⟩
  · exact .inl rfl

@[simp] theorem lasting_port (e : Entry) : e.lasting.port = e.port := by
  rcases lasting_eq_or e with h | ⟨-, _, -, h⟩ <;> rw [h]

@[simp] theorem lasting_seqNo (e : Entry) : e.lasting.seqNo = e.seqNo := by
  rcases lasting_eq_or e with h | ⟨-, _, -, h⟩ <;> rw [h]

@[simp] theorem lasting_origin (e : Entry) : e.lasting.origin = e.origin := by
  rcases lasting_eq_or e with h | ⟨-, _, -, h⟩ <;> rw [h]

@[simp] theorem lasting_tag (e : Entry) : e.lasting.tag = e.tag := by
  rcases lasting_eq_or e with h | ⟨-, _, -, h⟩ <;> rw [h]

@[simp] theorem lasting_state (e : Entry) : e.lasting.state = e.state := by
  rcases lasting_eq_or e with h | ⟨-, _, -, h⟩ <;> rw [h]

@[simp] theorem lasting_attempts (e : Entry) : e.lasting.attempts = e.attempts := by
  rcases lasting_eq_or e with h | ⟨-, _, -, h⟩ <;> rw [h]

theorem lasting_of_host {e : Entry} (h : e.origin = .host) : e.lasting = e := by
  rcases lasting_eq_or e with k | ⟨k, -⟩
  · exact k
  · rw [h] at k
    exact absurd k (by simp)

/-- The first point of a write, and that it is a write, stay. -/
theorem lasting_write {e : Entry} {pairs : List (Nat × Nat)} (h : e.kind = .write pairs) :
    (∃ pairs', e.lasting.kind = .write pairs') ∧ e.lasting.kind.firstPoint = e.kind.firstPoint := by
  rcases lasting_eq_or e with k | ⟨-, pairs', hk, k⟩
  · rw [k]
    exact ⟨⟨pairs, h⟩, rfl⟩
  · rw [k, hk]
    refine ⟨⟨_, rfl⟩, ?_⟩
    rcases pairs' with _ | ⟨⟨i, v⟩, l⟩ <;> rfl

theorem lasting_not_write {e : Entry} (h : ∀ pairs, e.kind ≠ .write pairs) (pairs : List (Nat × Nat)) :
    e.lasting.kind ≠ .write pairs := by
  rcases lasting_eq_or e with k | ⟨-, pairs', hk, -⟩
  · rw [k]
    exact h pairs
  · exact absurd hk (h pairs')

/-- The entries of a port, as they stay until they end. -/
def Requests.stayingOf (r : Requests) (p : PortNo) : List Entry := (r.table.filter (·.port == p)).map Entry.lasting

theorem stayingOf_of_table {r r' : Requests} (h : r'.table = r.table) (p : PortNo) : r'.stayingOf p = r.stayingOf p := by
  unfold Requests.stayingOf
  rw [h]

theorem stayingOf_register {r : Requests} {p q : PortNo} (h : q ≠ p) (o : Origin) (tag : Option Byte) (k : ReqKind) :
    (r.register o tag q k).stayingOf p = r.stayingOf p := by
  unfold Requests.stayingOf
  rw [register_table, List.filter_append]
  simp [h]

/-- A job's write leaves the entries of a port that is not in service as they stay (R150). -/
theorem stayingOf_jobWrite {r : Requests} {p q : PortNo} {o : Bool} {org : Origin} (i : Fin 16) (v : Nat)
    (h : q = p → o = false) (ho : org = .advance ∨ org = .pressure) :
    (r.jobWrite o org q i v).stayingOf p = r.stayingOf p := by
  unfold Requests.jobWrite
  dsimp only
  split
  · rename_i table ht
    obtain ⟨b, x, a, h1, h2, -, h4⟩ := replaceLast_some _ _ _ ht
    obtain ⟨hxo, hxp, -, w, hk⟩ := (foldable_iff _ _ _ _).mp h2
    have hx : ({ x with kind := .write [(i.val, v)] } : Entry).lasting = x.lasting := by
      unfold Entry.lasting
      rw [hk, hxo]
      rcases ho with rfl | rfl <;> rfl
    unfold Requests.stayingOf
    rw [setPoint_table, h1, h4, List.filter_append, List.filter_append, List.map_append, List.map_append,
      List.filter_cons, List.filter_cons]
    dsimp only
    split
    · rw [List.map_cons, List.map_cons, hx]
    · rfl
  · split
    · rename_i hc
      have hq : q ≠ p := fun e => by simp [h e] at hc
      rw [stayingOf_of_table (setPoint_table _ _ _ _), stayingOf_register hq]
    · exact stayingOf_of_table (setPoint_table _ _ _ _) _

/-! ## What stays -/

/-- While outcomes are handed on: the ports stand, no item comes to wait, the entries of port p stay until they end, or
until the one of number n is withdrawn, and no fault record is lost. -/
structure Stays (p : PortNo) (n : Option Nat) (s t : State) : Prop where
  ports : t.ports = s.ports
  waits : ∀ w ∈ t.req.waits, w ∈ s.req.waits
  sub : s.portUp p = false → (t.req.stayingOf p).Sublist (s.req.stayingOf p)
  keeps : s.portUp p = false → ∀ x ∈ s.req.stayingOf p, n ≠ some x.seqNo → x ∈ t.req.stayingOf p
  faults : ∀ f ∈ s.out.faults, f ∈ t.out.faults
  backlog : (s.permit.table.get Source.faultBacklog.idx).level = .hold →
    (t.permit.table.get Source.faultBacklog.idx).level = .hold

section
variable {p : PortNo} {n : Option Nat}

theorem Stays.trans {s t u : State} (h : Stays p n s t) (k : Stays p n t u) : Stays p n s u := by
  have hu : s.portUp p = false → t.portUp p = false := fun e => by
    unfold State.portUp at e ⊢
    rw [h.ports]
    exact e
  exact ⟨k.ports.trans h.ports, fun w hw => h.waits w (k.waits w hw), fun e => (k.sub (hu e)).trans (h.sub e),
    fun e x hx hn => k.keeps (hu e) x (h.keeps e x hx hn) hn, fun f hf => k.faults f (h.faults f hf),
    k.backlog ∘ h.backlog⟩

/-- An operation on the Request Unit that leaves what waits and the entries of the port as they stay. -/
theorem Stays.of_staying {s t : State} (hp : t.ports = s.ports) (hw : t.req.waits = s.req.waits)
    (hs : s.portUp p = false → t.req.stayingOf p = s.req.stayingOf p) (ho : t.out.faults = s.out.faults)
    (hl : t.permit = s.permit) : Stays p n s t where
  ports := hp
  waits w hm := by rwa [hw] at hm
  sub h := by rw [hs h]
  keeps h x hx _ := by rwa [hs h]
  faults f hf := by rwa [ho]
  backlog h := by rwa [hl]

/-- An update of another unit. -/
theorem Stays.same {s t : State} (hp : t.ports = s.ports) (hr : t.req = s.req) (ho : t.out.faults = s.out.faults)
    (hl : t.permit = s.permit) : Stays p n s t :=
  .of_staying hp (by rw [hr]) (fun _ => by rw [hr]) ho hl

theorem Stays.refl (s : State) : Stays p n s s := .same rfl rfl rfl rfl

theorem Stays.recorded {s t : State} (h : Stays p n s t) {f : FaultRec} (k : Recorded f s) : Recorded f t :=
  k.imp (h.faults f) h.backlog

theorem stays_foldl {α : Type} {f : State → α → State} (h : ∀ s a, Stays p n s (f s a)) (l : List α) (s : State) :
    Stays p n s (l.foldl f s) := by
  induction l generalizing s with
  | nil => exact .refl s
  | cons a l ih => exact (h s a).trans (ih _)

theorem writeTarget_staying {s : State} (h : s.portUp p = false) (acc : Requests × Vector GroupState 16) (t : Target) :
    (writeTarget s acc t).1.stayingOf p = acc.1.stayingOf p := by
  rw [writeTarget_fst]
  split
  · rfl
  · refine stayingOf_jobWrite _ _ (fun e => ?_) (.inl rfl)
    rw [e]
    exact h

theorem foldl_writeTarget_staying {s : State} (h : s.portUp p = false) :
    ∀ (l : List Target) (acc : Requests × Vector GroupState 16),
      (l.foldl (writeTarget s) acc).1.stayingOf p = acc.1.stayingOf p
  | [], _ => rfl
  | t :: l, acc => by
    rw [List.foldl_cons, foldl_writeTarget_staying h l, writeTarget_staying h]

theorem stays_refresh (s : State) : Stays p n s (refresh s) := by
  refine .of_staying rfl (refresh_waits s) (fun h => ?_) rfl rfl
  change (setpoints s).1.stayingOf p = _
  unfold setpoints
  split
  · exact foldl_writeTarget_staying h _ _
  · rfl

theorem stays_setScrew (v : Nat) (s : State) : Stays p n s (setScrew v s) := by
  set u := s.setPres { s.pres with setpoint := v, sOld := v } with hu
  have hw : (screwRequests false u).waits = s.req.waits := by
    unfold screwRequests
    split
    · exact jobWrite_waits ..
    · rfl
  refine .of_staying rfl hw (fun h => ?_) rfl rfl
  change (screwRequests false u).stayingOf p = _
  unfold screwRequests
  split
  · rename_i hc
    refine stayingOf_jobWrite _ _ (fun e => ?_) (.inr rfl)
    rw [Bool.and_eq_true, Bool.and_eq_true] at hc
    have h5 : s.portUp 5 = true := hc.1.2
    rw [e, h] at h5
    exact absurd h5 nofun
  · rfl

theorem stays_advanced (new : AdvState) (s : State) : Stays p n s (advanced new s) := by
  have ha : Stays p n s (s.setAdv { s.adv with state := new }) := .same rfl rfl rfl rfl
  have hh : ∀ u, Stays p n u (countHold u) := fun u => .same rfl rfl rfl rfl
  have hl : ∀ u, Stays p n u (pressureLeave u) := fun u => stays_setScrew 0 u
  unfold advanced
  dsimp only
  split <;> split
  · exact ha.trans ((hh _).trans (hl _))
  · exact ha.trans (hl _)
  · exact ha.trans (hh _)
  · exact ha

theorem stays_moveAdvance (new : AdvState) (s : State) : Stays p n s (moveAdvance new s) :=
  (stays_advanced new s).trans (stays_refresh _)

theorem stays_stopAdvance (s : State) : Stays p n s (stopAdvance s) := by
  rw [stopAdvance_eq]
  split
  · exact stays_moveAdvance _ _
  · exact .refl s

theorem stays_stopCutter (s : State) : Stays p n s (stopCutter s) := by
  rw [stopCutter_eq]
  split
  · exact .refl s
  · have h : Stays p n s (s.setAdv { s.adv with cutter := .stopped }) := .same rfl rfl rfl rfl
    exact h.trans ((stays_stopAdvance _).trans (stays_refresh _))

theorem stays_tellPermit (l : Level) (s : State) : Stays p n s (tellPermit l s) := by
  have h : Stays p n s (s.setAdv { s.adv with permitCopy := l }) := .same rfl rfl rfl rfl
  rw [tellPermit_eq]
  dsimp only
  split
  · exact h.trans ((stays_stopAdvance _).trans ((stays_stopCutter _).trans (stays_refresh _)))
  · split
    · exact h.trans (stays_refresh _)
    · exact h.trans (stays_moveAdvance _ _)

theorem stays_report (r : Report) (s : State) : Stays p n s (report r s) := .same rfl rfl rfl rfl

theorem stays_permitWritten {src : Source} {l : Level} (c : RCause) (s : State)
    (h : src = .faultBacklog → l = .hold) : Stays p n s (permitWritten src l c s) := by
  have hw : Stays p n s (s.setPermit (s.permit.write src l c s.ring.number s.adv.x)) := by
    refine ⟨rfl, fun _ => id, fun _ => List.Sublist.refl _, fun _ _ hx _ => hx, fun _ => id, fun hb => ?_⟩
    rw [State.setPermit_permit, write_table_get]
    split
    · rename_i he
      rw [(write_get _ _ _ _ _).1, h (idx_injective he)]
    · exact hb
  unfold permitWritten
  dsimp only
  split
  · exact hw.trans ((stays_tellPermit _ _).trans (stays_report _ _))
  · exact hw

theorem stays_tellMuckLevel (l : Level) (s : State) : Stays p n s (tellMuckLevel l s) := by
  have h : Stays p n s (s.setPres { s.pres with muckTold := l }) := .same rfl rfl rfl rfl
  unfold tellMuckLevel
  dsimp only
  split
  · exact h.trans (stays_setScrew _ _)
  · exact h

/-- A write to the Restriction Table, to FAULT_BACKLOG only at HOLD. -/
theorem stays_writeEntry {src : Source} {l : Level} (c : RCause) (s : State)
    (h : src = .faultBacklog → l = .hold) : Stays p n s (writeEntry src l c s) := by
  rw [writeEntry_eq]
  split
  · exact (stays_permitWritten c s h).trans (stays_tellMuckLevel _ _)
  · exact stays_permitWritten c s h

theorem stays_writeGrout (s : State) : Stays p n s (writeGrout s) := stays_writeEntry (src := .grout) _ s nofun

theorem stays_tellOutput (s : State) : Stays p n s (tellOutput s) := stays_writeEntry (src := .output) _ s nofun

theorem stays_handFault (f : FaultRec) (s : State) : Stays p n s (handFault f s) := by
  unfold handFault
  split
  · have h : Stays p n s (s.setOut { s.out with faults := s.out.faults ++ [f] }) :=
      ⟨rfl, fun _ => id, fun _ => List.Sublist.refl _, fun _ _ hx _ => hx, fun _ hg => List.mem_append_left _ hg, id⟩
    exact h.trans (stays_report _ _)
  · exact stays_writeEntry _ s fun _ => rfl

/-! ## The owners' answers to a lost port -/

theorem stays_setLine (i : LineNo) (l : Line) (s : State) : Stays p n s (setLine i l s) := .same rfl rfl rfl rfl

theorem stays_moveLine (i : LineNo) (st : LineState) (m : LineMode) (c : LineCause) (s : State) :
    Stays p n s (moveLine i st m c s) := by
  unfold moveLine
  dsimp only
  split
  · exact stays_setLine _ _ _
  · exact (stays_setLine _ _ _).trans (stays_report _ _)

theorem stays_faultLine (i : LineNo) (f : FaultFormat) (c : FaultCause) (t : LineCause) (s : State) :
    Stays p n s (faultLine i f c t s) :=
  (stays_handFault _ _).trans ((stays_setLine _ _ _).trans (stays_moveLine _ _ _ _ _))

theorem stays_loseLine (i : LineNo) (s : State) : Stays p n s (loseLine i s) := by
  unfold loseLine
  dsimp only
  split
  · exact stays_setLine _ _ _
  · exact (stays_setLine _ _ _).trans (stays_setLine _ _ _)
  all_goals exact (stays_setLine _ _ _).trans (stays_faultLine _ _ _ _ _)

theorem stays_losePump (q : PortNo) (s : State) : Stays p n s (losePump q s) :=
  (stays_foldl (fun s i => stays_loseLine i s) _ _).trans (stays_writeGrout _)

theorem stays_strokeOutcome (i : LineNo) (m : Option Nat) (s : State) : Stays p n s (strokeOutcome i m .portLost s) := by
  unfold strokeOutcome
  dsimp only
  split
  · exact .refl s
  · exact stays_losePump _ _

theorem stays_leaveOutstanding (q : PortNo) (s : State) : Stays p n s (leaveOutstanding q s) := by
  unfold leaveOutstanding
  split
  · dsimp only
    have h : ∀ v : Output, v.faults = s.out.faults → Stays p n s (s.setOut v) := fun v hv => .same rfl rfl hv rfl
    split
    · have h1 := h { s.out with outstanding := put s.out.outstanding q false } rfl
      have h2 : Stays p n (s.setOut { s.out with outstanding := put s.out.outstanding q false })
          (s.setOut { s.out with outstanding := put s.out.outstanding q false, mode := .clamped }) := .same rfl rfl rfl rfl
      exact h1.trans (h2.trans ((stays_tellOutput _).trans (stays_report _ _)))
    · exact h _ rfl
  · exact .refl s

theorem safeOutcome_portLost (q : PortNo) (k : ReqKind) (s : State) :
    safeOutcome q k .portLost s = leaveOutstanding q s := rfl

theorem stays_recordFailure (e : Entry) (o : ReqOutcome) (s : State) : Stays p n s (recordFailure e o s) := by
  unfold recordFailure
  split
  · exact .refl s
  · exact stays_handFault _ _

/-- A fault of the step withdraws no entry but the step's own (R124). -/
theorem stays_stepFault {c : StepCause} {s : State} {st : Step} (hs : s.build.step = some st)
    (hn : ∀ m, st.action = .requested m → n = some m) : Stays p n s (stepFault c s) := by
  have hw : Stays p n s (withdrawStep st s) := by
    unfold withdrawStep
    split
    · refine ⟨rfl, fun w hw => ?_, fun _ => List.Sublist.refl _, fun _ _ hx _ => hx, fun _ => id, id⟩
      exact (List.mem_filter.mp hw).1
    · rename_i m ha
      refine ⟨rfl, fun _ => id, fun _ => ?_, fun _ x hx hne => ?_, fun _ => id, id⟩
      · exact (List.filter_sublist.filter _).map _
      · obtain ⟨e, he, rfl⟩ := List.mem_map.mp hx
        obtain ⟨het, hep⟩ := List.mem_filter.mp he
        refine List.mem_map_of_mem (List.mem_filter.mpr ⟨List.mem_filter.mpr ⟨het, ?_⟩, hep⟩)
        rw [hn m ha, lasting_seqNo, ne_eq, Option.some.injEq] at hne
        simp [Ne.symm hne]
    · exact .refl s
    · exact .refl s
  unfold stepFault
  rw [hs]
  dsimp only
  split
  · have h1 : ∀ v (u : State), Stays p n u (setStep v u) := fun v u => .same rfl rfl rfl rfl
    exact hw.trans ((h1 _ _).trans ((stays_handFault _ _).trans (stays_report _ _)))
  · exact .refl s

theorem stays_stepOutcome (m : Option Nat) (s : State) (hn : ∀ k, m = some k → n = some k) :
    Stays p n s (stepOutcome m .portLost s) := by
  unfold stepOutcome
  split
  · exact .refl s
  · rename_i st hs
    split
    · rename_i hc
      refine stays_stepFault hs fun k hk => ?_
      rw [Bool.and_eq_true, hk] at hc
      cases m with
      | none => exact absurd hc.2 nofun
      | some j =>
        have hj : k = j := by simpa [StepAction.names] using hc.2
        rw [hj]
        exact hn j rfl
    · exact .refl s

/-- The outcome PORT_LOST of an entry, handed to its owner (R155). -/
theorem stays_handOutcome (e : Entry) (s : State) : Stays p (some e.seqNo) s (handOutcome e .portLost s) := by
  unfold handOutcome
  split
  · exact stays_report _ _
  · exact .refl s
  · exact .refl s
  · split
    · exact stays_strokeOutcome _ _ _
    · exact .refl s
  · exact stays_stepOutcome _ _ fun k hk => by rw [hk]
  · rw [if_neg nofun]
    exact .refl s
  · exact stays_leaveOutstanding _ _

theorem endWrite_waits (r : Requests) (q : PortNo) (k : ReqKind) (o : ReqOutcome) : (r.endWrite q k o).waits = r.waits := by
  unfold Requests.endWrite
  rw [modWritten_image]

theorem endWrite_table (r : Requests) (q : PortNo) (k : ReqKind) (o : ReqOutcome) : (r.endWrite q k o).table = r.table := by
  unfold Requests.endWrite
  rw [modWritten_image]

theorem stays_endWrite (q : PortNo) (k : ReqKind) (o : ReqOutcome) (s : State) :
    Stays p n s (s.setReq (s.req.endWrite q k o)) :=
  .of_staying rfl (endWrite_waits ..) (fun _ => stayingOf_of_table (endWrite_table ..) _) rfl rfl

theorem stays_endEntry (e : Entry) (s : State) : Stays p (some e.seqNo) s (endEntry e .portLost s) :=
  (stays_endWrite _ _ _ _).trans ((stays_recordFailure _ _ _).trans (stays_handOutcome _ _))

theorem stays_endItem (w : WaitItem) (s : State) : Stays p n s (endItem w .portLost s) := by
  unfold endItem
  split
  · split
    · exact stays_strokeOutcome _ _ _
    · exact .refl s
  · exact stays_stepOutcome _ _ nofun
  · exact (stays_endWrite _ _ _ _).trans (stays_leaveOutstanding _ _)
  all_goals exact .refl s

end

end Sys2Proof.Machine

/-! SUPPORT. The requests of a lost port complete PORT_LOST, each told once to its owner (R156). -/

namespace Sys2Proof.Machine

/-! ## The first element that satisfies a test -/

theorem takeFirst_none {α : Type} {q : α → Bool} : ∀ {l : List α}, takeFirst q l = none → ∀ x ∈ l, q x = false
  | [], _, x, hx => absurd hx List.not_mem_nil
  | a :: l, h, x, hx => by
    unfold takeFirst at h
    split at h
    · exact absurd h nofun
    · rename_i ha
      split at h
      · exact absurd h nofun
      · rename_i hn
        rcases List.mem_cons.mp hx with rfl | hm
        · simpa using ha
        · exact takeFirst_none hn x hm

theorem takeFirst_some {α : Type} {q : α → Bool} : ∀ {l : List α} {x : α} {rest : List α},
    takeFirst q l = some (x, rest) → q x = true ∧ ∃ b a, l = b ++ x :: a ∧ rest = b ++ a
  | [], _, _, h => absurd h nofun
  | y :: l, x, rest, h => by
    unfold takeFirst at h
    split at h
    · rename_i hy
      cases h
      exact ⟨hy, [], l, rfl, rfl⟩
    · split at h
      · rename_i z zs hz
        cases h
        obtain ⟨hq, b, a, h1, h2⟩ := takeFirst_some hz
        exact ⟨hq, y :: b, a, by rw [h1]; rfl, by rw [h2]; rfl⟩
      · exact absurd h nofun

/-! ## One entry of the lost port -/

/-- The oldest entry of port p with sequence number m completes PORT_LOST (R156). -/
def loseOne (p : PortNo) (s : State) (m : Nat) : State :=
  completeFirst (fun e => e.seqNo == m && e.port == p) .portLost s

theorem completeAll_portLost (p : PortNo) (s : State) : completeAll (fun e => e.port == p) .portLost s =
    ((s.req.stayingOf p).map (·.seqNo)).foldl (loseOne p) s := by
  have hm : (s.req.stayingOf p).map (·.seqNo) = (s.req.table.filter (·.port == p)).map (·.seqNo) := by
    unfold Requests.stayingOf
    rw [List.map_map]
    exact List.map_congr_left fun e _ => lasting_seqNo e
  rw [hm]
  rfl

/-- Either no entry of the port has the number, or one that has it leaves the table and ends. -/
theorem loseOne_cases (p : PortNo) (s : State) (m : Nat) :
    (loseOne p s m = s ∧ ∀ x ∈ s.req.stayingOf p, x.seqNo ≠ m)
      ∨ ∃ e u b a, loseOne p s m = endEntry e .portLost u ∧ e.seqNo = m ∧ e.port = p
          ∧ u = s.setReq u.req ∧ u.req.waits = s.req.waits
          ∧ s.req.stayingOf p = b ++ e.lasting :: a ∧ u.req.stayingOf p = b ++ a := by
  unfold loseOne completeFirst
  split
  · rename_i h
    refine .inl ⟨rfl, fun x hx hm => ?_⟩
    obtain ⟨e, he, rfl⟩ := List.mem_map.mp hx
    obtain ⟨het, hep⟩ := List.mem_filter.mp he
    rw [lasting_seqNo] at hm
    have := takeFirst_none h e het
    simp [hm, hep] at this
  · rename_i e rest h
    obtain ⟨hq, b, a, h1, h2⟩ := takeFirst_some h
    simp only [Bool.and_eq_true, beq_iff_eq] at hq
    refine .inr ⟨e, s.setReq { s.req with table := rest }, (b.filter (·.port == p)).map Entry.lasting,
      (a.filter (·.port == p)).map Entry.lasting, rfl, hq.1, hq.2, rfl, rfl, ?_, ?_⟩
    · unfold Requests.stayingOf
      rw [h1, List.filter_append, List.map_append, List.filter_cons, if_pos (by simp [hq.2]), List.map_cons]
    · unfold Requests.stayingOf
      rw [State.setReq_req, h2, List.filter_append, List.map_append]

theorem inside_loseOne (p : PortNo) (s : State) (m : Nat) : Inside s (loseOne p s m) := inside_completeFirst _ _ _

theorem portUp_inside {s t : State} (h : Inside s t) (p : PortNo) : t.portUp p = s.portUp p := by
  unfold State.portUp
  rw [frame_ports h.frame]

theorem recorded_loseOne {p : PortNo} {s : State} {m : Nat} {f : FaultRec} (h : Recorded f s) :
    Recorded f (loseOne p s m) := by
  rcases loseOne_cases p s m with ⟨he, -⟩ | ⟨e, u, b, a, he, -, -, hu, -, -, -⟩
  · rw [he]
    exact h
  · rw [he]
    refine (stays_endEntry (p := p) e u).recorded ?_
    rw [hu]
    exact h

theorem waits_loseOne {p : PortNo} {s : State} {m : Nat} {w : WaitItem} (h : w ∈ (loseOne p s m).req.waits) :
    w ∈ s.req.waits := by
  rcases loseOne_cases p s m with ⟨he, -⟩ | ⟨e, u, b, a, he, -, -, -, hw, -, -⟩
  · rwa [he] at h
  · rw [he] at h
    rw [← hw]
    exact (stays_endEntry (p := p) e u).waits w h

/-! ## The entries that are left -/

/-- The entries of the port that are left have their numbers, each as often, among those of the list. -/
def LeftAmong (p : PortNo) (ns : List Nat) (s : State) : Prop :=
  ∀ m, ((s.req.stayingOf p).map (·.seqNo)).count m ≤ ns.count m

theorem LeftAmong.loseOne {p : PortNo} {m : Nat} {ns : List Nat} {s : State} (h : LeftAmong p (m :: ns) s)
    (hp : s.portUp p = false) : LeftAmong p ns (loseOne p s m) := fun k => by
  have hk := h k
  rw [List.count_cons] at hk
  rcases loseOne_cases p s m with ⟨he, hno⟩ | ⟨e, u, b, a, he, hm, -, hu, -, hs, hb⟩
  · rw [he]
    by_cases hmk : m = k
    · subst hmk
      rw [List.count_eq_zero_of_not_mem]
      · exact Nat.zero_le _
      · intro hx
        obtain ⟨x, hx, hxm⟩ := List.mem_map.mp hx
        exact hno x hx hxm
    · rw [if_neg (by simpa using hmk)] at hk
      exact hk
  · have hup : u.portUp p = false := by
      rw [hu]
      exact hp
    have hsub := ((stays_endEntry (p := p) e u).sub hup).map (·.seqNo)
    rw [he]
    refine (hsub.count_le k).trans ?_
    rw [hb]
    rw [hs, List.map_append, List.map_cons, lasting_seqNo, List.count_append, List.count_cons, hm] at hk
    rw [List.map_append, List.count_append]
    omega

theorem leftAmong_foldl {p : PortNo} (ns : List Nat) {s : State} (h : LeftAmong p ns s) (hp : s.portUp p = false) :
    LeftAmong p [] (ns.foldl (loseOne p) s) := by
  induction ns generalizing s with
  | nil => exact h
  | cons m ns ih => exact ih (h.loseOne hp) (by rw [portUp_inside (inside_loseOne p s m)]; exact hp)

theorem LeftAmong.none {p : PortNo} {s : State} (h : LeftAmong p [] s) : s.req.stayingOf p = [] := by
  rw [← List.map_eq_nil_iff (f := (·.seqNo)), List.eq_nil_iff_forall_not_mem]
  intro m hm
  have := h m
  rw [List.count_nil] at this
  exact absurd (List.count_pos_iff.mpr hm) (by omega)

theorem mem_stayingOf {r : Requests} {p : PortNo} {e : Entry} (he : e ∈ r.table) (hp : e.port = p) :
    e.lasting ∈ r.stayingOf p :=
  List.mem_map_of_mem (List.mem_filter.mpr ⟨he, by simp [hp]⟩)

theorem inside_loseAll (p : PortNo) (ns : List Nat) (s : State) : Inside s (ns.foldl (loseOne p) s) :=
  inside_foldl (fun s m => inside_loseOne p s m) ns s

/-! ## What is told of each entry -/

/-- What is told of an entry that a lost port completes: a safe write is outstanding no longer (R170), the host is reported
to (R162), the failure of any other write is recorded (R160). -/
structure ToldLost (e : Entry) (ring x : Nat) (t : State) : Prop where
  safe : e.origin = .safe → t.out.outstanding.get e.port = false
  host : ∀ tag, e.origin = .host → e.tag = some tag →
    Reported (.requestDone tag e.seqNo e.port e.kind .portLost e.attemptsMade) t
  write : ∀ pairs, e.origin ≠ .safe → e.kind = .write pairs →
    Recorded ⟨.writeFailed, e.origin, e.tag, some e.port, e.kind.firstPoint, .portLost, ring, x⟩ t

theorem ToldLost.mono {e : Entry} {ring x : Nat} {t u : State} (h : ToldLost e ring x t) (k : Inside t u)
    (hr : ∀ f, Recorded f t → Recorded f u) : ToldLost e ring x u where
  safe ho := by
    have := h.safe ho
    rw [← Bool.not_eq_true] at this ⊢
    exact fun hc => this (k.outstanding _ hc)
  host tag ho ht := (h.host tag ho ht).grown k.grown
  write pairs ho hk := hr _ (h.write pairs ho hk)

theorem ToldLost.of_lasting {e d : Entry} {ring x : Nat} {t : State} (h : ToldLost d ring x t)
    (hl : e.lasting = d.lasting) : ToldLost e ring x t := by
  have ho : e.origin = d.origin := by rw [← lasting_origin, hl, lasting_origin]
  have hp : e.port = d.port := by rw [← lasting_port, hl, lasting_port]
  have ht : e.tag = d.tag := by rw [← lasting_tag, hl, lasting_tag]
  refine ⟨fun hs => ?_, fun tag hh htag => ?_, fun pairs hs hk => ?_⟩
  · rw [hp]
    exact h.safe (ho ▸ hs)
  · have hd : e = d := by
      rw [← lasting_of_host hh, hl, lasting_of_host (ho ▸ hh)]
    rw [hd]
    exact h.host tag (ho ▸ hh) (ht ▸ htag)
  · obtain ⟨⟨pairs', hw⟩, hf⟩ := lasting_write hk
    rw [hl] at hw hf
    have hdk : ∃ pd, d.kind = .write pd := by
      by_contra hc
      push Not at hc
      exact lasting_not_write hc pairs' hw
    obtain ⟨pd, hpd⟩ := hdk
    have hfd := (lasting_write hpd).2
    have := h.write pd (ho ▸ hs) hpd
    rw [← hf, hfd, ho, ht, hp]
    exact this

theorem recorded_handFault (f : FaultRec) (s : State) : Recorded f (handFault f s) := by
  have h := (handFault_added f s).1
  by_cases h8 : s.out.faults.length < 8
  · exact .inl (by rw [h.stored h8]; simp)
  · exact .inr (h.full (by omega)).2

theorem tellOutput_out (s : State) : (tellOutput s).out = s.out := writeEntry_out _ _ _ _

theorem enterClamped_outstanding (s : State) : (enterClamped s).out.outstanding = s.out.outstanding := by
  change (tellOutput (s.setOut { s.out with mode := .clamped })).out.outstanding = _
  rw [tellOutput_out]
  rfl

theorem leaveOutstanding_get (p : PortNo) (s : State) : (leaveOutstanding p s).out.outstanding.get p = false := by
  unfold leaveOutstanding
  split
  · dsimp only
    split
    · rw [enterClamped_outstanding]
      exact get_put_self _ _ _
    · exact get_put_self _ _ _
  · rename_i h
    simpa using h

theorem toldLost_endEntry (e : Entry) (s : State) : ToldLost e s.ring.number s.adv.x (endEntry e .portLost s) where
  safe ho := by
    unfold endEntry handOutcome
    rw [ho]
    exact leaveOutstanding_get _ _
  host tag ho ht := by
    unfold endEntry handOutcome
    rw [ho, ht]
    exact reported_report _ _
  write pairs ho hk := by
    unfold endEntry
    refine (stays_handOutcome (p := e.port) e _).recorded ?_
    have hf : recordedFailure e .portLost = some .portLost := by
      unfold recordedFailure
      rw [hk]
      split
      · rename_i hs
        exact absurd hs ho
      · rfl
      · rename_i hr
        exact absurd hr nofun
      · rename_i hr
        exact absurd hr nofun
    unfold recordFailure
    rw [hf]
    exact recorded_handFault _ _

/-- An entry of another number stays. -/
theorem stayingOf_loseOne {p : PortNo} {s : State} {m : Nat} {x : Entry} (hp : s.portUp p = false)
    (hx : x ∈ s.req.stayingOf p) (hm : x.seqNo ≠ m) : x ∈ (loseOne p s m).req.stayingOf p := by
  rcases loseOne_cases p s m with ⟨he, -⟩ | ⟨d, u, b, a, hd, hdm, -, hu, -, hs, hb⟩
  · rwa [he]
  · have hxu : x ∈ u.req.stayingOf p := by
      rw [hs, List.mem_append, List.mem_cons] at hx
      rw [hb, List.mem_append]
      refine hx.imp id fun h => h.resolve_left fun hc => hm ?_
      rw [hc, lasting_seqNo, hdm]
    have hup : u.portUp p = false := by
      rw [hu]
      exact hp
    rw [hd]
    refine (stays_endEntry d u).keeps hup x hxu fun hc => hm ?_
    rw [← Option.some.inj hc, hdm]

/-- The entry whose number's turn it is, when no other has the number, is told of. -/
theorem toldLost_loseOne {p : PortNo} {e : Entry} {ns : List Nat} {s : State} (hn : e.seqNo ∉ ns)
    (hl : LeftAmong p (e.seqNo :: ns) s) (he : e.lasting ∈ s.req.stayingOf p) :
    ToldLost e s.ring.number s.adv.x (loseOne p s e.seqNo) := by
  rcases loseOne_cases p s e.seqNo with ⟨-, hno⟩ | ⟨d, u, b, a, hd, hdm, -, hu, -, hs, -⟩
  · exact absurd (lasting_seqNo e) (hno _ he)
  · have hsame : e.lasting = d.lasting := by
      by_contra hne
      have hmem : e.seqNo ∈ (b ++ a).map (·.seqNo) := by
        rw [hs, List.mem_append, List.mem_cons] at he
        refine List.mem_map.mpr ⟨e.lasting, ?_, lasting_seqNo e⟩
        rw [List.mem_append]
        exact he.imp id fun h => h.resolve_left hne
      have hpos := List.count_pos_iff.mpr hmem
      have hcount := hl e.seqNo
      rw [hs, List.map_append, List.map_cons, lasting_seqNo, hdm, List.count_append, List.count_cons_self,
        List.count_cons_self, List.count_eq_zero_of_not_mem hn] at hcount
      rw [List.map_append, List.count_append] at hpos
      omega
    rw [hd]
    have h := toldLost_endEntry d u
    rw [hu] at h ⊢
    exact h.of_lasting hsame

theorem recorded_loseAll {p : PortNo} {f : FaultRec} (ns : List Nat) {s : State} (h : Recorded f s) :
    Recorded f (ns.foldl (loseOne p) s) := by
  induction ns generalizing s with
  | nil => exact h
  | cons m ns ih => exact ih (recorded_loseOne h)

theorem waits_loseAll {p : PortNo} {w : WaitItem} (ns : List Nat) {s : State}
    (h : w ∈ (ns.foldl (loseOne p) s).req.waits) : w ∈ s.req.waits := by
  induction ns generalizing s with
  | nil => exact h
  | cons m ns ih => exact waits_loseOne (ih h)

/-- The entry's turn comes, and it has stayed until then. -/
theorem toldLost_loseAll {p : PortNo} {e : Entry} (ns : List Nat) {s : State} (hn : ns.Nodup)
    (hp : s.portUp p = false) (hl : LeftAmong p ns s) (he : e.lasting ∈ s.req.stayingOf p) (hm : e.seqNo ∈ ns) :
    ToldLost e s.ring.number s.adv.x (ns.foldl (loseOne p) s) := by
  induction ns generalizing s with
  | nil => exact absurd hm List.not_mem_nil
  | cons m ns ih =>
    obtain ⟨hmn, hnd⟩ := List.nodup_cons.mp hn
    have hk := inside_loseOne p s m
    rw [List.foldl_cons]
    by_cases hem : e.seqNo = m
    · subst hem
      exact (toldLost_loseOne hmn hl he).mono (inside_loseAll p ns _) fun f => recorded_loseAll ns
    · have h := ih hnd (by rw [portUp_inside hk]; exact hp) (hl.loseOne hp)
        (stayingOf_loseOne hp he (by rwa [lasting_seqNo])) ((List.mem_cons.mp hm).resolve_left hem)
      rw [frame_number hk.frame, frame_adv hk.frame] at h
      exact h

/-! ## The requests of a port that is lost (R156) -/

theorem point_mapPort (r : Requests) (p : PortNo) (f : Point → Point) (i : Fin 16) :
    (r.mapPort p f).point p i = f (r.point p i) := by
  unfold Requests.mapPort Requests.point
  simp

theorem stays_completeWaits (p : PortNo) (q : WaitItem → Bool) (s : State) :
    Stays p none s (completeWaits q .portLost s) := by
  have h : Stays p none s (s.setReq (s.req.dropWaits q)) :=
    ⟨rfl, fun w hw => (List.mem_filter.mp hw).1, fun _ => List.Sublist.refl _, fun _ _ hx _ => hx, fun _ => id, id⟩
  exact h.trans (stays_foldl (fun s w => stays_endItem w s) _ _)

theorem waits_completeWaits {q : WaitItem → Bool} {s : State} {w : WaitItem}
    (h : w ∈ (completeWaits q .portLost s).req.waits) : w ∈ s.req.waits ∧ q w = false := by
  have hf : ∀ u, Stays w.port none u ((s.req.waits.filter q).foldl (fun s w => endItem w .portLost s) u) :=
    fun u => stays_foldl (fun s w => stays_endItem w s) _ _
  have := List.mem_filter.mp ((hf _).waits w h)
  exact ⟨this.1, by simpa using this.2⟩

/-- The state after the entries and the waiting items of a lost port have completed. -/
def lostRequests (p : PortNo) (s : State) : State :=
  completeWaits (fun w => w.port == p) .portLost (completeAll (fun e => e.port == p) .portLost s)

theorem loseRequests_eq (p : PortNo) (s : State) : loseRequests p s =
    (lostRequests p s).setReq ((lostRequests p s).req.mapPort p fun pt => { pt with confirmed := none }) := rfl

theorem lostRequests_staying {p : PortNo} {s : State} (hp : s.portUp p = false) :
    (lostRequests p s).req.stayingOf p = [] := by
  have h1 : ((completeAll (fun e => e.port == p) .portLost s).req.stayingOf p) = [] := by
    rw [completeAll_portLost]
    exact (leftAmong_foldl _ (fun m => Nat.le_refl _) hp).none
  have hup : (completeAll (fun e => e.port == p) .portLost s).portUp p = false := by
    rw [portUp_inside (inside_completeAll _ _ _)]
    exact hp
  have h2 := (stays_completeWaits p (fun w => w.port == p) (completeAll (fun e => e.port == p) .portLost s)).sub hup
  rw [h1] at h2
  exact List.sublist_nil.mp h2

theorem loseRequests_table {p : PortNo} {s : State} (hp : s.portUp p = false) :
    ∀ e ∈ (loseRequests p s).req.table, e.port ≠ p := fun e he hep => by
  have h : e.lasting ∈ (lostRequests p s).req.stayingOf p := mem_stayingOf he hep
  rw [lostRequests_staying hp] at h
  exact absurd h List.not_mem_nil

theorem loseRequests_waits {p : PortNo} {s : State} : ∀ w ∈ (loseRequests p s).req.waits, w.port ≠ p := fun w hw => by
  have h : w ∈ (lostRequests p s).req.waits := hw
  simpa using (waits_completeWaits h).2

theorem loseRequests_confirmed (p : PortNo) (s : State) (i : Fin 16) :
    ((loseRequests p s).req.point p i).confirmed = none := by
  rw [loseRequests_eq, State.setReq_req, point_mapPort]

theorem toldLost_loseRequests {p : PortNo} {s : State} (hp : s.portUp p = false)
    (hn : (s.req.table.map (·.seqNo)).Nodup) {e : Entry} (he : e ∈ s.req.table) (hep : e.port = p) :
    ToldLost e s.ring.number s.adv.x (loseRequests p s) := by
  have hnd : ((s.req.stayingOf p).map (·.seqNo)).Nodup := by
    have : (s.req.stayingOf p).map (·.seqNo) = (s.req.table.filter (·.port == p)).map (·.seqNo) := by
      unfold Requests.stayingOf
      rw [List.map_map]
      exact List.map_congr_left fun e _ => lasting_seqNo e
    rw [this]
    exact hn.sublist (List.filter_sublist.map _)
  have hmem := mem_stayingOf he hep
  have h1 := toldLost_loseAll _ hnd hp (fun m => Nat.le_refl _) hmem
    (List.mem_map.mpr ⟨e.lasting, hmem, lasting_seqNo e⟩)
  rw [← completeAll_portLost] at h1
  have h2 := h1.mono (inside_completeWaits (fun w => w.port == p) .portLost _)
    fun f => (stays_completeWaits p _ _).recorded
  exact h2.mono (inside_setReq _ _) fun f hf => hf

end Sys2Proof.Machine

/-! SUPPORT. What a change of a port's state tells, and what each telling of a lost port does. -/

namespace Sys2Proof.Machine

/-! ## The lines of a lost pump (R90) -/

/-- A line whose pump is lost (R90). -/
def Line.lost (l : Line) : Line :=
  if l.state = .stopped then { l with phase := .none }
  else { l with phase := .none, state := .faulted, timer := none, timings := l.staged.getD l.timings, staged := none }

theorem handFault_lines (f : FaultRec) (s : State) : (handFault f s).lines = s.lines :=
  (handFault_added f s).2 .lines (by simp [permitReach])

theorem faultLine_line (i j : LineNo) (f : FaultFormat) (c : FaultCause) (t : LineCause) (s : State) :
    (faultLine i f c t s).line j = if i = j then { (s.line i).rest with state := .faulted } else s.line j := by
  have hl : ∀ k, (handFault (lineRecord f i c s) s).line k = s.line k := fun k => by
    unfold State.line
    rw [handFault_lines]
  unfold faultLine
  dsimp only
  rw [moveLine_line, line_setLine_self, hl]
  split
  · rfl
  · rename_i h
    rw [line_setLine, if_neg h, hl]

theorem lost_of_stopped {l : Line} (h : l.state = .stopped) : l.lost = { l with phase := .none } := if_pos h

theorem lost_of_not_stopped {l : Line} (h : l.state ≠ .stopped) :
    l.lost = { l with
      phase := .none, state := .faulted, timer := none, timings := l.staged.getD l.timings, staged := none } := if_neg h

theorem loseLine_stopped {i : LineNo} {s : State} (h : (s.line i).state = .stopped) :
    loseLine i s = setLine i { s.line i with phase := .none } s := by
  unfold loseLine
  dsimp only
  rw [h]

theorem loseLine_faulted {i : LineNo} {s : State} (h : (s.line i).state = .faulted) :
    loseLine i s = setLine i { s.line i with phase := .none }.rest (setLine i { s.line i with phase := .none } s) := by
  have hl : (setLine i { s.line i with phase := .none } s).line i = { s.line i with phase := .none } :=
    line_setLine_self _ _ _
  unfold loseLine
  dsimp only
  rw [hl]
  generalize { s.line i with phase := .none } = l
  rw [h]

theorem loseLine_running {i : LineNo} {s : State} (h : (s.line i).state ≠ .stopped) (hf : (s.line i).state ≠ .faulted) :
    loseLine i s = faultLine i .lineFault .portLost .portLost (setLine i { s.line i with phase := .none } s) := by
  unfold loseLine
  dsimp only
  split
  · rename_i e
    exact absurd e h
  · rename_i e
    exact absurd e hf
  all_goals rfl

theorem loseLine_line_ne {i j : LineNo} (h : i ≠ j) (s : State) : (loseLine i s).line j = s.line j := by
  have hset : ∀ (l : Line) (s : State), (setLine i l s).line j = s.line j := fun l s => by rw [line_setLine, if_neg h]
  by_cases hs : (s.line i).state = .stopped
  · rw [loseLine_stopped hs, hset]
  by_cases hf : (s.line i).state = .faulted
  · rw [loseLine_faulted hf, hset, hset]
  · rw [loseLine_running hs hf, faultLine_line, if_neg h, hset]

theorem loseLine_line_self (i : LineNo) (s : State) : (loseLine i s).line i = (s.line i).lost := by
  by_cases hs : (s.line i).state = .stopped
  · rw [loseLine_stopped hs, line_setLine_self, lost_of_stopped hs]
  rw [lost_of_not_stopped hs]
  by_cases hf : (s.line i).state = .faulted
  · rw [loseLine_faulted hf, line_setLine_self]
    generalize s.line i = l at hf ⊢
    unfold Line.rest
    dsimp only
    rw [hf]
  · rw [loseLine_running hs hf, faultLine_line, if_pos rfl, line_setLine_self]
    rfl

theorem loseLine_line (i j : LineNo) (s : State) :
    (loseLine i s).line j = if i = j then (s.line i).lost else s.line j := by
  split
  · rename_i h
    subst h
    exact loseLine_line_self i s
  · rename_i h
    exact loseLine_line_ne h s

theorem foldl_loseLine_line (j : LineNo) (l : List LineNo) (s : State) (hn : l.Nodup) :
    (l.foldl (fun s i => loseLine i s) s).line j = if j ∈ l then (s.line j).lost else s.line j := by
  induction l generalizing s with
  | nil => simp
  | cons i l ih =>
    obtain ⟨hi, hl⟩ := List.nodup_cons.mp hn
    rw [List.foldl_cons, ih _ hl, loseLine_line]
    by_cases hij : i = j
    · subst hij
      rw [if_neg hi, if_pos rfl, if_pos (by simp)]
    · simp [hij, Ne.symm hij]

theorem mem_linesOf (p : PortNo) (i : LineNo) : i ∈ linesOf p ↔ pumpPort i = p := by
  simp [linesOf]

theorem linesOf_nodup (p : PortNo) : (linesOf p).Nodup := (List.nodup_finRange 6).filter _

/-- The lines of the pump lost, before the GROUT entry is written. -/
def loseLines (p : PortNo) (s : State) : State := (linesOf p).foldl (fun s i => loseLine i s) s

theorem losePump_eq (p : PortNo) (s : State) : losePump p s = writeGrout (loseLines p s) := rfl

theorem losePump_lines (p : PortNo) (s : State) : (losePump p s).lines = (loseLines p s).lines := writeGrout_lines _

theorem losePump_line (p : PortNo) (i : LineNo) (s : State) :
    (losePump p s).line i = if pumpPort i = p then (s.line i).lost else s.line i := by
  have h : (losePump p s).line i = (loseLines p s).line i := congrArg (fun v => v.get i) (losePump_lines p s)
  rw [h]
  unfold loseLines
  rw [foldl_loseLine_line i _ s (linesOf_nodup p)]
  simp only [mem_linesOf]

/-- What is told of a line that the loss of its pump faults: the fault record, and the LINE report (R89, R90, R94). -/
structure ToldFaulted (i : LineNo) (l : Line) (ring x : Nat) (t : State) : Prop where
  recorded : Recorded ⟨.lineFault, .grout, none, some (pumpPort i), some i.val, .portLost, ring, x⟩ t
  reported : Reported (.line i l.state .faulted l.mode .portLost l.backlog .none ring) t

theorem ToldFaulted.mono {i : LineNo} {l : Line} {ring x : Nat} {t u : State} (h : ToldFaulted i l ring x t)
    (g : Grown t u) (k : Stays 0 none t u) : ToldFaulted i l ring x u := ⟨k.recorded h.recorded, h.reported.grown g⟩

theorem moveLine_reported {i : LineNo} {st : LineState} {m : LineMode} {c : LineCause} {s : State}
    (h : (s.line i).state ≠ st) :
    Reported (.line i (s.line i).state st m c (s.line i).backlog (s.line i).phase s.ring.number) (moveLine i st m c s) := by
  unfold moveLine
  dsimp only
  rw [if_neg h]
  exact reported_report _ _

theorem toldFaulted_loseLine {i : LineNo} {s : State} (h : (s.line i).state ≠ .stopped)
    (hf : (s.line i).state ≠ .faulted) : ToldFaulted i (s.line i) s.ring.number s.adv.x (loseLine i s) := by
  rw [loseLine_running h hf]
  unfold faultLine
  dsimp only
  set u := setLine i { s.line i with phase := .none } s with hu
  have hl : u.line i = { s.line i with phase := .none } := line_setLine_self _ _ _
  have hrec := recorded_handFault (lineRecord .lineFault i .portLost u) u
  have hk := inside_handFault (lineRecord .lineFault i .portLost u) u
  have hlines := handFault_lines (lineRecord .lineFault i .portLost u) u
  set v := handFault (lineRecord .lineFault i .portLost u) u with hv
  have hvl : v.line i = { s.line i with phase := .none } := by
    unfold State.line at hl ⊢
    rw [hlines]
    exact hl
  have hnum : v.ring.number = u.ring.number := frame_number hk.frame
  refine ⟨?_, ?_⟩
  · exact (stays_moveLine (p := 0) (n := none) _ _ _ _ _).recorded
      ((stays_setLine (p := 0) (n := none) _ _ _).recorded hrec)
  · have hw : (setLine i (v.line i).rest v).line i = { s.line i with phase := .none }.rest := by
      rw [line_setLine_self, hvl]
    have hr := moveLine_reported (i := i) (st := .faulted) (m := (v.line i).mode) (c := .portLost)
      (s := setLine i (v.line i).rest v) (by rw [hw]; exact hf)
    rw [hw, hvl, show (setLine i _ v).ring.number = s.ring.number from hnum] at hr
    rw [hvl]
    exact hr

theorem toldFaulted_loseLines {i : LineNo} (l : List LineNo) {s : State} (hn : l.Nodup) (hi : i ∈ l)
    (h : (s.line i).state ≠ .stopped) (hf : (s.line i).state ≠ .faulted) :
    ToldFaulted i (s.line i) s.ring.number s.adv.x (l.foldl (fun s i => loseLine i s) s) := by
  induction l generalizing s with
  | nil => exact absurd hi List.not_mem_nil
  | cons j l ih =>
    obtain ⟨hj, hl⟩ := List.nodup_cons.mp hn
    rw [List.foldl_cons]
    by_cases hij : i = j
    · subst hij
      exact (toldFaulted_loseLine h hf).mono (inside_foldl (fun s i => inside_loseLine i s) _ _).grown
        (stays_foldl (fun s i => stays_loseLine i s) _ _)
    · have hline : (loseLine j s).line i = s.line i := by rw [loseLine_line, if_neg (Ne.symm hij)]
      have hk := inside_loseLine j s
      have := ih hl ((List.mem_cons.mp hi).resolve_left hij) (by rw [hline]; exact h) (by rw [hline]; exact hf)
      rw [hline, frame_number hk.frame, frame_adv hk.frame] at this
      exact this

theorem toldFaulted_losePump {p : PortNo} {i : LineNo} {s : State} (hi : pumpPort i = p)
    (h : (s.line i).state ≠ .stopped) (hf : (s.line i).state ≠ .faulted) :
    ToldFaulted i (s.line i) s.ring.number s.adv.x (losePump p s) :=
  (toldFaulted_loseLines _ (linesOf_nodup p) ((mem_linesOf p i).mpr hi) h hf).mono (inside_writeGrout _).grown
    (stays_writeGrout _)

theorem losePump_level (p : PortNo) (s : State) :
    ((losePump p s).permit.table.get Source.grout.idx).level = (groutLevel s.ring.state (losePump p s).lines).1 := by
  have hr : (loseLines p s).ring.state = s.ring.state :=
    congrArg Meter.ring (inside_foldl (fun s i => inside_loseLine i s) (linesOf p) s).meter
  rw [losePump_lines, ← hr]
  exact writeEntry_level _ _ _ _

/-- An inner operation, as the event that a lost port tells (R143). -/
theorem Inside.acted {s t : State} (h : Inside s t) : Acted (.lines :: .out :: permitReach) s t :=
  ⟨h.grown.replies, h.grown.link, agree_of_frame h.frame⟩

/-! ## The other tellings of a lost port -/

/-- The cutter drive is lost (R22). -/
theorem loseCutter_adv (s : State) :
    (loseCutter s).adv.cutter = .stopped ∧ (loseCutter s).adv.torque = 0
      ∧ (s.adv.cutter ≠ .stopped → (loseCutter s).adv.state = if s.adv.state.active then .idle else s.adv.state) := by
  have hc := stopCutter_adv s
  set u := (stopCutter s).setAdv { (stopCutter s).adv with torque := 0 } with hu
  have hw : loseCutter s = writeEntry .torque .clear .none u := rfl
  refine ⟨?_, ?_, fun hne => ?_⟩
  · have hcut : u.adv.cutter = .stopped := congrArg Advance.cutter hc
    rw [hw, writeEntry_adv, permitWritten_adv]
    dsimp only
    split
    · simp only [hcut, ite_self]
    · exact hcut
  · rw [hw, frame_adv (inside_writeEntry (src := .torque) .clear .none u (by decide)).frame]
    rfl
  · have hst : u.adv.state = s.adv.state.stopped := by
      change (stopCutter s).adv.state = _
      rw [hc]
      exact if_neg hne
    have hrest : u.adv.state.active = false := by
      rw [hst]
      exact stopped_not_active _
    rw [hw, (writeEntry_at_rest hrest).1, hst]
    rfl

theorem acted_loseCutter (s : State) : Acted permitReach s (loseCutter s) := by
  have h1 : AgreeBut (.link :: permitReach) s (stopCutter s) :=
    (agree_stopCutter s).mono (by simp [advanceReach, permitReach])
  have h2 : AgreeBut (.link :: permitReach) (stopCutter s)
      ((stopCutter s).setAdv { (stopCutter s).adv with torque := 0 }) := agree_setAdv (by simp [permitReach]) _ _
  have g : Grown s (loseCutter s) := (calm_stopCutter s).grown.trans (Grown.trans
    (t := (stopCutter s).setAdv { (stopCutter s).adv with torque := 0 }) (.of_link rfl)
    (inside_writeEntry (src := .torque) _ _ _ (by decide)).grown)
  exact ⟨g.replies, g.link, (h1.trans h2).trans (agree_writeEntry _ _ _ _)⟩

theorem writeEntry_cause (src : Source) (l : Level) (c : RCause) (s : State) :
    ((writeEntry src l c s).permit.table.get src.idx).cause = c := by
  rw [writeEntry_permit, write_table_get, if_pos rfl]
  exact (write_get _ _ _ _ _).2

theorem loseStepPort_of_lost {p : PortNo} {s : State} {st : Step} (hs : s.build.step = some st)
    (hr : st.state.running = true) (hp : phasePort st.state st.sector = p) :
    loseStepPort p s = stepFault .portLost s := by
  unfold loseStepPort
  rw [hs]
  exact if_pos (by simp [hr, hp])

theorem loseStepPort_of_not {p : PortNo} {s : State} (h : s.build.step = none ∨ ∃ st, s.build.step = some st
    ∧ (st.state.running = false ∨ phasePort st.state st.sector ≠ p)) : loseStepPort p s = s := by
  unfold loseStepPort
  rcases h with h | ⟨st, h, hn⟩
  · rw [h]
  · rw [h]
    refine if_neg ?_
    rw [Bool.and_eq_true, beq_iff_eq]
    rintro ⟨hr, hp⟩
    exact hn.elim (fun k => by simp [hr] at k) fun k => k hp

theorem holder_eq_some (g : Grant) (p : PortNo) :
    g.holder = some p ↔ p = 14 ∧ g = .port14 ∨ p = 15 ∧ g = .port15 := by
  cases g <;> simp [Grant.holder, eq_comm]

theorem loseGrantPort_of_held {p : PortNo} {s : State} (h : s.build.grant.holder = some p) :
    loseGrantPort p s
      = report (.localControl .ended p s.ring.number .port) (s.setBuild { s.build with grant := .free }) := by
  unfold loseGrantPort
  rw [if_pos h]
  unfold endGrant
  rw [h]

/-! ## The tellings of a change (R143) -/

theorem changePort_eq (p : PortNo) (new : PortState) (cause : PortCause) (outcome : Option ReqOutcome) (s : State) :
    changePort p new cause outcome s =
      let old := (s.ports.get p).state
      let u := portReport p old outcome (modPort p (Port.enter new cause) s)
      tellAll (portTellings p old new (portRecord old cause outcome)) (if p = 6 then markLate old new u else u) := by
  unfold changePort
  dsimp only
  simp only [portClass_beltScale_iff]

theorem mem_portTellings {p : PortNo} {old new : PortState} {c : Option FaultCause} {f : State → State} :
    f ∈ portTellings p old new c ↔ f ∈ recordTelling p c ∨ f ∈ unitTellings p old new ∨ f ∈ jobTellings p old new := by
  simp only [portTellings, List.mem_append, or_assoc]

theorem jobLoss_mem {p : PortNo} {old new : PortState} {c : Option FaultCause} {f : State → State}
    (hr : new ≠ .ready) (hs : new ≠ .stale) (h : f ∈ jobLoss p) : f ∈ portTellings p old new c := by
  have hn : new.inService = false := by cases new <;> simp_all [PortState.inService]
  rw [mem_portTellings]
  refine .inr (.inr ?_)
  simp [jobTellings, hn, h]

/-- The job block of a lost port, by the port's number (R3, R22, R43, R63, R90, R125). -/
theorem jobLoss_eq : jobLoss 2 = [loseStroke] ∧ jobLoss 3 = [loseChamber] ∧ jobLoss 4 = [loseCutter]
    ∧ jobLoss 6 = [loseScale] ∧ (∀ p : PortNo, p = 7 ∨ p = 8 ∨ p = 9 → jobLoss p = [losePump p])
    ∧ (∀ p : PortNo, p = 0 ∨ p = 1 ∨ p = 10 → jobLoss p = [loseStepPort p]) := by
  refine ⟨rfl, rfl, rfl, rfl, fun p h => ?_, fun p h => ?_⟩
  · rcases h with rfl | rfl | rfl <;> rfl
  · rcases h with rfl | rfl | rfl <;> rfl

/-- Settles O44, telling by telling: a change queues its tellings, and each has a rule of its own above. -/
theorem lostPortsAreTold : Obligations.LostPortsAreTold := by
  unfold Obligations.LostPortsAreTold
  refine ⟨fun p new cause outcome s => ?_, fun p old new cause => ⟨fun c hc => ?_, fun hl => ?_, fun hp => ?_,
      fun hr hs => ⟨fun h => ?_, fun h => ?_, fun h => ?_, fun h => ?_, fun h => ?_, fun h => ?_⟩, fun hp ho => ?_⟩,
    fun old outcome => ⟨?_, rfl, rfl⟩, fun p c s => rfl, fun s => ⟨rfl, rfl, rfl⟩,
    fun s => ⟨(loseCutter_adv s).1, (loseCutter_adv s).2.1, (loseCutter_adv s).2.2, writeEntry_level _ _ _ _,
      writeEntry_cause _ _ _ _, acted_loseCutter s⟩,
    fun p s => ⟨fun i => ?_, fun i hi hst hfa => ?_, losePump_level p s, (inside_losePump p s).acted⟩,
    fun p s => ⟨fun st => loseStepPort_of_lost, loseStepPort_of_not⟩, fun p s => ⟨fun h => ?_, fun h => ?_⟩,
    fun p s hp => ⟨loseRequests_table hp, loseRequests_waits, loseRequests_confirmed p s,
      frame_ports (inside_loseRequests p s).frame, fun hn e he hep => ?_⟩⟩
  · rw [changePort_eq]
    exact tellAll_perm _ _
  · rw [mem_portTellings, hc]
    exact .inl (by simp [recordTelling])
  · have hlost : new.lost = true := by rcases hl with rfl | rfl | rfl | rfl <;> rfl
    rw [mem_portTellings]
    exact .inr (.inl (by simp [unitTellings, hlost]))
  · rw [mem_portTellings]
    exact .inr (.inr (by simp [jobTellings, hp]))
  · exact jobLoss_mem hr hs (by rw [h, jobLoss_eq.1]; simp)
  · exact jobLoss_mem hr hs (by rw [h, jobLoss_eq.2.1]; simp)
  · exact jobLoss_mem hr hs (by rw [h, jobLoss_eq.2.2.1]; simp)
  · exact jobLoss_mem hr hs (by rw [h, jobLoss_eq.2.2.2.1]; simp)
  · exact jobLoss_mem hr hs (by rw [jobLoss_eq.2.2.2.2.1 p h]; simp)
  · exact jobLoss_mem hr hs (by rw [jobLoss_eq.2.2.2.2.2 p h]; simp)
  · have hc : Config.portClass p = .pendant := by rcases hp with rfl | rfl <;> rfl
    rw [mem_portTellings]
    exact .inr (.inr (by simp [jobTellings, hc, ho]))
  · cases old <;> rfl
  · rw [losePump_line]
    by_cases hi : pumpPort i = p
    · rw [if_pos hi, if_neg (not_not.mpr hi)]
      rfl
    · rw [if_neg hi, if_pos hi]
  · obtain ⟨h1, h2⟩ := toldFaulted_losePump hi hst hfa
    rw [hi] at h1
    exact ⟨h1, h2⟩
  · exact loseGrantPort_of_held ((holder_eq_some _ _).mpr h)
  · unfold loseGrantPort
    exact if_neg fun e => h ((holder_eq_some _ _).mp e)
  · have h := toldLost_loseRequests hp hn he hep
    refine ⟨fun ho => hep ▸ h.safe ho, fun tag ho ht => ?_, fun pairs ho hk => ?_⟩
    · have := h.host tag ho ht
      rw [hep] at this
      have hat : e.attemptsMade = match e.state with
          | .inFlight _ => e.attempts
          | .queued | .retryWait => e.attempts - 1 := by
        unfold Entry.attemptsMade
        cases e.state <;> rfl
      rw [hat] at this
      exact this
    · have := h.write pairs ho hk
      rw [hep] at this
      exact this

end Sys2Proof.Machine

/-! SUPPORT. Outside NORMAL the units write no point and register no request of their own: what an operation leaves of the
Output Image and of the Request Table while RESET_PART goes on. -/

namespace Sys2Proof.Machine

/-- Outside NORMAL: the mode stays outside NORMAL, the image stands, and no entry comes into the table (R20, R50, R157). -/
structure Parked (s t : State) : Prop where
  mode : s.out.mode ≠ .normal → t.out.mode ≠ .normal
  image : s.out.mode ≠ .normal → t.req.image = s.req.image
  table : s.out.mode ≠ .normal → t.req.table.Sublist s.req.table

theorem Parked.trans {s t u : State} (h : Parked s t) (k : Parked t u) : Parked s u where
  mode := k.mode ∘ h.mode
  image hm := (k.image (h.mode hm)).trans (h.image hm)
  table hm := (k.table (h.mode hm)).trans (h.table hm)

/-- An operation that leaves the mode, the image and the table. -/
theorem Parked.of_kept {s t : State} (ho : t.out.mode = s.out.mode) (hi : s.out.mode ≠ .normal → t.req = s.req) :
    Parked s t where
  mode h := by rwa [ho]
  image h := by rw [hi h]
  table h := by rw [hi h]

/-- An update of another unit. -/
theorem Parked.same {s t : State} (ho : t.out.mode = s.out.mode) (hr : t.req = s.req) : Parked s t :=
  .of_kept ho fun _ => hr

theorem Parked.refl (s : State) : Parked s s := .same rfl rfl

theorem parked_foldl {α : Type} {f : State → α → State} (h : ∀ s a, Parked s (f s a)) (l : List α) (s : State) :
    Parked s (l.foldl f s) := by
  induction l generalizing s with
  | nil => exact .refl s
  | cons a l ih => exact (h s a).trans (ih _)

/-! ## The advance, the screw and the permit -/

theorem parked_refresh (s : State) : Parked s (refresh s) :=
  .of_kept rfl fun h => by rw [refresh_of_not_normal h]

theorem parked_setScrew (v : Nat) (s : State) : Parked s (setScrew v s) := by
  refine .of_kept rfl fun h => ?_
  change screwRequests false (s.setPres { s.pres with setpoint := v, sOld := v }) = s.req
  unfold screwRequests
  exact if_neg (by simp [h])

theorem parked_advanced (new : AdvState) (s : State) : Parked s (advanced new s) := by
  have ha : Parked s (s.setAdv { s.adv with state := new }) := .same rfl rfl
  have hh : ∀ u, Parked u (countHold u) := fun u => .same rfl rfl
  have hl : ∀ u, Parked u (pressureLeave u) := fun u => parked_setScrew 0 u
  unfold advanced
  dsimp only
  split <;> split
  · exact ha.trans ((hh _).trans (hl _))
  · exact ha.trans (hl _)
  · exact ha.trans (hh _)
  · exact ha

theorem parked_moveAdvance (new : AdvState) (s : State) : Parked s (moveAdvance new s) :=
  (parked_advanced new s).trans (parked_refresh _)

theorem parked_stopAdvance (s : State) : Parked s (stopAdvance s) := by
  rw [stopAdvance_eq]
  split
  · exact parked_moveAdvance _ _
  · exact .refl s

theorem parked_stopCutter (s : State) : Parked s (stopCutter s) := by
  rw [stopCutter_eq]
  split
  · exact .refl s
  · have h : Parked s (s.setAdv { s.adv with cutter := .stopped }) := .same rfl rfl
    exact h.trans ((parked_stopAdvance _).trans (parked_refresh _))

theorem parked_tellPermit (l : Level) (s : State) : Parked s (tellPermit l s) := by
  have h : Parked s (s.setAdv { s.adv with permitCopy := l }) := .same rfl rfl
  rw [tellPermit_eq]
  dsimp only
  split
  · exact h.trans ((parked_stopAdvance _).trans ((parked_stopCutter _).trans (parked_refresh _)))
  · split
    · exact h.trans (parked_refresh _)
    · exact h.trans (parked_moveAdvance _ _)

theorem parked_report (r : Report) (s : State) : Parked s (report r s) := .same rfl rfl

theorem parked_permitWritten (src : Source) (l : Level) (c : RCause) (s : State) : Parked s (permitWritten src l c s) := by
  have hw : Parked s (s.setPermit (s.permit.write src l c s.ring.number s.adv.x)) := .same rfl rfl
  unfold permitWritten
  dsimp only
  split
  · exact hw.trans ((parked_tellPermit _ _).trans (parked_report _ _))
  · exact hw

theorem parked_tellMuckLevel (l : Level) (s : State) : Parked s (tellMuckLevel l s) := by
  have h : Parked s (s.setPres { s.pres with muckTold := l }) := .same rfl rfl
  unfold tellMuckLevel
  dsimp only
  split
  · exact h.trans (parked_setScrew _ _)
  · exact h

theorem parked_writeEntry (src : Source) (l : Level) (c : RCause) (s : State) : Parked s (writeEntry src l c s) := by
  rw [writeEntry_eq]
  split
  · exact (parked_permitWritten src l c s).trans (parked_tellMuckLevel _ _)
  · exact parked_permitWritten src l c s

theorem parked_writeGrout (s : State) : Parked s (writeGrout s) := parked_writeEntry .grout _ _ s

theorem parked_tellOutput (s : State) : Parked s (tellOutput s) := parked_writeEntry .output _ _ s

theorem parked_handFault (f : FaultRec) (s : State) : Parked s (handFault f s) := by
  unfold handFault
  split
  · have h : Parked s (s.setOut { s.out with faults := s.out.faults ++ [f] }) := .same rfl rfl
    exact h.trans (parked_report _ _)
  · exact parked_writeEntry _ _ _ s

/-! ## The grout lines -/

theorem parked_setLine (i : LineNo) (l : Line) (s : State) : Parked s (setLine i l s) := .same rfl rfl

theorem parked_moveLine (i : LineNo) (st : LineState) (m : LineMode) (c : LineCause) (s : State) :
    Parked s (moveLine i st m c s) := by
  unfold moveLine
  dsimp only
  split
  · exact parked_setLine _ _ _
  · exact (parked_setLine _ _ _).trans (parked_report _ _)

theorem parked_faultLine (i : LineNo) (f : FaultFormat) (c : FaultCause) (t : LineCause) (s : State) :
    Parked s (faultLine i f c t s) :=
  (parked_handFault _ _).trans ((parked_setLine _ _ _).trans (parked_moveLine _ _ _ _ _))

theorem parked_loseLine (i : LineNo) (s : State) : Parked s (loseLine i s) := by
  unfold loseLine
  dsimp only
  split
  · exact parked_setLine _ _ _
  · exact (parked_setLine _ _ _).trans (parked_setLine _ _ _)
  all_goals exact (parked_setLine _ _ _).trans (parked_faultLine _ _ _ _ _)

theorem parked_losePump (p : PortNo) (s : State) : Parked s (losePump p s) :=
  (parked_foldl (fun s i => parked_loseLine i s) _ _).trans (parked_writeGrout _)

/-- Outside NORMAL no action of the grout lines or of the Build Sequencer is registered (R157). -/
theorem parked_placeItem {w : WaitItem} (ho : w.origin = .grout ∨ w.origin = .build) (hk : ∃ a, w.kind = .action a)
    (s : State) : Parked s (placeItem w s).1 := by
  obtain ⟨a, ha⟩ := hk
  have hadmits : s.out.mode ≠ .normal → s.out.mode.admits w.origin = false := fun h => by
    rcases ho with e | e <;> rw [e] <;> cases hm : s.out.mode <;> simp_all [OutMode.admits]
  have hreq : s.out.mode ≠ .normal → (placeItem w s).1.req.image = s.req.image
      ∧ (placeItem w s).1.req.table = s.req.table := fun h => by
    change (s.req.placeItem s.out.mode (s.ports.get w.port).state w).1.image = _ ∧
      (s.req.placeItem s.out.mode (s.ports.get w.port).state w).1.table = _
    unfold Requests.placeItem
    rw [hadmits h, Bool.and_false, ha]
    split <;> exact ⟨rfl, rfl⟩
  exact ⟨id, fun h => (hreq h).1, fun h => by rw [(hreq h).2]⟩

theorem parked_issueStroke (i : LineNo) (s : State) : Parked s (issueStroke i s) := by
  have h := parked_placeItem (w := ⟨.grout, pumpPort i, .action (.stroke i (s.line i).vs)⟩) (.inl rfl) ⟨_, rfl⟩ s
  unfold issueStroke
  dsimp only
  split
  · exact h.trans (parked_setLine _ _ _)
  · exact h.trans (parked_setLine _ _ _)
  · exact h.trans (parked_losePump _ _)

theorem parked_checkStroke (i : LineNo) (s : State) : Parked s (checkStroke i s) := by
  unfold checkStroke
  split
  · exact parked_issueStroke _ _
  · exact .refl s

theorem parked_strokeCancelled (i : LineNo) (n : Option Nat) (s : State) :
    Parked s (strokeOutcome i n .cancelled s) := by
  unfold strokeOutcome
  dsimp only
  split
  · exact .refl s
  · exact (parked_setLine _ _ _).trans (parked_checkStroke _ _)

theorem parked_resetLine (i : LineNo) (s : State) : Parked s (resetLine i s) :=
  (parked_setLine _ _ _).trans (parked_moveLine _ _ _ _ _)

theorem parked_resetGrout (s : State) : Parked s (resetGrout s) :=
  (parked_foldl (fun s i => parked_resetLine i s) _ _).trans (parked_writeGrout _)

/-! ## The step and the ring -/

theorem parked_withdrawStep (st : Step) (s : State) : Parked s (withdrawStep st s) := by
  unfold withdrawStep
  split
  · exact ⟨id, fun _ => rfl, fun _ => List.Sublist.refl _⟩
  · exact ⟨id, fun _ => rfl, fun _ => List.filter_sublist⟩
  · exact .refl s
  · exact .refl s

theorem parked_stepFault (c : StepCause) (s : State) : Parked s (stepFault c s) := by
  have hs : ∀ v (u : State), Parked u (setStep v u) := fun v u => .same rfl rfl
  unfold stepFault
  split
  · exact .refl s
  · dsimp only
    split
    · exact (parked_withdrawStep _ s).trans ((hs _ _).trans ((parked_handFault _ _).trans (parked_report _ _)))
    · exact .refl s

theorem parked_stepCancelled (n : Option Nat) (s : State) : Parked s (stepOutcome n .cancelled s) := by
  unfold stepOutcome
  split
  · exact .refl s
  · split
    · exact parked_stepFault _ _
    · exact .refl s

theorem parked_restAdvance (s : State) : Parked s (restAdvance s) := by
  have h : Parked s (toIdle s) := by
    unfold toIdle
    split
    · exact .refl s
    · exact parked_moveAdvance _ _
  rw [restAdvance_eq]
  exact h.trans (.same rfl rfl)

theorem parked_endGrant (c : GrantCause) (s : State) : Parked s (endGrant c s) := by
  unfold endGrant
  split <;> exact .same rfl rfl

theorem parked_restBuild (s : State) : Parked s (restBuild s) := by
  have hw : ∀ u, Parked u (withdrawAny u) := fun u => by
    unfold withdrawAny
    split
    · exact .refl u
    · exact parked_withdrawStep _ u
  have hf : ∀ u, Parked u (u.setBuild u.build.freed) := fun u => .same rfl rfl
  rw [restBuild_eq]
  exact (parked_endGrant _ s).trans ((hw _).trans ((hf _).trans (parked_refresh _)))

theorem parked_finishRing (st : RecordState) (s : State) : Parked s (finishRing st s) := by
  cases h : s.ring.current with
  | none =>
    unfold finishRing
    rw [h]
    exact .refl s
  | some r =>
    have h0 : Parked s ((ringFinished st r s).setTick ((ringFinished st r s).tick + 1)) := .same rfl rfl
    rw [finishRing_eq st h]
    refine Parked.trans (tellAll_keeps (Parked s) (fun f hf t ht => ht.trans ?_) h0) (parked_report _ _)
    simp only [List.mem_cons, List.not_mem_nil, or_false] at hf
    rcases hf with rfl | rfl | rfl
    · exact parked_restAdvance t
    · exact parked_writeGrout t
    · exact parked_restBuild t

theorem parked_resetRing (s : State) : Parked s (resetRing s) := by
  unfold resetRing
  split
  · exact parked_restAdvance s
  · exact parked_finishRing _ s

/-! ## The queues, the Fault List and the safe writes -/

theorem parked_resetMuck (s : State) : Parked s (resetMuck s) := by
  have h : ∀ v, Parked s (s.setMuck v) := fun v => .same rfl rfl
  unfold resetMuck
  dsimp only
  split
  · exact (h _).trans ((parked_writeEntry _ _ _ _).trans (parked_writeEntry _ _ _ _))
  · exact (h _).trans (parked_writeEntry _ _ _ _)

theorem parked_resetQueues (s : State) : Parked s (resetQueues s) := by
  have h : Parked s ((clearSegments s).setPres { (clearSegments s).pres with muckTold := .clear }) := .same rfl rfl
  exact h.trans (parked_resetMuck _)

theorem parked_resetFaults (s : State) : Parked s (resetFaults s) := by
  have h : Parked s (s.setOut { s.out with faults := [] }) := .same rfl rfl
  exact h.trans (parked_writeEntry _ _ _ _)

theorem parked_enterClamped (s : State) : Parked s (enterClamped s) := by
  have h : Parked s (s.setOut { s.out with mode := .clamped }) :=
    ⟨fun _ => nofun, fun _ => rfl, fun _ => List.Sublist.refl _⟩
  exact h.trans ((parked_tellOutput _).trans (parked_report _ _))

theorem parked_leaveOutstanding (p : PortNo) (s : State) : Parked s (leaveOutstanding p s) := by
  have h : ∀ v, v.mode = s.out.mode → Parked s (s.setOut v) := fun v hv => .same hv rfl
  unfold leaveOutstanding
  split
  · dsimp only
    split
    · exact (h _ (by rfl)).trans (parked_enterClamped _)
    · exact h _ (by rfl)
  · exact .refl s

/-- The outcome CANCELLED of a request, handed to any owner but the Port Manager (R155). -/
theorem parked_cancelled {e : Entry} (h : e.origin ≠ .port) (s : State) : Parked s (handOutcome e .cancelled s) := by
  unfold handOutcome
  split
  · exact parked_report _ _
  · exact .refl s
  · exact .refl s
  · split
    · exact parked_strokeCancelled _ _ _
    · exact .refl s
  · exact parked_stepCancelled _ _
  · rename_i ho
    exact absurd ho h
  · exact parked_leaveOutstanding _ _

end Sys2Proof.Machine

/-! SUPPORT. RESET_PART at the Request Unit: every entry that stood completes CANCELLED, and of the table there remain the
IDENTIFY requests that were asked anew, one at most for a port; no point is DIRTY. -/

namespace Sys2Proof.Machine

/-! ## Points that are not DIRTY (R157, R159, R165) -/

/-- No point of the image is DIRTY. -/
def Requests.noDirty (r : Requests) : Prop := ∀ p i, (r.point p i).state ≠ .dirty

theorem noDirty_of_image {r r' : Requests} (h : r'.image = r.image) (k : r.noDirty) : r'.noDirty := fun p i => by
  unfold Requests.point
  rw [h]
  exact k p i

theorem cleanPoints_noDirty (r : Requests) : r.cleanPoints.noDirty := fun p i => by
  have h : r.cleanPoints.point p i = (r.point p i).cleaned := by
    unfold Requests.cleanPoints Requests.point
    simp
  rw [h]
  unfold Point.cleaned
  split
  · exact nofun
  · assumption

/-- A request that ends CANCELLED makes no point DIRTY (R159). -/
theorem ended_cancelled {pt : Point} (h : pt.state ≠ .dirty) (v : Nat) (stands : Bool) :
    (pt.ended .cancelled v stands).state ≠ .dirty := by
  unfold Point.ended
  dsimp only
  split
  · exact h
  · split <;> exact nofun

/-- A request's points changed by a function that makes none DIRTY. -/
theorem noDirty_modWritten {r : Requests} (h : r.noDirty) (p : PortNo) (k : ReqKind) {f : Nat → Nat → Point → Point}
    (hf : ∀ i v pt, pt.state ≠ .dirty → (f i v pt).state ≠ .dirty) : (r.modWritten p k f).noDirty := by
  unfold Requests.modWritten
  split
  · rename_i pairs
    induction pairs generalizing r with
    | nil => exact h
    | cons x l ih =>
      refine ih fun q j => ?_
      rw [point_modPoint]
      split
      · exact hf _ _ _ (h q j)
      · exact h q j
  · exact h
  · exact h

theorem noDirty_endCancelled {r : Requests} (h : r.noDirty) (p : PortNo) (k : ReqKind) :
    (r.endWrite p k .cancelled).noDirty := noDirty_modWritten h p k fun _ v _ hpt => ended_cancelled hpt v _

/-! ## The entry taken first, of a list in two parts -/

theorem takeFirst_cons_of_neg {α : Type} {q : α → Bool} {x : α} (h : q x = false) (l : List α) :
    takeFirst q (x :: l) = (takeFirst q l).map fun z => (z.1, x :: z.2) := by
  rw [takeFirst, h]
  cases takeFirst q l <;> rfl

theorem takeFirst_append_of_none {α : Type} {q : α → Bool} {a : List α} (b : List α) (h : ∀ x ∈ a, q x = false) :
    takeFirst q (a ++ b) = (takeFirst q b).map fun z => (z.1, a ++ z.2) := by
  induction a with
  | nil => simp
  | cons x a ih =>
    rw [List.cons_append, takeFirst_cons_of_neg (h x (by simp)), ih fun y hy => h y (by simp [hy]), Option.map_map]
    rfl

theorem takeFirst_append_of_some {α : Type} {q : α → Bool} {y : α} (b : List α) {a ys : List α}
    (h : takeFirst q a = some (y, ys)) : takeFirst q (a ++ b) = some (y, ys ++ b) := by
  induction a generalizing ys with
  | nil => exact absurd h nofun
  | cons x a ih =>
    cases hx : q x with
    | true =>
      rw [takeFirst, if_pos hx] at h
      cases h
      rw [List.cons_append, takeFirst, if_pos hx]
    | false =>
      rw [takeFirst_cons_of_neg hx, Option.map_eq_some_iff] at h
      obtain ⟨⟨z, zs⟩, hz, he⟩ := h
      cases he
      rw [List.cons_append, takeFirst_cons_of_neg hx, ih hz]
      rfl

/-! ## The IDENTIFY requests asked anew (R137, R155) -/

/-- IDENTIFY requests of origin PORT, one at most for a port. -/
structure AskedAnew (l : List Entry) : Prop where
  origin : ∀ e ∈ l, e.origin = .port
  identify : ∀ e ∈ l, isIdentify e.origin e.kind = true
  nodup : (l.map (·.port)).Nodup

theorem AskedAnew.sublist {l l' : List Entry} (h : AskedAnew l) (hs : l'.Sublist l) : AskedAnew l' :=
  ⟨fun e he => h.origin e (hs.subset he), fun e he => h.identify e (hs.subset he), h.nodup.sublist (hs.map _)⟩

theorem AskedAnew.length_le {l : List Entry} (h : AskedAnew l) : l.length ≤ 16 := by
  have := h.nodup.length_le_card
  simpa using this

theorem AskedAnew.append {l : List Entry} {e : Entry} (h : AskedAnew l) (ho : e.origin = .port)
    (hi : isIdentify e.origin e.kind = true) (hn : ∀ x ∈ l, x.port ≠ e.port) : AskedAnew (l ++ [e]) where
  origin x hx := by
    rcases List.mem_append.mp hx with hx | hx
    · exact h.origin x hx
    · rw [List.mem_singleton.mp hx, ho]
  identify x hx := by
    rcases List.mem_append.mp hx with hx | hx
    · exact h.identify x hx
    · rw [List.mem_singleton.mp hx, hi]
  nodup := by
    rw [List.map_append, List.nodup_append]
    refine ⟨h.nodup, List.nodup_singleton _, fun p hp q hq => ?_⟩
    obtain ⟨x, hx, rfl⟩ := List.mem_map.mp hp
    rw [List.mem_singleton.mp hq]
    exact hn x hx

/-! ## The entries completed CANCELLED, one by one -/

/-- While every entry completes CANCELLED, the numbers ns still to come: the table is what is left of the entries that
stood, each number as often at most as it is still to come, and behind them the requests asked anew. -/
structure Emptying (ns : List Nat) (s : State) : Prop where
  mode : s.out.mode ≠ .normal
  noDirty : s.req.noDirty
  table : ∃ old new, s.req.table = old ++ new ∧ (∀ m, (old.map (·.seqNo)).count m ≤ ns.count m) ∧ AskedAnew new

theorem Emptying.parked {ns : List Nat} {s t : State} (h : Emptying ns s) (k : Parked s t) : Emptying ns t := by
  obtain ⟨old, new, ht, hc, hn⟩ := h.table
  have hs := k.table h.mode
  rw [ht, List.sublist_append_iff] at hs
  obtain ⟨old', new', ht', ho, hw⟩ := hs
  exact ⟨k.mode h.mode, noDirty_of_image (k.image h.mode) h.noDirty, old', new', ht',
    fun m => ((ho.map _).count_le m).trans (hc m), hn.sublist hw⟩

/-- An action that is placed leaves the image; the table is as it was, or the action's entry is its newest (R150). -/
theorem placeItem_action {w : WaitItem} {a : Action} (h : w.kind = .action a) (s : State) :
    (placeItem w s).1.req.image = s.req.image ∧ ((placeItem w s).1.req.table = s.req.table
      ∨ (placeItem w s).1.req.table = s.req.table ++ [⟨w.origin, none, w.port, w.kind, .queued, 1, s.req.nextSeq⟩]) := by
  change (s.req.placeItem s.out.mode (s.ports.get w.port).state w).1.image = _ ∧
    ((s.req.placeItem s.out.mode (s.ports.get w.port).state w).1.table = _
      ∨ (s.req.placeItem s.out.mode (s.ports.get w.port).state w).1.table = _)
  unfold Requests.placeItem
  split
  · exact ⟨rfl, .inl rfl⟩
  · split
    · refine ⟨?_, .inr (enter_table ..)⟩
      rw [h]
      rfl
    · rw [h]
      exact ⟨rfl, .inl rfl⟩

theorem Emptying.askIdentify {ns : List Nat} {s : State} (h : Emptying ns s) (p : PortNo) :
    Emptying ns (Machine.askIdentify p s) := by
  unfold Machine.askIdentify
  split
  · rename_i hc
    obtain ⟨old, new, ht, hcount, hn⟩ := h.table
    obtain ⟨hi, htab⟩ := placeItem_action
      (w := ⟨.port, p, .action (.identify (Config.reportPeriod (Config.portClass p)))⟩) rfl s
    refine ⟨h.mode, noDirty_of_image hi h.noDirty, ?_⟩
    rcases htab with e | e
    · exact ⟨old, new, e.trans ht, hcount, hn⟩
    · refine ⟨old, _, by rw [e, ht, List.append_assoc], hcount, hn.append rfl rfl fun x hx hp => ?_⟩
      have hid : s.req.identifying p = true := by
        unfold Requests.identifying
        rw [Bool.or_eq_true, List.any_eq_true]
        refine .inl ⟨x, by rw [ht]; exact List.mem_append_right _ hx, ?_⟩
        rw [hn.identify x hx, hp]
        simp
      rw [hid] at hc
      exact absurd hc.2 (by decide)
  · exact h

theorem recordFailure_cancelled (e : Entry) (s : State) : recordFailure e .cancelled s = s := by
  have h : recordedFailure e .cancelled = none := by
    unfold recordedFailure
    split <;> rfl
  unfold recordFailure
  rw [h]

theorem Emptying.endEntry {ns : List Nat} {s : State} (h : Emptying ns s) (e : Entry) :
    Emptying ns (Machine.endEntry e .cancelled s) := by
  have h0 : Emptying ns (s.setReq (s.req.endWrite e.port e.kind .cancelled)) := by
    obtain ⟨old, new, ht, hc, hn⟩ := h.table
    exact ⟨h.mode, noDirty_endCancelled h.noDirty _ _, old, new, (endWrite_table ..).trans ht, hc, hn⟩
  unfold Machine.endEntry
  rw [recordFailure_cancelled]
  by_cases ho : e.origin = .port
  · unfold handOutcome
    rw [ho]
    exact h0.askIdentify _
  · exact h0.parked (parked_cancelled ho _)

/-- The table set to what is left of it. -/
theorem Emptying.setTable {ns ns' : List Nat} {s : State} (h : Emptying ns s) {old new : List Entry}
    (hc : ∀ m, (old.map (·.seqNo)).count m ≤ ns'.count m) (hn : AskedAnew new) :
    Emptying ns' (s.setReq { s.req with table := old ++ new }) :=
  ⟨h.mode, h.noDirty, old, new, rfl, hc, hn⟩

/-- The oldest entry of sequence number m completes CANCELLED (R157). -/
def cancelOne (s : State) (m : Nat) : State := completeFirst (fun e => e.seqNo == m && true) .cancelled s

theorem Emptying.cancelOne {m : Nat} {ns : List Nat} {s : State} (h : Emptying (m :: ns) s) :
    Emptying ns (Machine.cancelOne s m) := by
  obtain ⟨old, new, ht, hc, hn⟩ := h.table
  have hnone : ∀ {l : List Entry}, (∀ e ∈ l, (e.seqNo == m && true) = false) → (l.map (·.seqNo)).count m = 0 := by
    intro l hl
    refine List.count_eq_zero.mpr fun hm => ?_
    obtain ⟨e, he, hem⟩ := List.mem_map.mp hm
    have := hl e he
    simp [hem] at this
  have hskip : (∀ e ∈ old, (e.seqNo == m && true) = false) → ∀ k, (old.map (·.seqNo)).count k ≤ ns.count k := by
    intro hl k
    have hk := hc k
    rw [List.count_cons] at hk
    by_cases hmk : m = k
    · rw [← hmk, hnone hl]
      exact Nat.zero_le _
    · rwa [if_neg (by simpa using hmk)] at hk
  unfold Machine.cancelOne completeFirst
  cases hold : takeFirst (fun e : Entry => e.seqNo == m && true) old with
  | some z =>
    obtain ⟨e, rest⟩ := z
    obtain ⟨hq, b, a, hba, hrest⟩ := takeFirst_some hold
    rw [ht, takeFirst_append_of_some new hold]
    refine (h.setTable (fun k => ?_) hn).endEntry e
    have hk := hc k
    have hem : e.seqNo = m := by simpa using hq
    rw [hba, List.map_append, List.map_cons, List.count_append, List.count_cons, List.count_cons, hem] at hk
    rw [hrest, List.map_append, List.count_append]
    omega
  | none =>
    have hl := takeFirst_none hold
    rw [ht, takeFirst_append_of_none new hl]
    cases hnew : takeFirst (fun e : Entry => e.seqNo == m && true) new with
    | none => exact ⟨h.mode, h.noDirty, old, new, ht, hskip hl, hn⟩
    | some z =>
      obtain ⟨e, rest⟩ := z
      obtain ⟨-, b, a, hba, hrest⟩ := takeFirst_some hnew
      refine (h.setTable (hskip hl) (hn.sublist ?_)).endEntry e
      rw [hba, hrest]
      exact (List.sublist_cons_self e a).append_left b

/-- What the Request Unit holds once every entry has completed: requests asked anew, and no DIRTY point. -/
structure Emptied (s : State) : Prop where
  mode : s.out.mode ≠ .normal
  noDirty : s.req.noDirty
  table : AskedAnew s.req.table

theorem Emptied.parked {s t : State} (h : Emptied s) (k : Parked s t) : Emptied t :=
  ⟨k.mode h.mode, noDirty_of_image (k.image h.mode) h.noDirty, h.table.sublist (k.table h.mode)⟩

theorem Emptying.foldl {ns : List Nat} {s : State} (h : Emptying ns s) : Emptied (ns.foldl Machine.cancelOne s) := by
  induction ns generalizing s with
  | nil =>
    obtain ⟨old, new, ht, hc, hn⟩ := h.table
    have hold : old = [] := by
      rw [← List.map_eq_nil_iff (f := (·.seqNo)), List.eq_nil_iff_forall_not_mem]
      intro m hm
      have := List.count_pos_iff.mpr hm
      have := hc m
      rw [List.count_nil] at this
      omega
    rw [hold, List.nil_append] at ht
    exact ⟨h.mode, h.noDirty, by rw [List.foldl_nil, ht]; exact hn⟩
  | cons m ns ih => exact ih h.cancelOne

/-- Step 2 of RESET_PART leaves requests asked anew, and no DIRTY point (R157, R165, R176). -/
theorem emptied_resetRequests {s : State} (h : s.out.mode ≠ .normal) : Emptied (resetRequests s) := by
  have heq : resetRequests s = (s.req.table.map (·.seqNo)).foldl cancelOne
      (s.setReq (s.req.dropWaits fun w => w.origin == .safe).cleanPoints) := by
    unfold resetRequests completeAll
    rw [List.filter_eq_self.mpr fun _ _ => rfl]
    rfl
  rw [heq]
  exact Emptying.foldl ⟨h, cleanPoints_noDirty _, s.req.table, [], (List.append_nil _).symm, fun m => Nat.le_refl _,
    ⟨nofun, nofun, List.nodup_nil⟩⟩

end Sys2Proof.Machine

/-! SUPPORT. The safe writes of RESET_PART: each port in service with pairs to write gets its write registered, its points
PENDING, and joins the outstanding set. -/

namespace Sys2Proof.Machine

/-! ## One safe write (R150, R159, R169) -/

/-- The port's safe write is to be asked: it is in service and has a pair to write (R169). -/
def safeDue (s : State) (p : PortNo) : Prop := s.portUp p = true ∧ safePairs s p ≠ []

/-- The state after the port's safe write is registered and the port is in the outstanding set. -/
def safeEntered (p : PortNo) (s : State) : State :=
  markOutstanding p (s.setReq (s.req.enter .safe none p (.write (safePairs s p))))

theorem clampPort_of_due {s : State} {p : PortNo} (hm : s.out.mode = .clamping) (hd : safeDue s p)
    (hr : s.req.room = true) : clampPort .clamping s p = safeEntered p s := by
  have hplace : (placeItem ⟨.safe, p, .write (safePairs s p)⟩ s).1
      = s.setReq (s.req.enter .safe none p (.write (safePairs s p))) := by
    have htakes : (s.ports.get p).state.takes .safe (.write (safePairs s p)) = true := by
      have : (s.ports.get p).state.inService = true := hd.1
      simp [PortState.takes, this]
    unfold placeItem Requests.placeItem
    dsimp only
    rw [htakes, hm, hr]
    rfl
  unfold clampPort
  rw [hd.1, if_neg (by decide), if_neg (by simp)]
  unfold askSafe
  split
  · rename_i h
    exact absurd h hd.2
  · rename_i pair pairs h
    rw [if_pos rfl, ← h, hplace]
    rfl

theorem clampPort_of_not_due {s : State} {p : PortNo} (hd : ¬ safeDue s p) : clampPort .clamping s p = s := by
  unfold clampPort
  split
  · rfl
  · rename_i hu
    have hnil : safePairs s p = [] := by
      by_contra h
      exact hd ⟨by simpa using hu, h⟩
    rw [if_neg (by simp)]
    unfold askSafe
    rw [hnil]

/-! ## The safe writes of the ports, one after another -/

/-- A state t in which the safe writes of the ports done have been asked, from a state s with none outstanding. -/
structure Registering (s : State) (done : List PortNo) (t : State) : Prop where
  frame : AgreeBut [.req, .out] s t
  out : t.out = { s.out with outstanding := t.out.outstanding }
  outstanding : ∀ p, t.out.outstanding.get p = true ↔ p ∈ done ∧ safeDue s p
  asked : ∀ p ∈ done, safeDue s p →
    ∃ e ∈ t.req.table, e.origin = .safe ∧ e.port = p ∧ e.kind = .write (safePairs s p)
  commanded : ∀ p ∈ done, safeDue s p → ((safePairs s p).map (·.1)).Nodup → ∀ (i : Fin 16) (v : Nat),
    (i.val, v) ∈ safePairs s p → (t.req.point p i).commanded = some v ∧ (t.req.point p i).state = .pending
  noDirty : t.req.noDirty
  length : t.req.table.length ≤ 16 + done.length
  origin : ∀ e ∈ t.req.table, e.origin = .safe ∨ e.origin = .port

section
variable {s t : State} {done : List PortNo}

theorem Registering.pairs (h : Registering s done t) (p : PortNo) : safePairs t p = safePairs s p := by
  have hs : t.out.safe = s.out.safe := by rw [h.out]
  have hp : t.ports = s.ports := h.frame .ports (by simp)
  unfold safePairs
  rw [hs, hp]

theorem Registering.due (h : Registering s done t) (p : PortNo) : safeDue t p ↔ safeDue s p := by
  have hp : t.ports = s.ports := h.frame .ports (by simp)
  unfold safeDue State.portUp
  rw [h.pairs, hp]

theorem Registering.room (h : Registering s done t) (hl : done.length < 16) : t.req.room = true := by
  have := h.length
  unfold Requests.room
  rw [decide_eq_true_eq, show Config.tableCap = 32 from rfl]
  omega

theorem Registering.skip (h : Registering s done t) {p : PortNo} (hd : ¬ safeDue s p) :
    Registering s (done ++ [p]) t := by
  have hmem : ∀ q, q ∈ done ++ [p] → safeDue s q → q ∈ done := fun q hq hs => by
    rcases List.mem_append.mp hq with hq | hq
    · exact hq
    · rw [List.mem_singleton.mp hq] at hs
      exact absurd hs hd
  refine ⟨h.frame, h.out, fun q => ?_, fun q hq hs => h.asked q (hmem q hq hs) hs,
    fun q hq hs => h.commanded q (hmem q hq hs) hs, h.noDirty, ?_, h.origin⟩
  · rw [h.outstanding]
    exact ⟨fun hq => ⟨List.mem_append_left _ hq.1, hq.2⟩, fun hq => ⟨hmem q hq.1 hq.2, hq.2⟩⟩
  · have := h.length
    rw [List.length_append]
    omega

theorem safeEntered_table (p : PortNo) (s : State) : (safeEntered p s).req.table =
    s.req.table ++ [⟨.safe, none, p, .write (safePairs s p), .queued, 1, s.req.nextSeq⟩] := enter_table ..

theorem safeEntered_point (p : PortNo) (s : State) {q : PortNo} (h : q ≠ p) (i : Fin 16) :
    (safeEntered p s).req.point q i = s.req.point q i := point_modWritten_ne _ _ _ _ _ _ (.inl h)

theorem safeEntered_commanded {p : PortNo} {s : State} (hn : ((safePairs s p).map (·.1)).Nodup) {i : Fin 16} {v : Nat}
    (h : (i.val, v) ∈ safePairs s p) : ((safeEntered p s).req.point p i).commanded = some v
      ∧ ((safeEntered p s).req.point p i).state = .pending := by
  have he : (safeEntered p s).req.point p i
      = ((s.req.register .safe none p (.write (safePairs s p))).point p i).asked v :=
    point_modWritten (s.req.register .safe none p (.write (safePairs s p))) p i v _ (fun _ => Point.asked) hn h
  rw [he]
  exact ⟨rfl, rfl⟩

theorem Registering.enter (h : Registering s done t) {p : PortNo} (hd : safeDue s p) (hp : p ∉ done) :
    Registering s (done ++ [p]) (safeEntered p t) := by
  have hmem : ∀ q, q ∈ done ++ [p] → q ≠ p → q ∈ done := fun q hq hne =>
    (List.mem_append.mp hq).resolve_right fun e => hne (List.mem_singleton.mp e)
  refine ⟨h.frame.trans ((agree_setReq (by simp) _ t).trans (agree_setOut (by simp) _ _)), ?_, fun q => ?_,
    fun q hq hs => ?_, fun q hq hs hn i v hv => ?_, ?_, ?_, fun e he => ?_⟩
  · change { t.out with outstanding := put t.out.outstanding p true } = _
    rw [h.out]
    rfl
  · change (put t.out.outstanding p true).get q = true ↔ _
    rw [get_put]
    split
    · rename_i e
      subst e
      exact iff_of_true rfl ⟨by simp, hd⟩
    · rename_i e
      rw [h.outstanding]
      exact ⟨fun k => ⟨List.mem_append_left _ k.1, k.2⟩, fun k => ⟨hmem q k.1 (Ne.symm e), k.2⟩⟩
  · rw [safeEntered_table, h.pairs]
    by_cases e : q = p
    · subst e
      exact ⟨_, List.mem_append_right _ (List.mem_singleton_self _), rfl, rfl, rfl⟩
    · obtain ⟨x, hx, hk⟩ := h.asked q (hmem q hq e) hs
      exact ⟨x, List.mem_append_left _ hx, hk⟩
  · by_cases e : q = p
    · subst e
      rw [← h.pairs] at hn hv
      exact safeEntered_commanded hn hv
    · rw [safeEntered_point p t e]
      exact h.commanded q (hmem q hq e) hs hn i v hv
  · exact noDirty_modWritten (r := t.req.register .safe none p (.write (safePairs t p))) h.noDirty p _
      fun _ _ _ _ => nofun
  · have := h.length
    rw [safeEntered_table, List.length_append, List.length_append, List.length_singleton, List.length_singleton]
    omega
  · rw [safeEntered_table, List.mem_append, List.mem_singleton] at he
    rcases he with he | rfl
    · exact h.origin e he
    · exact .inl rfl

theorem Registering.clampPort (h : Registering s done t) (hm : s.out.mode = .clamping) {p : PortNo} (hp : p ∉ done)
    (hl : done.length < 16) : Registering s (done ++ [p]) (clampPort .clamping t p) := by
  by_cases hd : safeDue s p
  · rw [clampPort_of_due (by rw [h.out]; exact hm) ((h.due p).mpr hd) (h.room hl)]
    exact h.enter hd hp
  · rw [clampPort_of_not_due fun k => hd ((h.due p).mp k)]
    exact h.skip hd

theorem Registering.foldl (l : List PortNo) (h : Registering s done t) (hm : s.out.mode = .clamping)
    (hn : (done ++ l).Nodup) : Registering s (done ++ l) (l.foldl (Machine.clampPort .clamping) t) := by
  induction l generalizing done t with
  | nil => rwa [List.append_nil]
  | cons p l ih =>
    have hlen := hn.length_le_card
    rw [Fintype.card_fin, List.length_append, List.length_cons] at hlen
    have hp : p ∉ done := fun hd => (List.nodup_append.mp hn).2.2 p hd p (by simp) rfl
    rw [List.append_cons] at hn ⊢
    exact ih (h.clampPort hm hp (by omega)) hn

end

/-- Step 7 of RESET_PART, before the mode passes on (R169, R176). -/
theorem registering_registerSafe {s : State} (h : Emptied s) (hm : s.out.mode = .clamping)
    (ho : ∀ p, s.out.outstanding.get p = false) : Registering s (List.finRange 16) (registerSafe .clamping s) := by
  have h0 : Registering s [] s :=
    ⟨.refl _ s, rfl, fun p => by simp [ho], nofun, nofun, h.noDirty, h.table.length_le,
      fun e he => .inr (h.table.origin e he)⟩
  exact h0.foldl (List.finRange 16) hm (List.nodup_finRange 16)

end Sys2Proof.Machine

/-! SUPPORT. RESET_PART: what its steps leave of the units, from the state it is taken in to its safe writes. -/

namespace Sys2Proof.Machine

/-! ## What every step of a reset keeps (R176) -/

/-- From s, steps of a reset have led to t, changing units of ps alone: the figures of R26, R54 and R73 that a reset keeps,
the configuration of the Output Unit, and with no ring open the rings' history. -/
structure ResetFrom (ps : List Part) (s t : State) : Prop where
  grown : Grown s t
  frame : AgreeBut ps s t
  adv : t.adv = { s.adv with
    state := t.adv.state, cutter := t.adv.cutter, permitCopy := t.adv.permitCopy, a := t.adv.a, x := t.adv.x
    c1 := t.adv.c1, c2 := t.adv.c2, c3 := t.adv.c3 }
  pres : t.pres = { s.pres with setpoint := t.pres.setpoint, sOld := t.pres.sOld, muckTold := t.pres.muckTold }
  setup : ∀ i, (t.line i).setup = (s.line i).setup
  safe : t.out.safe = s.out.safe
  estop : t.out.estop = s.out.estop
  ring : s.ring.current = none → t.ring.current = none ∧ t.ring.history = s.ring.history

/-- The units that a reset reaches beside the muck balance. -/
def resetReach : List Part := .link :: .lines :: .out :: .tick :: permitReach

theorem ResetFrom.trans {ps : List Part} {s t u : State} (h : ResetFrom ps s t) (k : ResetFrom ps t u) :
    ResetFrom ps s u where
  grown := h.grown.trans k.grown
  frame := h.frame.trans k.frame
  adv := by rw [k.adv, h.adv]
  pres := by rw [k.pres, h.pres]
  setup i := (k.setup i).trans (h.setup i)
  safe := k.safe.trans h.safe
  estop := k.estop.trans h.estop
  ring hc := ⟨(k.ring (h.ring hc).1).1, (k.ring (h.ring hc).1).2.trans (h.ring hc).2⟩

theorem ResetFrom.mono {ps qs : List Part} {s t : State} (h : ResetFrom ps s t) (hq : ∀ p ∈ ps, p ∈ qs) :
    ResetFrom qs s t := { h with frame := h.frame.mono hq }

/-- An inner operation is a step of a reset. -/
theorem Inside.resetFrom {s t : State} (h : Inside s t) : ResetFrom resetReach s t where
  grown := h.grown
  frame := (agree_of_frame h.frame).mono (by simp [resetReach, permitReach])
  adv := by rw [frame_adv h.frame]
  pres := frame_pres h.frame
  setup := frame_setup h.frame
  safe := congrArg Frame.safe h.frame
  estop := congrArg Frame.estop h.frame
  ring hc := by
    rw [h.ring_of_closed hc]
    exact ⟨hc, rfl⟩

theorem resetFrom_setOut {s : State} {v : Output} (hs : v.safe = s.out.safe) (he : v.estop = s.out.estop) :
    ResetFrom resetReach s (s.setOut v) :=
  ⟨.of_link rfl, agree_setOut (by simp [resetReach]) v s, rfl, rfl, fun _ => rfl, hs, he, fun hc => ⟨hc, rfl⟩⟩

theorem resetFrom_setTick (n : Nat) (s : State) : ResetFrom resetReach s (s.setTick n) := by
  refine ⟨.of_link rfl, fun p hp => ?_, rfl, rfl, fun _ => rfl, rfl, rfl, fun hc => ⟨hc, rfl⟩⟩
  cases p
  case tick => exact absurd (by simp [resetReach]) hp
  all_goals rfl

/-! ## Step 1: the mode (R176, log 17) -/

theorem resetEnter_clamping {s : State} (h : s.out.mode = .clamping) : resetEnter s = changeCause .reset s := by
  unfold resetEnter
  rw [h]

theorem resetEnter_other {s : State} (h : s.out.mode ≠ .clamping) : resetEnter s =
    reportMode s.out.mode (tellAll (clampTellings .clamped) (setMode .clamping .reset s)) := by
  unfold resetEnter
  cases hm : s.out.mode with
  | clamping => exact absurd hm h
  | normal => rfl
  | clamped => rfl
  | released => rfl

theorem resetFrom_resetEnter (s : State) : ResetFrom resetReach s (resetEnter s) := by
  have hset : ResetFrom resetReach s (setMode .clamping .reset s) := resetFrom_setOut rfl rfl
  by_cases h : s.out.mode = .clamping
  · rw [resetEnter_clamping h]
    unfold changeCause
    split
    · exact (Inside.refl s).resetFrom
    · exact hset.trans ((inside_tellOutput _).trans (inside_report _ _)).resetFrom
  · rw [resetEnter_other h]
    have h0 := hset.trans (resetFrom_setTick ((setMode .clamping .reset s).tick + 1) _)
    exact (tellAll_keeps (ResetFrom resetReach s) (fun f hf t ht => ht.trans (inside_clampTellings hf t).resetFrom) h0).trans
      (inside_report _ _).resetFrom

/-- The change of the mode is reported, unless it stands in CLAMPING for the same cause (R168, R176). -/
theorem resetEnter_reported {s : State} (k : StopLaws s) (h : ¬ (s.out.mode = .clamping ∧ s.out.cause = .reset)) :
    Reported (.outputMode s.out.mode .clamping .reset s.out.estop s.out.outstandingCount) (resetEnter s) := by
  by_cases hm : s.out.mode = .clamping
  · rw [resetEnter_clamping hm]
    unfold changeCause
    rw [if_neg fun hc => h ⟨hm, hc⟩, hm]
    have hout := tellOutput_out (setMode .clamping .reset s)
    have hr := reported_report (.outputMode .clamping (tellOutput (setMode .clamping .reset s)).out.mode
      (tellOutput (setMode .clamping .reset s)).out.cause (tellOutput (setMode .clamping .reset s)).out.estop
      (tellOutput (setMode .clamping .reset s)).out.outstandingCount) (tellOutput (setMode .clamping .reset s))
    rw [hout] at hr
    unfold reportMode
    rw [hout]
    exact hr
  · rw [resetEnter_other hm]
    have hout := clampTellings_out (c := .clamped) (s := setMode .clamping .reset s) (k.none_outstanding hm)
    unfold reportMode
    rw [hout]
    exact reported_report _ _

/-! ## Steps 2 and 3: the requests and the ring (R157, R115) -/

theorem resetFrom_resetCancel (s : State) : ResetFrom resetReach s (resetCancel s) :=
  (resetFrom_setOut (v := { s.out with outstanding := Vector.replicate 16 false }) rfl rfl).trans
    (inside_resetRequests _).resetFrom

theorem resetFrom_restAdvance (s : State) : ResetFrom resetReach s (restAdvance s) := by
  refine ⟨grown_restAdvance s, (agree_restAdvance s).mono (by simp [advanceReach, resetReach, permitReach]), ?_,
    (frame_pres (calm_toIdle s).frame :), fun i => (frame_setup (calm_toIdle s).frame i :), ?_, ?_, fun hc => ?_⟩
  · rw [restAdvance_adv]
  · exact congrArg Frame.safe (calm_toIdle s).frame
  · exact congrArg Frame.estop (calm_toIdle s).frame
  · have hr : (restAdvance s).ring = s.ring := toIdle_ring s
    rw [hr]
    exact ⟨hc, rfl⟩

theorem resetFrom_finishRing {st : RecordState} {s : State} {r : Record} (h : s.ring.current = some r) :
    ResetFrom resetReach s (finishRing st s) := by
  have h0 : ResetFrom resetReach s (ringFinished st r s) :=
    ⟨grown_ringFinished _ _ s, (agree_ringFinished st r s).mono (by simp [resetReach, permitReach]), rfl, rfl,
      fun _ => rfl, rfl, rfl, fun hc => absurd (hc.symm.trans h) nofun⟩
  rw [finishRing_eq st h]
  refine (tellAll_keeps (ResetFrom resetReach s) (fun f hf t ht => ht.trans ?_)
    (h0.trans (resetFrom_setTick _ _))).trans (inside_report _ _).resetFrom
  simp only [List.mem_cons, List.not_mem_nil, or_false] at hf
  rcases hf with rfl | rfl | rfl
  · exact resetFrom_restAdvance t
  · exact (inside_writeGrout t).resetFrom
  · exact (inside_restBuild t).resetFrom

theorem resetFrom_resetRing (s : State) : ResetFrom resetReach s (resetRing s) := by
  unfold resetRing
  split
  · exact resetFrom_restAdvance s
  · rename_i r h
    exact resetFrom_finishRing h

/-- The counters of a ring in the Advance Unit (R6 to R9). -/
def Advance.counters (u : Advance) : Nat × Nat × Nat × Nat × Nat := (u.a, u.x, u.c1, u.c2, u.c3)

theorem Inside.counters {s t : State} (h : Inside s t) : t.adv.counters = s.adv.counters := by
  rw [frame_adv h.frame]
  rfl

/-- Step 3 of RESET_PART: no ring is open, and the accounting starts from the stroke that is measured (R26, R115). -/
theorem resetRing_spec (s : State) :
    (resetRing s).ring.current = none ∧ (resetRing s).adv.counters = (s.adv.m, 0, 0, 0, 0) := by
  unfold resetRing
  split
  · rename_i h
    refine ⟨?_, ?_⟩
    · have hr : (restAdvance s).ring = s.ring := toIdle_ring s
      rw [hr, h]
    · rw [restAdvance_adv]
      rfl
  · rename_i r h
    obtain ⟨hf, hq, -, -⟩ := finishRing_spec .abandoned h
    refine ⟨?_, ?_⟩
    · rw [hf.ring]
      rfl
    · obtain ⟨ha, hx, h1, h2, h3⟩ := hq.adv
      unfold Advance.counters
      rw [ha, hx, h1, h2, h3]

/-! ## Steps 4 to 6: the queues, the lines and the Fault List (R72, R95, R176) -/

/-- The Muck Balance Unit at a reset (R72). -/
def Muck.restarted (k : Muck) : Muck := { k with
  queue := [], generated := 0, released := 0, measured := 0, releasedExp := 0, e := 0, vApplied := 0 }

/-- The queues cleared, before the MUCK entry is written. -/
def queuesCleared (s : State) : State :=
  ((clearSegments s).setPres { s.pres with muckTold := .clear }).setMuck s.muck.restarted

theorem inside_resetQueues (s : State) : Inside (queuesCleared s) (resetQueues s) := by
  have h : ∀ l c u, Inside u (writeEntry .muck l c u) := fun l c u => inside_writeEntry l c u (by decide)
  unfold resetQueues resetMuck
  dsimp only
  split
  · exact (h _ _ _).trans (h _ _ _)
  · exact h _ _ _

theorem resetFrom_resetQueues (s : State) : ResetFrom (.muck :: resetReach) s (resetQueues s) := by
  have h0 : ResetFrom (.muck :: resetReach) s (queuesCleared s) :=
    ⟨.of_link rfl, ((agree_setRing (by simp [resetReach, permitReach]) _ s).trans
      (agree_setPres (by simp [resetReach, permitReach]) _ _)).trans (agree_setMuck (by simp) _ _), rfl, rfl,
      fun _ => rfl, rfl, rfl, fun hc => ⟨hc, rfl⟩⟩
  exact h0.trans ((inside_resetQueues s).resetFrom.mono fun _ => List.mem_cons_of_mem _)

theorem resetQueues_muck (s : State) : (resetQueues s).muck = s.muck.restarted :=
  frame_muck (inside_resetQueues s).frame

theorem resetQueues_counters (s : State) : (resetQueues s).adv.counters = s.adv.counters :=
  (inside_resetQueues s).counters

theorem resetQueues_ring {s : State} (h : s.ring.current = none) :
    (resetQueues s).ring = { s.ring with queue := [] } := (inside_resetQueues s).ring_of_closed h

/-- A line at rest after a reset (R95). -/
structure Line.IsReset (l : Line) : Prop where
  mode : l.mode = .none
  state : l.state = .stopped
  backlog : l.backlog = 0
  rem : l.rem = 0
  phase : l.phase = .none
  staged : l.staged = none

theorem resetLine_self (i : LineNo) (s : State) : ((resetLine i s).line i).IsReset := by
  unfold resetLine
  rw [moveLine_line, if_pos rfl, line_setLine_self]
  exact ⟨rfl, rfl, rfl, rfl, rfl, rfl⟩

theorem resetLine_other {i j : LineNo} (h : i ≠ j) (s : State) : (resetLine i s).line j = s.line j := by
  unfold resetLine
  rw [moveLine_line, if_neg h, line_setLine, if_neg h]

theorem foldl_resetLine (j : LineNo) (l : List LineNo) (s : State) (h : j ∈ l ∨ (s.line j).IsReset) :
    ((l.foldl (fun s i => resetLine i s) s).line j).IsReset := by
  induction l generalizing s with
  | nil => exact h.resolve_left List.not_mem_nil
  | cons i l ih =>
    refine ih _ ?_
    by_cases hij : i = j
    · subst hij
      exact .inr (resetLine_self i s)
    · rw [resetLine_other hij]
      exact h.imp (fun hm => (List.mem_cons.mp hm).resolve_left (Ne.symm hij)) id

theorem resetGrout_line (i : LineNo) (s : State) : ((resetGrout s).line i).IsReset := by
  unfold resetGrout State.line
  rw [writeGrout_lines]
  exact foldl_resetLine i _ s (.inl (List.mem_finRange i))

theorem resetFaults_lines (s : State) : (resetFaults s).lines = s.lines :=
  agree_writeEntry .faultBacklog _ _ _ .lines (by simp [permitReach])

theorem resetFaults_faults (s : State) : (resetFaults s).out.faults = [] := by
  unfold resetFaults
  rw [writeEntry_out]
  rfl

theorem resetFaults_backlog (s : State) :
    ((resetFaults s).permit.table.get Source.faultBacklog.idx).level = .clear := writeEntry_level _ _ _ _

/-! ## The state before the safe writes -/

/-- RESET_PART before its last step (R176). -/
def beforeSafe (s : State) : State := resetFaults (resetGrout (resetQueues (resetRing (resetCancel (resetEnter s)))))

theorem resetPart_eq (s : State) : resetPart s = resetSafe (beforeSafe s) := rfl

/-- What stands before the safe writes: what a reset keeps, and what its steps 2 to 6 have set (R176). -/
structure ReadyForSafe (s t : State) : Prop where
  resetting : Resetting t
  kept : ResetFrom (.muck :: resetReach) s t
  muck : t.muck = s.muck.restarted
  counters : t.adv.counters = (s.adv.m, 0, 0, 0, 0)
  current : t.ring.current = none
  queue : t.ring.queue = []
  lines : ∀ i, (t.line i).IsReset
  faults : t.out.faults = []
  backlog : (t.permit.table.get Source.faultBacklog.idx).level = .clear
  requests : Emptied t

theorem readyForSafe {s : State} (k : StopLaws s) : ReadyForSafe s (beforeSafe s) := by
  have hr := resetting_before_safe k
  have hmode : (resetEnter s).out.mode ≠ .normal := by
    rw [(settled_resetEnter k).2.1]
    exact nofun
  have h2 : ResetFrom resetReach s (resetCancel (resetEnter s)) :=
    (resetFrom_resetEnter s).trans (resetFrom_resetCancel _)
  have e2 : Emptied (resetCancel (resetEnter s)) := emptied_resetRequests hmode
  unfold beforeSafe at *
  generalize resetCancel (resetEnter s) = c at hr h2 e2 ⊢
  have h3 := h2.trans (resetFrom_resetRing c)
  have e3 := e2.parked (parked_resetRing c)
  obtain ⟨hcur, hcnt⟩ := resetRing_spec c
  have hm : c.adv.m = s.adv.m := by rw [h2.adv]
  generalize resetRing c = r at hr h3 e3 hcur hcnt ⊢
  have h4 := (h3.mono (qs := .muck :: resetReach) fun _ => List.mem_cons_of_mem _).trans (resetFrom_resetQueues r)
  have e4 := e3.parked (parked_resetQueues r)
  have hmuck : (resetQueues r).muck = s.muck.restarted := by
    rw [resetQueues_muck, show r.muck = s.muck from h3.frame .muck (by simp [resetReach, permitReach])]
  have hring := resetQueues_ring hcur
  have hcnt' := (resetQueues_counters r).trans hcnt
  generalize resetQueues r = q at hr h4 e4 hmuck hring hcnt' ⊢
  have hqc : q.ring.current = none := by
    rw [hring]
    exact hcur
  have hk : Inside q (resetFaults (resetGrout q)) := (inside_resetGrout q).trans (inside_resetFaults _)
  have hring' := hk.ring_of_closed hqc
  refine ⟨hr, h4.trans (hk.resetFrom.mono fun _ => List.mem_cons_of_mem _), (frame_muck hk.frame).trans hmuck, ?_, ?_, ?_,
    fun i => ?_, resetFaults_faults _, resetFaults_backlog _,
    (e4.parked (parked_resetGrout q)).parked (parked_resetFaults _)⟩
  · rw [hk.counters, hcnt', hm]
  · rw [hring', hqc]
  · rw [hring', hring]
  · unfold State.line
    rw [resetFaults_lines]
    exact resetGrout_line i q

end Sys2Proof.Machine

/-! SUPPORT. RESET_PART: its last step and its rule. -/

namespace Sys2Proof.Machine

/-! ## Step 7: the safe writes, and CLAMPED when there are none (R169, R176) -/

/-- No more than the Request Unit and the Output Unit has changed. -/
theorem resetFrom_of_agree {s t : State} (h : AgreeBut [.req, .out] s t) (hs : t.out.safe = s.out.safe)
    (he : t.out.estop = s.out.estop) : ResetFrom resetReach s t where
  grown := .of_link (h .link (by simp))
  frame := h.mono (by simp [resetReach, permitReach])
  adv := by rw [show t.adv = s.adv from h .adv (by simp)]
  pres := by rw [show t.pres = s.pres from h .pres (by simp)]
  setup i := by
    unfold State.line
    rw [show t.lines = s.lines from h .lines (by simp)]
  safe := hs
  estop := he
  ring hc := by
    rw [show t.ring = s.ring from h .ring (by simp)]
    exact ⟨hc, rfl⟩

theorem enterClamped_out (s : State) : (enterClamped s).out = { s.out with mode := .clamped } :=
  tellOutput_out (s.setOut { s.out with mode := .clamped })

theorem enterClamped_reported (s : State) :
    Reported (.outputMode .clamping .clamped s.out.cause s.out.estop s.out.outstandingCount) (enterClamped s) := by
  unfold enterClamped reportMode
  rw [tellOutput_out]
  exact reported_report _ _

theorem inside_enterClamped (s : State) : Inside (s.setOut { s.out with mode := .clamped }) (enterClamped s) :=
  (inside_tellOutput _).trans (inside_report _ _)

theorem enterClamped_lines (s : State) : (enterClamped s).lines = s.lines :=
  agree_writeEntry .output _ _ (s.setOut { s.out with mode := .clamped }) .lines (by simp [permitReach])

theorem enterClamped_backlog (s : State) :
    (enterClamped s).permit.table.get Source.faultBacklog.idx = s.permit.table.get Source.faultBacklog.idx := by
  change (tellOutput (s.setOut { s.out with mode := .clamped })).permit.table.get Source.faultBacklog.idx = _
  unfold tellOutput writeLevel
  rw [writeEntry_permit]
  exact write_level_ne (src := .output) (src' := .faultBacklog) _ _ _ _ _ (by decide)

/-- After the last step of a reset, from the state s before it: the safe writes are asked, and the mode passes on to CLAMPED
when there is none. -/
structure SafeSettled (s t : State) : Prop where
  kept : ResetFrom resetReach s t
  out : t.out = { s.out with mode := t.out.mode, outstanding := t.out.outstanding }
  mode : (t.out.mode = .clamping ∧ ∃ p, t.out.outstanding.get p = true)
    ∨ (t.out.mode = .clamped ∧ ∀ p, t.out.outstanding.get p = false)
  outstanding : ∀ p, t.out.outstanding.get p = true ↔ safeDue s p
  asked : ∀ p, safeDue s p → ∃ e ∈ t.req.table, e.origin = .safe ∧ e.port = p ∧ e.kind = .write (safePairs s p)
  commanded : ∀ p, safeDue s p → ((safePairs s p).map (·.1)).Nodup → ∀ (i : Fin 16) (v : Nat),
    (i.val, v) ∈ safePairs s p → (t.req.point p i).commanded = some v ∧ (t.req.point p i).state = .pending
  reported : t.out.mode = .clamped → Reported (.outputMode .clamping .clamped s.out.cause s.out.estop 0) t
  noDirty : t.req.noDirty
  origin : ∀ e ∈ t.req.table, e.origin = .safe ∨ e.origin = .port
  counters : t.adv.counters = s.adv.counters
  ring : s.ring.current = none → t.ring = s.ring
  lines : t.lines = s.lines
  backlog : t.permit.table.get Source.faultBacklog.idx = s.permit.table.get Source.faultBacklog.idx

section
variable {s t : State}

theorem Registering.waiting (h : Registering s (List.finRange 16) t) (hm : s.out.mode = .clamping)
    (hc : t.out.outstandingCount ≠ 0) : SafeSettled s t where
  kept := resetFrom_of_agree h.frame (by rw [h.out]) (by rw [h.out])
  out := by rw [h.out]
  mode := .inl ⟨by rw [h.out]; exact hm, (outstandingCount_ne_zero_iff _).mp hc⟩
  outstanding p := (h.outstanding p).trans (and_iff_right (List.mem_finRange p))
  asked p := h.asked p (List.mem_finRange p)
  commanded p := h.commanded p (List.mem_finRange p)
  reported e := by
    rw [h.out] at e
    exact absurd (hm.symm.trans e) nofun
  noDirty := h.noDirty
  origin := h.origin
  counters := by rw [show t.adv = s.adv from h.frame .adv (by simp)]
  ring _ := h.frame .ring (by simp)
  lines := h.frame .lines (by simp)
  backlog := by rw [show t.permit = s.permit from h.frame .permit (by simp)]

theorem Registering.passedOn (h : Registering s (List.finRange 16) t) (hm : s.out.mode = .clamping)
    (hc : t.out.outstandingCount = 0) : SafeSettled s (enterClamped t) := by
  have hno := (outstandingCount_eq_zero_iff _).mp hc
  have hdue : ∀ p, ¬ safeDue s p := fun p hd =>
    absurd (((h.outstanding p).mpr ⟨List.mem_finRange p, hd⟩).symm.trans (hno p)) nofun
  have hi := inside_enterClamped t
  have hmode : t.out.mode ≠ .normal := by
    rw [h.out]
    exact fun e => absurd (hm.symm.trans e) nofun
  have hp := parked_enterClamped t
  have hout := enterClamped_out t
  have houts : ∀ p, (enterClamped t).out.outstanding.get p = false := by
    rw [hout]
    exact hno
  have hset : AgreeBut [.req, .out] s (t.setOut { t.out with mode := .clamped }) :=
    h.frame.trans (agree_setOut (by simp) _ t)
  have hrep := enterClamped_reported t
  refine ⟨?_, ?_, .inr ⟨by rw [hout], houts⟩, fun p => ?_, fun p hd => absurd hd (hdue p), fun p hd => absurd hd (hdue p),
    fun _ => ?_, noDirty_of_image (hp.image hmode) h.noDirty, fun e he => h.origin e ((hp.table hmode).subset he), ?_,
    fun hcur => ?_, (enterClamped_lines t).trans (h.frame .lines (by simp)), ?_⟩
  · refine (resetFrom_of_agree hset ?_ ?_).trans hi.resetFrom
    · change t.out.safe = _
      rw [h.out]
    · change t.out.estop = _
      rw [h.out]
  · rw [hout, h.out]
  · rw [houts p]
    exact iff_of_false nofun (hdue p)
  · rw [hc] at hrep
    rw [h.out] at hrep
    exact hrep
  · rw [hi.counters]
    change t.adv.counters = _
    rw [show t.adv = s.adv from h.frame .adv (by simp)]
  · have hr : t.ring = s.ring := h.frame .ring (by simp)
    have := hi.ring_of_closed (by change t.ring.current = none; rw [hr, hcur])
    exact this.trans hr
  · rw [enterClamped_backlog, show t.permit = s.permit from h.frame .permit (by simp)]

end

theorem safeSettled_resetSafe {s : State} (h : Emptied s) (k : Resetting s) : SafeSettled s (resetSafe s) := by
  have hr := registering_registerSafe h k.mode k.none
  unfold resetSafe
  dsimp only
  generalize registerSafe .clamping s = v at hr ⊢
  split
  · rename_i h0
    exact hr.passedOn k.mode h0
  · rename_i h0
    exact hr.waiting k.mode h0

/-! ## The rule -/

/-- Outside NORMAL with no ring open, the laws have the advance and the sectors at rest (R13, R18, R96, R117, R130). -/
structure AllAtRest (t : State) : Prop where
  ring : t.ring.state = .none
  advance : t.adv.state = .idle
  cutter : t.adv.cutter = .stopped
  permit : t.permit.level = .stop
  grant : t.build.grant = .free
  step : t.build.step = none
  owners : ∀ sec, t.build.owners.get sec = .none
  groups : ∀ g, t.build.groups.get g = .hold

theorem StopLaws.ring_none {s : State} (k : StopLaws s) (h : s.ring.current = none) : s.ring.state = .none := by
  by_contra hr
  have := k.ring.current.mpr hr
  rw [h] at this
  exact absurd this nofun

theorem StopLaws.allAtRest {t : State} (k : StopLaws t) (hm : t.out.mode ≠ .normal) (hc : t.ring.current = none) :
    AllAtRest t := by
  have hr := k.ring_none hc
  have hstep : t.build.step = none := k.build.idle (by rw [hr]; exact nofun)
  have howner : ∀ sec, t.build.owners.get sec = .none := fun sec => by
    cases ho : t.build.owners.get sec with
    | none => rfl
    | build =>
      obtain ⟨st, hst, -⟩ := (k.build.owned sec).mp ho
      exact absurd (hst.symm.trans hstep) nofun
  exact ⟨hr, k.ring.advance (by rw [hr]; exact nofun), k.clamp.cutter hm, (k.output hm).2, k.clamp.grant hm, hstep, howner,
    fun g => k.build.held hm g (howner _)⟩

theorem ResetFrom.pairs {ps : List Part} {s t : State} (h : ResetFrom ps s t) (hp : .ports ∉ ps) (p : PortNo) :
    safePairs t p = safePairs s p := by
  have hports : t.ports = s.ports := h.frame .ports hp
  unfold safePairs
  rw [h.safe, hports]

theorem ResetFrom.due {ps : List Part} {s t : State} (h : ResetFrom ps s t) (hp : .ports ∉ ps) (p : PortNo) :
    safeDue t p ↔ s.portUp p = true ∧ safePairs s p ≠ [] := by
  have hports : t.ports = s.ports := h.frame .ports hp
  unfold safeDue State.portUp
  rw [h.pairs hp, hports]

theorem takeResetPart_eq (s : State) : takeResetPart s = (resetSafe (beforeSafe s), .ok,
    u8 (resetSafe (beforeSafe s)).out.mode.code ++ u8 (resetSafe (beforeSafe s)).out.outstandingCount) := by
  unfold takeResetPart
  rw [resetPart_eq]

theorem grown_afterEnter (s : State) : Grown (resetEnter s) (beforeSafe s) :=
  (resetFrom_resetCancel _).grown.trans ((resetFrom_resetRing _).grown.trans ((resetFrom_resetQueues _).grown.trans
    ((inside_resetGrout _).grown.trans (inside_resetFaults _).grown)))

/-- Settles O56: the first six steps leave the state ready for the safe writes (readyForSafe), the seventh asks them
(safeSettled_resetSafe), and what is at rest after both is so by the laws that a reset keeps. -/
theorem resetPartRule : Obligations.ResetPartRule := by
  unfold Obligations.ResetPartRule
  intro tag s h k
  have hready := readyForSafe k
  have hdone := safeSettled_resetSafe hready.requests hready.resetting
  have hlaws : StopLaws (resetSafe (beforeSafe s)) := stopLaws_resetPart k
  have hexec := exec_command (i := .resetPart tag) (c := .resetPart) rfl h (takeResetPart_eq s)
  have hrep : ¬ (s.out.mode = .clamping ∧ s.out.cause = .reset) →
      Reported (.outputMode s.out.mode .clamping .reset s.out.estop s.out.outstandingCount) (beforeSafe s) :=
    fun hn => (resetEnter_reported k hn).grown (grown_afterEnter s)
  generalize beforeSafe s = f at hready hdone hlaws hexec hrep
  generalize resetSafe f = t at hdone hlaws hexec hrep
  have hkept := hready.kept.trans (hdone.kept.mono fun _ => List.mem_cons_of_mem _)
  have hports : Part.ports ∉ Part.muck :: resetReach := by simp [resetReach, permitReach]
  have hmode : t.out.mode ≠ .normal := by
    rcases hdone.mode with ⟨e, -⟩ | ⟨e, -⟩ <;> rw [e] <;> exact nofun
  have hring := hdone.ring hready.current
  have hcur : t.ring.current = none := by rw [hring, hready.current]
  have hrest := hlaws.allAtRest hmode hcur
  have hcount := hdone.counters.trans hready.counters
  simp only [Advance.counters, Prod.mk.injEq] at hcount
  obtain ⟨ha, hx, h1, h2, h3⟩ := hcount
  have hadv := hkept.adv
  have hline : ∀ i, (t.line i).IsReset := fun i => by
    unfold State.line
    rw [hdone.lines]
    exact hready.lines i
  have hmuck : t.muck = s.muck.restarted := (hdone.kept.frame .muck (by simp [resetReach, permitReach])).trans hready.muck
  have hdue : ∀ p, safeDue f p ↔ s.portUp p = true ∧ safePairs s p ≠ [] := hready.kept.due hports
  have hpairs : ∀ p, safePairs f p = safePairs s p := hready.kept.pairs hports
  have hreps : ¬ (s.out.mode = .clamping ∧ s.out.cause = .reset) →
      Reported (.outputMode s.out.mode .clamping .reset s.out.estop s.out.outstandingCount) t :=
    fun hn => (hrep hn).grown hdone.kept.grown
  have hclamped : t.out.mode = .clamped → Reported (.outputMode .clamping .clamped .reset s.out.estop 0) t := fun hc => by
    have := hdone.reported hc
    rwa [hready.resetting.cause, hready.kept.estop] at this
  have hasked : ∀ p, s.portUp p = true → safePairs s p ≠ [] →
      ∃ e ∈ t.req.table, e.origin = .safe ∧ e.port = p ∧ e.kind = .write (safePairs s p) := fun p hu hp => by
    have := hdone.asked p ((hdue p).mpr ⟨hu, hp⟩)
    rwa [hpairs p] at this
  refine ⟨_, hexec, hdone.mode, ?_, ?_, hkept.safe, hkept.estop, hrest.permit, ?_, hcur, ?_, fun _ => hrest.ring,
    fun hc => ⟨?_, (hkept.ring hc).2⟩, hrest.cutter, hrest.grant, fun p => (hdone.outstanding p).trans (hdue p),
    fun p hu hp => ?_, hreps, hclamped, hrest.advance, ?_, ha, hx, h1, h2, h3, ?_, ?_, ?_, ?_, ?_, ?_, ?_, ?_, ?_, ?_, hmuck,
    fun i => ?_, hdone.origin, hdone.noDirty, hrest.owners, hrest.groups, hrest.step, hkept.frame .ports hports, ?_⟩
  · change t.out.cause = _
    rw [hdone.out]
    exact hready.resetting.cause
  · change t.out.faults = _
    rw [hdone.out]
    exact hready.faults
  · change (t.permit.table.get _).level = _
    rw [hdone.backlog]
    exact hready.backlog
  · change t.ring.queue = _
    rw [hring]
    exact hready.queue
  · exact hrest.ring.trans (k.ring_none hc).symm
  · refine ⟨.inl (hasked p hu hp), fun hn => .inl ⟨hasked p hu hp, fun i v hv => ?_⟩⟩
    rw [← hpairs p] at hv
    refine hdone.commanded p ((hdue p).mpr ⟨hu, hp⟩) ?_ i v hv
    rw [hpairs p]
    exact hn.sublist (List.filter_sublist.map _)
  · exact (congrArg Advance.m hadv :)
  · exact (congrArg Advance.readings hadv :)
  · exact (congrArg Advance.geometry hadv :)
  · exact (congrArg Advance.ground hadv :)
  · exact (congrArg Advance.fRed hadv :)
  · exact (congrArg Advance.tWarn hadv :)
  · exact (congrArg Advance.torque hadv :)
  · exact (congrArg Advance.rReq hadv :)
  · exact (congrArg Pressure.active hkept.pres :)
  · exact (congrArg Pressure.waiting hkept.pres :)
  · exact (congrArg Pressure.p hkept.pres :)
  · have hset := hkept.setup i
    simp only [Line.setup, Prod.mk.injEq] at hset
    obtain ⟨hw, hv, -, -, -, hl⟩ := hset
    obtain ⟨l1, l2, l3, l4, l5, l6⟩ := hline i
    exact ⟨l1, l2, l3, l4, l5, hw, hv, hl, l6⟩
  · exact .of_taken hkept.grown (hkept.frame.mono (by simp [resetReach, permitReach]))

end Sys2Proof.Machine

/-! SUPPORT. RecordLaws through the updates of one unit: the laws of the Request Unit, of the Ring Unit and of the Muck
Balance Unit under the changes the model makes of their lists. -/

namespace Sys2Proof.Machine

/-! ## The Request Table and the Action Wait List (R148, R150) -/

/-- What RecordLaws says of the Request Unit. -/
structure Requests.Orderly (r : Requests) : Prop extends TableLaw r where
  fits : r.table.length ≤ Config.tableCap

theorem Requests.room_iff (r : Requests) : r.room = true ↔ r.table.length < Config.tableCap := by simp [Requests.room]

/-- Entries that leave the table, or none, and items that leave the list, or none. -/
theorem Requests.Orderly.sublist {r r' : Requests} (h : r.Orderly) (ht : r'.table.Sublist r.table)
    (hw : r'.waits.Sublist r.waits) : r'.Orderly where
  tagged e he := h.tagged e (ht.subset he)
  hosts := le_trans (ht.filter _).length_le h.hosts
  tags := h.tags.sublist ((ht.filter _).map _)
  lines p := le_trans (ht.filter _).length_le (h.lines p)
  waits w hm := h.waits w (hw.subset hm)
  fits := le_trans ht.length_le h.fits

/-- Neither the table nor the list changes. -/
theorem Requests.Orderly.of_eq {r r' : Requests} (h : r.Orderly) (ht : r'.table = r.table) (hw : r'.waits = r.waits) :
    r'.Orderly := h.sublist (ht ▸ .refl _) (hw ▸ .refl _)

/-- An entry not on the line joins the table with room in it; a host's, below 24 of them and with a tag of its own
(R149). -/
theorem Requests.Orderly.append {r r' : Requests} {e : Entry} (h : r.Orderly) (ht : r'.table = r.table ++ [e])
    (hw : r'.waits = r.waits) (hr : r.room = true) (hl : e.state.onLine = false)
    (hg : e.tag.isSome = true ↔ e.origin = .host)
    (hh : e.origin = .host → r.hostCount < Config.hostCap ∧ ∀ d ∈ r.table, d.origin = .host → d.tag ≠ e.tag) :
    r'.Orderly where
  tagged d hd := by
    rw [ht, List.mem_append, List.mem_singleton] at hd
    rcases hd with hd | rfl
    · exact h.tagged d hd
    · exact hg
  hosts := by
    have := h.hosts
    unfold Requests.hostCount at hh this ⊢
    rw [ht, List.filter_append, List.length_append]
    by_cases ho : e.origin = .host
    · have := (hh ho).1
      simp [ho]
      omega
    · simpa [ho] using this
  tags := by
    rw [ht, List.filter_append, List.map_append]
    by_cases ho : e.origin = .host
    · have hd : e.tag ∉ (r.table.filter (·.origin == .host)).map (·.tag) := fun hm => by
        obtain ⟨d, hd, he⟩ := List.mem_map.mp hm
        obtain ⟨hdt, hdo⟩ := List.mem_filter.mp hd
        exact (hh ho).2 d hdt (by simpa using hdo) he
      rw [List.filter_cons_of_pos (by simp [ho]), List.filter_nil, List.map_singleton, ← List.concat_eq_append]
      exact h.tags.concat hd
    · rw [List.filter_cons_of_neg (by simp [ho]), List.filter_nil, List.map_nil, List.append_nil]
      exact h.tags
  lines p := by
    rw [ht, List.filter_append, List.filter_cons_of_neg (by simp [hl]), List.filter_nil, List.append_nil]
    exact h.lines p
  waits w hm := h.waits w (hw ▸ hm)
  fits := by
    rw [ht, List.length_append]
    exact r.room_iff.mp hr

/-- An entry changes in its kind, its attempts or its state, and comes on the line only while its port has none there
(R153). -/
theorem Requests.Orderly.replace {r r' : Requests} {b a : List Entry} {e e' : Entry} (h : r.Orderly)
    (ht : r.table = b ++ e :: a) (ht' : r'.table = b ++ e' :: a) (hw : r'.waits = r.waits)
    (ho : e'.origin = e.origin) (hg : e'.tag = e.tag) (hp : e'.port = e.port)
    (hl : e'.state.onLine = true → e.state.onLine = true ∨ r.busy e.port = false) : r'.Orderly where
  tagged d hd := by
    rw [ht', List.mem_append, List.mem_cons] at hd
    have hof : ∀ x, x ∈ b ∨ x = e ∨ x ∈ a → (x.tag.isSome = true ↔ x.origin = .host) := fun x hx =>
      h.tagged x (by rw [ht, List.mem_append, List.mem_cons]; exact hx)
    rcases hd with hd | rfl | hd
    · exact hof d (.inl hd)
    · rw [hg, ho]
      exact hof e (.inr (.inl rfl))
    · exact hof d (.inr (.inr hd))
  hosts := by
    refine le_of_eq_of_le ?_ h.hosts
    unfold Requests.hostCount
    rw [ht, ht', List.filter_append, List.filter_append, List.filter_cons, List.filter_cons, ho]
    split <;> simp
  tags := by
    have := h.tags
    rw [ht, List.filter_append, List.filter_cons] at this
    rw [ht', List.filter_append, List.filter_cons, ho]
    split <;> simp_all
  lines p := by
    have hlp := h.lines p
    rw [ht, List.filter_append, List.filter_cons, List.length_append] at hlp
    rw [ht', List.filter_append, List.filter_cons, List.length_append, hp]
    by_cases hon : (e.port == p && e'.state.onLine) = true
    · obtain ⟨hport, hline⟩ := Bool.and_eq_true_iff.mp hon
      rw [if_pos hon]
      rcases hl hline with hwas | hfree
      · rw [if_pos (by rw [hport, hwas]; rfl)] at hlp
        exact hlp
      · have hnone : ∀ x ∈ r.table, (x.port == p && x.state.onLine) = false := fun x hx => by
          have := List.any_eq_false.mp hfree x hx
          rw [← eq_of_beq hport]
          simpa using this
        rw [ht] at hnone
        rw [List.filter_eq_nil_iff.mpr fun x hx => by simp [hnone x (by simp [hx])],
          List.filter_eq_nil_iff.mpr fun x hx => by simp [hnone x (by simp [hx])]]
        simp
    · rw [if_neg hon]
      split at hlp
      · exact le_trans (by simp) hlp
      · exact hlp
  waits w hm := h.waits w (hw ▸ hm)
  fits := by
    have := h.fits
    rw [ht] at this
    rw [ht']
    simpa using this

/-- An internal entry is registered. -/
theorem Requests.Orderly.register {r : Requests} (h : r.Orderly) (hr : r.room = true) {o : Origin} (ho : o ≠ .host)
    (p : PortNo) (k : ReqKind) : (r.register o none p k).Orderly :=
  h.append rfl rfl hr rfl (iff_of_false Bool.false_ne_true ho) fun he => absurd he ho

@[simp] theorem modWritten_waits (r : Requests) (p : PortNo) (k : ReqKind) (f : Nat → Nat → Point → Point) :
    (r.modWritten p k f).waits = r.waits := by rw [modWritten_image]

theorem Requests.Orderly.modWritten {r : Requests} (h : r.Orderly) (p : PortNo) (k : ReqKind)
    (f : Nat → Nat → Point → Point) : (r.modWritten p k f).Orderly := h.of_eq (by simp) (by simp)

theorem Requests.Orderly.enter {r : Requests} (h : r.Orderly) (hr : r.room = true) {o : Origin} (ho : o ≠ .host)
    (p : PortNo) (k : ReqKind) : (r.enter o none p k).Orderly := (h.register hr ho p k).modWritten p k _

/-- A job's write is folded into an entry of its own, registered, or deferred (R150). -/
theorem Requests.Orderly.jobWrite {r : Requests} (h : r.Orderly) (open_ : Bool) {o : Origin} (ho : o ≠ .host)
    (p : PortNo) (i : Fin 16) (v : Nat) : (r.jobWrite open_ o p i v).Orderly := by
  unfold Requests.jobWrite
  dsimp only
  split
  · rename_i table ht
    obtain ⟨b, e, a, hb, -, -, ha⟩ := replaceLast_some _ _ _ ht
    exact h.replace (e' := { e with kind := .write [(i.val, v)] }) hb ha rfl rfl rfl rfl .inl
  · split
    · rename_i hc
      obtain ⟨-, hr⟩ := Bool.and_eq_true_iff.mp hc
      exact (h.register hr ho p _).of_eq rfl rfl
    · exact h.of_eq rfl rfl

/-- An internal action or a safe write is registered, waits, or is lost (R150). -/
theorem Requests.Orderly.placeItem {r : Requests} (h : r.Orderly) (m : OutMode) (st : PortState) {w : WaitItem}
    (ho : w.origin ≠ .host) : (r.placeItem m st w).1.Orderly := by
  unfold Requests.placeItem
  split
  · exact h
  · split
    · rename_i hc
      obtain ⟨hr, -⟩ := Bool.and_eq_true_iff.mp hc
      exact h.enter hr ho _ _
    · refine Requests.Orderly.modWritten (r := { r with waits := r.waits ++ [w] }) ?_ _ _ fun _ => Point.deferred
      refine { h with waits := fun x hx => ?_ }
      rcases List.mem_append.mp hx with hx | hx
      · exact h.waits x hx
      · rw [List.mem_singleton.mp hx]
        exact ho

theorem Requests.Orderly.dropWaits {r : Requests} (h : r.Orderly) (q : WaitItem → Bool) : (r.dropWaits q).Orderly :=
  h.sublist (.refl _) List.filter_sublist

theorem Requests.Orderly.withdrawEntry {r : Requests} (h : r.Orderly) (n : Nat) : (r.withdrawEntry n).Orderly :=
  h.sublist List.filter_sublist (.refl _)

/-- The first element that satisfies the test is changed, or none is. -/
theorem replaceFirst_cases {α : Type} (q : α → Bool) (f : α → α) :
    ∀ l : List α, replaceFirst q f l = l ∨
      ∃ b x a, l = b ++ x :: a ∧ q x = true ∧ replaceFirst q f l = b ++ f x :: a
  | [] => .inl rfl
  | x :: xs => by
    unfold replaceFirst
    split
    · rename_i hx
      exact .inr ⟨[], x, xs, rfl, hx, rfl⟩
    · rcases replaceFirst_cases q f xs with h | ⟨b, y, a, hb, hy, hr⟩
      · exact .inl (by rw [h])
      · exact .inr ⟨x :: b, y, a, by rw [hb]; rfl, hy, by rw [hr]; rfl⟩

/-- The element at a place is changed, or there is none. -/
theorem modifyAt_cases {α : Type} (f : α → α) :
    ∀ (n : Nat) (l : List α), modifyAt f n l = l ∨ ∃ b x a, l = b ++ x :: a ∧ modifyAt f n l = b ++ f x :: a
  | 0, [] | _ + 1, [] => .inl rfl
  | 0, x :: xs => .inr ⟨[], x, xs, rfl, rfl⟩
  | n + 1, x :: xs => by
    unfold modifyAt
    rcases modifyAt_cases f n xs with h | ⟨b, y, a, hb, hr⟩
    · exact .inl (by rw [h])
    · exact .inr ⟨x :: b, y, a, by rw [hb]; rfl, by rw [hr]; rfl⟩

/-! ## The Ring Unit (R107, R109) -/

/-- What RecordLaws says of the Ring Unit. -/
structure Ring.Orderly (u : Ring) : Prop extends SegmentLaw u where
  history : u.history.length ≤ Config.historyCap
  segments : u.queue.length ≤ Config.segmentCap

/-- The current record changes otherwise than in its placed list. -/
theorem Ring.Orderly.contribute {u : Ring} (h : u.Orderly) {f : Record → Record} (hf : ∀ r, (f r).placed = r.placed)
    (st : RingState) : ({ u with state := st, current := u.current.map f } : Ring).Orderly := by
  refine { h with apart := fun r hr => ?_ }
  obtain ⟨r', hr', rfl⟩ := Option.map_eq_some_iff.mp hr
  rw [hf]
  exact h.apart r' hr'

theorem length_pushHistory {l : List Record} (h : l.length ≤ Config.historyCap) (r : Record) :
    (pushHistory l r).length ≤ Config.historyCap := by
  unfold pushHistory
  split
  · simpa using ‹_›
  · simp only [Config.historyCap, List.length_append, List.length_drop, List.length_singleton] at h ⊢
    omega

/-- A new current record, with no piece placed, or none. -/
theorem Ring.Orderly.turned {u v : Ring} (h : u.Orderly) (hc : ∀ r, v.current = some r → r.placed = [])
    (hq : v.queue = u.queue) (hh : v.history.length ≤ Config.historyCap) : v.Orderly where
  distinct := hq ▸ h.distinct
  apart r hr piece _ e he := by simp [hc r hr] at he
  history := hh
  segments := hq ▸ h.segments

/-- Pieces leave the queue. -/
theorem Ring.Orderly.sublist {u : Ring} (h : u.Orderly) {q : List Piece} (hq : q.Sublist u.queue) :
    ({ u with queue := q } : Ring).Orderly where
  distinct := h.distinct.sublist (hq.map _)
  apart r hr piece hp := h.apart r hr piece (hq.subset hp)
  history := h.history
  segments := le_trans hq.length_le h.segments

/-! ## The Muck Balance Unit (R55, R57) -/

/-- What RecordLaws says of the Muck Balance Unit. -/
structure Muck.Orderly (k : Muck) : Prop where
  balanced : transitBalanced k
  fits : k.queue.length ≤ Config.transitCap

/-- What is released, and what stays, is what was queued (R60). -/
theorem releaseDue_mass (odo : Nat) : ∀ q : List Parcel, (releaseDue odo q).1 + queuedMass (releaseDue odo q).2 = queuedMass q
  | [] => rfl
  | p :: ps => by
    unfold releaseDue
    split
    · have := releaseDue_mass odo ps
      rw [queuedMass_cons]
      dsimp only
      omega
    · exact Nat.zero_add _

theorem releaseDue_length (odo : Nat) : ∀ q : List Parcel, (releaseDue odo q).2.length ≤ q.length
  | [] => Nat.le_refl _
  | p :: ps => by
    unfold releaseDue
    split
    · exact le_trans (releaseDue_length odo ps) (Nat.le_succ _)
    · exact Nat.le_refl _

/-- A belt sample's release (R58, R60). -/
theorem Muck.Orderly.weigh {k : Muck} (h : k.Orderly) (dcm dkg : Nat) : (k.weigh dcm dkg).Orderly where
  balanced := by
    have hm := releaseDue_mass (sat32 k.odometer dcm) k.queue
    have hb : k.generated = k.released + queuedMass k.queue := h.balanced
    change k.generated = k.released + (releaseDue (sat32 k.odometer dcm) k.queue).1
      + queuedMass (releaseDue (sat32 k.odometer dcm) k.queue).2
    omega
  fits := le_trans (releaseDue_length _ _) h.fits

/-- A mass increment (R56, R57). -/
theorem Muck.Orderly.increment {k : Muck} (h : k.Orderly) (m ring : Nat) :
    ({ k with queue := k.enqueue m ring, generated := k.generated + m } : Muck).Orderly where
  balanced := by
    have hb : k.generated = k.released + queuedMass k.queue := h.balanced
    change k.generated + m = k.released + queuedMass (k.enqueue m ring)
    rw [queuedMass_enqueue]
    omega
  fits := by
    have hf := h.fits
    change (k.enqueue m ring).length ≤ _
    rw [length_enqueue]
    simp only [Config.transitCap] at hf ⊢
    split
    · omega
    · split <;> omega

end Sys2Proof.Machine

/-! SUPPORT. RecordLaws unit by unit, through the shared operations, the placement steps and the grout lines. -/

namespace Sys2Proof.Machine

section
variable {n : Nat} {s : State}

/-! ## Updates of one unit -/

/-- RecordLaws unit by unit, with at most n replies in the Reply List: a command finds room there, and its reply is added
after all it does (R180, R181). -/
structure InOrder (n : Nat) (s : State) : Prop where
  permit : permitDerived s.permit
  replies : s.link.replies.length ≤ n
  reports : s.link.reports.length ≤ Config.reportCap
  req : s.req.Orderly
  muck : s.muck.Orderly
  ring : s.ring.Orderly
  lines : backlogBounded s.lines
  faults : s.out.faults.length ≤ Config.faultCap

theorem recordLaws_iff (s : State) : RecordLaws s ↔ InOrder Config.replyCap s where
  mp h :=
    { permit := h.permit
      replies := h.capacity.replies
      reports := h.capacity.reports
      req := ⟨h.table, h.capacity.table⟩
      muck := ⟨h.transit, h.capacity.transit⟩
      ring := ⟨h.segments, h.capacity.history, h.capacity.segments⟩
      lines := h.backlogs
      faults := h.capacity.faults }
  mpr h :=
    { permit := h.permit
      capacity := ⟨h.replies, h.reports, h.req.fits, h.muck.fits, h.ring.history, h.ring.segments, h.faults⟩
      table := h.req.toTableLaw
      transit := h.muck.balanced
      backlogs := h.lines
      segments := h.ring.toSegmentLaw }

theorem InOrder.setAdv (h : InOrder n s) (v : Advance) : InOrder n (s.setAdv v) := { h with }
theorem InOrder.setPres (h : InOrder n s) (v : Pressure) : InOrder n (s.setPres v) := { h with }
theorem InOrder.setBuild (h : InOrder n s) (v : Build) : InOrder n (s.setBuild v) := { h with }
theorem InOrder.setPorts (h : InOrder n s) (v : Vector Port 16) : InOrder n (s.setPorts v) := { h with }
theorem InOrder.setTick (h : InOrder n s) (v : Nat) : InOrder n (s.setTick v) := { h with }
theorem InOrder.setPending (h : InOrder n s) (v : List Instr) : InOrder n (s.setPending v) := { h with }
theorem InOrder.setHostLine (h : InOrder n s) (v : List (List Byte)) : InOrder n (s.setHostLine v) := { h with }

theorem InOrder.sendField (h : InOrder n s) (p : PortNo) (b : List Byte) : InOrder n (sendField p b s) :=
  { h with }

theorem InOrder.setReq (h : InOrder n s) {v : Requests} (hv : s.req.Orderly → v.Orderly) :
    InOrder n (s.setReq v) := { h with req := hv h.req }

theorem InOrder.setRing (h : InOrder n s) {v : Ring} (hv : s.ring.Orderly → v.Orderly) :
    InOrder n (s.setRing v) := { h with ring := hv h.ring }

theorem InOrder.setMuck (h : InOrder n s) {v : Muck} (hv : s.muck.Orderly → v.Orderly) :
    InOrder n (s.setMuck v) := { h with muck := hv h.muck }

theorem InOrder.setLines (h : InOrder n s) {v : Vector Line 6} (hv : backlogBounded v) : InOrder n (s.setLines v) :=
  { h with lines := hv }

theorem InOrder.setOut (h : InOrder n s) {v : Output} (hv : v.faults.length ≤ s.out.faults.length) :
    InOrder n (s.setOut v) := { h with faults := le_trans hv h.faults }

theorem InOrder.setPermit (h : InOrder n s) {v : Permit} (hv : permitDerived v) : InOrder n (s.setPermit v) :=
  { h with permit := hv }

/-- A change of the Link Unit that leaves its queues, or shortens them. -/
theorem InOrder.setLink (h : InOrder n s) {v : Link} (hv : v.replies.length ≤ s.link.replies.length)
    (hw : v.reports.length ≤ s.link.reports.length) : InOrder n (s.setLink v) :=
  { h with replies := le_trans hv h.replies, reports := le_trans hw h.reports }

/-! ## Folds and tellings -/

theorem InOrder.foldl {α : Type} {f : State → α → State} (hf : ∀ u a, InOrder n u → InOrder n (f u a)) :
    ∀ (l : List α) {u : State}, InOrder n u → InOrder n (l.foldl f u)
  | [], _, h => h
  | a :: l, u, h => foldl hf l (hf u a h)

theorem InOrder.tellAll (h : InOrder n s) {fs : List (State → State)}
    (hf : ∀ f ∈ fs, ∀ u, InOrder n u → InOrder n (f u)) : InOrder n (tellAll fs s) :=
  applyInOrder_keeps (InOrder n) _ _ _ hf _ (h.setTick _)

/-! ## Reports, contributions, requests -/

theorem InOrder.report (h : InOrder n s) (r : Report) : InOrder n (report r s) :=
  { h with
    replies := le_of_eq_of_le (congrArg List.length (grown_report r s).replies) h.replies
    reports := (inner_report r s).reports h.reports }

theorem InOrder.contribute (h : InOrder n s) {f : Record → Record} (hf : ∀ r, (f r).placed = r.placed) :
    InOrder n (contribute f s) := h.setRing fun k => k.contribute hf s.ring.state

theorem InOrder.placeItem (h : InOrder n s) {w : WaitItem} (hw : w.origin ≠ .host) :
    InOrder n (placeItem w s).1 := h.setReq fun k => k.placeItem _ _ hw

theorem InOrder.writeScrew (h : InOrder n s) (force : Bool) : InOrder n (writeScrew force s) := h.setReq fun k => by
  unfold screwRequests
  split
  · exact k.jobWrite (o := .pressure) _ nofun _ _ _
  · exact k

theorem InOrder.setScrew (h : InOrder n s) (v : Nat) : InOrder n (setScrew v s) := (h.setPres _).writeScrew _

theorem InOrder.tellMuckLevel (h : InOrder n s) (l : Level) : InOrder n (tellMuckLevel l s) := by
  unfold Machine.tellMuckLevel
  dsimp only
  split
  · exact (h.setPres _).setScrew _
  · exact h.setPres _

/-! ## The Advance Unit and the Restriction Table -/

theorem orderly_foldl_writeTarget (s : State) :
    ∀ (l : List Target) (acc : Requests × Vector GroupState 16), acc.1.Orderly → (l.foldl (writeTarget s) acc).1.Orderly
  | [], _, h => h
  | t :: l, acc, h => orderly_foldl_writeTarget s l _ (by
      rw [writeTarget_fst]
      split
      · exact h
      · exact h.jobWrite (o := .advance) _ nofun _ _ _)

theorem InOrder.refresh (h : InOrder n s) : InOrder n (refresh s) :=
  (h.setReq fun k => by
    unfold setpoints
    split
    · exact orderly_foldl_writeTarget s _ _ k
    · exact k).setBuild _

theorem InOrder.moveAdvance (h : InOrder n s) (new : AdvState) : InOrder n (moveAdvance new s) := by
  have hcount : ∀ {u}, InOrder n u → InOrder n (countHold u) := fun k => k.contribute fun _ => rfl
  unfold Machine.moveAdvance
  dsimp only
  refine InOrder.refresh ?_
  split <;> split
  · exact (hcount (h.setAdv _)).setScrew 0
  · exact (h.setAdv _).setScrew 0
  · exact hcount (h.setAdv _)
  · exact h.setAdv _

theorem InOrder.stopAdvance (h : InOrder n s) : InOrder n (stopAdvance s) := by
  unfold Machine.stopAdvance
  split
  · exact h.moveAdvance _
  · exact h.moveAdvance _
  · exact h
  · exact h

theorem InOrder.stopCutter (h : InOrder n s) : InOrder n (stopCutter s) := by
  unfold Machine.stopCutter
  split
  · exact h
  · exact (h.setAdv _).stopAdvance.refresh

theorem InOrder.tellPermit (h : InOrder n s) (l : Level) : InOrder n (tellPermit l s) := by
  have h0 := h.setAdv { s.adv with permitCopy := l }
  unfold Machine.tellPermit
  dsimp only
  split
  case h_4 => exact h0.stopAdvance.stopCutter.refresh
  all_goals
    split
    · exact h0.moveAdvance _
    · exact h0.refresh

theorem InOrder.permitWritten (h : InOrder n s) (src : Source) (l : Level) (c : RCause) :
    InOrder n (permitWritten src l c s) := by
  have hp := h.setPermit (permitDerived_write s.permit src l c s.ring.number s.adv.x)
  unfold Machine.permitWritten
  dsimp only
  split
  · exact (hp.tellPermit _).report _
  · exact hp

theorem InOrder.writeEntry (h : InOrder n s) (src : Source) (l : Level) (c : RCause) :
    InOrder n (writeEntry src l c s) := by
  rw [writeEntry_eq]
  split
  · exact (h.permitWritten _ _ _).tellMuckLevel _
  · exact h.permitWritten _ _ _

theorem InOrder.writeLevel (h : InOrder n s) (src : Source) (lc : Level × RCause) :
    InOrder n (writeLevel src lc s) := h.writeEntry _ _ _

theorem InOrder.handFault (h : InOrder n s) (f : FaultRec) : InOrder n (handFault f s) := by
  unfold Machine.handFault
  split
  · rename_i hroom
    have hf : InOrder n (s.setOut { s.out with faults := s.out.faults ++ [f] }) :=
      { h with faults := by rw [State.setOut_out, List.length_append]; exact hroom }
    exact hf.report _
  · exact h.writeEntry _ _ _

/-! ## The placement step (R118 to R131) -/

theorem InOrder.setStep (h : InOrder n s) (st : Option Step) : InOrder n (setStep st s) := h.setBuild _

theorem InOrder.withdrawStep (h : InOrder n s) (st : Step) : InOrder n (withdrawStep st s) := by
  unfold Machine.withdrawStep
  split
  · exact h.setReq fun k => k.dropWaits _
  · exact h.setReq fun k => k.withdrawEntry _
  all_goals exact h

theorem InOrder.stepFault (h : InOrder n s) (c : StepCause) : InOrder n (stepFault c s) := by
  unfold Machine.stepFault
  split
  · exact h
  · split
    · exact (((h.withdrawStep _).setStep _).handFault _).report _
    · exact h

theorem InOrder.issuePhase (h : InOrder n s) : InOrder n (issuePhase s) := by
  unfold Machine.issuePhase
  split
  · exact h
  · dsimp only
    split
    · exact h.stepFault _
    · rename_i st _ _
      have hp := h.placeItem (w := ⟨.build, phasePort st.state st.sector, .action (phaseAction st)⟩) nofun
      split
      · exact hp.setStep _
      · exact hp.setStep _
      · exact hp.stepFault _

theorem InOrder.enterPhase (h : InOrder n s) (st : Step) (state : StepState) (g : GroupState) :
    InOrder n (enterPhase st state g s) := ((h.setBuild _).setStep _).issuePhase

theorem InOrder.stepRegistered (h : InOrder n s) (m : Nat) : InOrder n (stepRegistered m s) := by
  unfold Machine.stepRegistered
  split
  · exact h
  · split
    · exact h.setStep _
    · exact h

theorem InOrder.stepOutcome (h : InOrder n s) (m : Option Nat) (o : ReqOutcome) : InOrder n (stepOutcome m o s) := by
  unfold Machine.stepOutcome
  split
  · exact h
  · split
    · split
      · exact h.setStep _
      all_goals exact h.stepFault _
    · exact h

theorem InOrder.phaseTimeout (h : InOrder n s) : InOrder n (phaseTimeout s) := by
  unfold Machine.phaseTimeout
  split
  · exact h
  · split
    · exact h.stepFault _
    · exact h

theorem InOrder.setOwner (h : InOrder n s) (sec : Fin 8) (o : SectorOwner) : InOrder n (setOwner sec o s) :=
  (h.setBuild _).refresh

/-- The head piece moves into the ring: its serial leaves the queue as it joins the placed list (R109, R111). -/
theorem InOrder.movePiece (h : InOrder n s) : InOrder n (movePiece s) := by
  unfold Machine.movePiece
  split
  · rename_i r _ e piece rest hr _ hq
    refine h.setRing fun k => ?_
    have hd := k.distinct
    rw [hq, List.map_cons, List.nodup_cons] at hd
    have hf := k.segments
    rw [hq] at hf
    refine ⟨⟨hd.2, fun r' hr' x hx d hdp => ?_⟩, k.history, le_trans (Nat.le_succ _) hf⟩
    cases hr'
    rcases List.mem_append.mp hdp with hdp | hdp
    · exact k.apart r hr x (hq ▸ List.mem_cons_of_mem _ hx) d hdp
    · rw [List.mem_singleton.mp hdp]
      exact fun he : piece.serial = x.serial => hd.1 (by rw [he]; exact List.mem_map_of_mem hx)
  · exact h

theorem InOrder.takeRetracted (h : InOrder n s) (p : PortNo) (sector : Nat) :
    InOrder n (takeRetracted p sector s).1 := by
  unfold Machine.takeRetracted
  split
  · exact h
  · split
    · exact h.enterPhase _ _ _
    · exact h

theorem InOrder.takePlaced (h : InOrder n s) (p : PortNo) (serial : Nat) : InOrder n (takePlaced p serial s).1 := by
  unfold Machine.takePlaced
  split
  · exact h
  · split
    · exact h.movePiece.enterPhase _ _ _
    · exact h

theorem InOrder.takeReturned (h : InOrder n s) (p : PortNo) : InOrder n (takeReturned p s).1 := by
  unfold Machine.takeReturned
  split
  · exact h
  · split
    · exact h.enterPhase _ _ _
    · exact h

theorem InOrder.takeHolding (h : InOrder n s) (p : PortNo) (sector : Nat) : InOrder n (takeHolding p sector s).1 := by
  unfold Machine.takeHolding
  split
  · exact h
  · split
    · exact InOrder.report (((h.setBuild _).setOwner _ _).setStep _) _
    · exact h

theorem InOrder.startStep (h : InOrder n s) (starter : StartedBy) (granted : Bool) :
    InOrder n (startStep starter granted s).1 := by
  unfold Machine.startStep
  split
  · exact h
  · split
    · exact h
    · split
      · exact h
      · exact h
      · split
        · exact h
        · split
          · exact h
          · exact ((h.setStep _).setOwner _ _).enterPhase _ _ _

theorem InOrder.retryStep (h : InOrder n s) (granted : Bool) : InOrder n (retryStep granted s).1 := by
  unfold Machine.retryStep
  split
  · exact h
  · split
    · exact h
    · split
      · exact h
      · split
        · exact h
        · exact h.enterPhase _ _ _

theorem InOrder.backoutStep (h : InOrder n s) (granted : Bool) : InOrder n (backoutStep granted s).1 := by
  unfold Machine.backoutStep
  split
  · exact h
  · split
    · exact h
    · split
      · exact h
      · split
        · exact h
        · split
          · exact h
          · exact h.enterPhase _ _ _

theorem InOrder.endGrant (h : InOrder n s) (c : GrantCause) : InOrder n (endGrant c s) := by
  unfold Machine.endGrant
  split
  · exact h
  · exact (h.setBuild _).report _

theorem InOrder.takeLocalRequest (h : InOrder n s) (p : PortNo) : InOrder n (takeLocalRequest p s).1 := by
  unfold Machine.takeLocalRequest
  split
  · exact h
  · split
    · exact h
    · split
      · exact h
      · split
        · exact h
        · exact (h.setBuild _).report _

theorem InOrder.takeLocalRelease (h : InOrder n s) (p : PortNo) : InOrder n (takeLocalRelease p s).1 := by
  unfold Machine.takeLocalRelease
  split
  · exact h.endGrant _
  · exact h

theorem InOrder.pendantStep (h : InOrder n s) (p : PortNo) {perform : State → Taken}
    (hf : InOrder n (perform s).1) : InOrder n (pendantStep p perform s).1 := by
  unfold Machine.pendantStep
  split
  · exact hf
  · exact h

theorem InOrder.clampBuild (h : InOrder n s) (c : StepCause) : InOrder n (clampBuild c s) :=
  (h.stepFault c).setBuild _

theorem InOrder.withdrawAny (h : InOrder n s) : InOrder n (withdrawAny s) := by
  unfold Machine.withdrawAny
  split
  · exact h
  · exact h.withdrawStep _

theorem InOrder.restBuild (h : InOrder n s) : InOrder n (restBuild s) := by
  rw [restBuild_eq]
  exact ((h.endGrant _).withdrawAny.setBuild _).refresh

theorem InOrder.loseStepPort (h : InOrder n s) (p : PortNo) : InOrder n (loseStepPort p s) := by
  unfold Machine.loseStepPort
  split
  · exact h
  · split
    · exact h.stepFault _
    · exact h

theorem InOrder.loseGrantPort (h : InOrder n s) (p : PortNo) : InOrder n (loseGrantPort p s) := by
  unfold Machine.loseGrantPort
  split
  · exact h.endGrant _
  · exact h

/-! ## The grout lines (R73 to R95) -/

/-- A line's record changes, with its backlog within the limit (R76). -/
theorem InOrder.setLine (h : InOrder n s) {i : LineNo} {l : Line} (hl : l.backlog ≤ 16 * l.vs) :
    InOrder n (setLine i l s) := h.setLines fun j => by
  rw [get_put]
  split
  · exact hl
  · exact h.lines j

theorem InOrder.writeGrout (h : InOrder n s) : InOrder n (writeGrout s) := h.writeLevel _ _

theorem InOrder.moveLine (h : InOrder n s) (i : LineNo) (st : LineState) (m : LineMode) (c : LineCause) :
    InOrder n (moveLine i st m c s) := by
  have hs := h.setLine (i := i) (l := { s.line i with state := st, mode := m }) (h.lines i)
  unfold Machine.moveLine
  dsimp only
  split
  · exact hs
  · exact hs.report _

theorem InOrder.startTimer (h : InOrder n s) (i : LineNo) (k : LineTimerKind) (m : Nat) :
    InOrder n (startTimer i k m s) := h.setLine (h.lines i)

/-- A line leaves its timed state (R84). -/
theorem InOrder.restLine (h : InOrder n s) (i : LineNo) : InOrder n (Machine.setLine i (s.line i).rest s) :=
  h.setLine (h.lines i)

/-- A line's stroke phase changes (R74). -/
theorem InOrder.setPhase (h : InOrder n s) (i : LineNo) (ph : StrokePhase) :
    InOrder n (Machine.setLine i { s.line i with phase := ph } s) := h.setLine (h.lines i)

theorem InOrder.clearRemainders (h : InOrder n s) : InOrder n (clearRemainders s) :=
  (h.setLines fun i => by rw [get_map]; exact h.lines i).contribute fun _ => rfl

theorem InOrder.faultLine (h : InOrder n s) (i : LineNo) (f : FaultFormat) (c : FaultCause) (k : LineCause) :
    InOrder n (faultLine i f c k s) := ((h.handFault _).restLine i).moveLine _ _ _ _

theorem InOrder.loseLine (h : InOrder n s) (i : LineNo) : InOrder n (loseLine i s) := by
  have hp := h.setPhase i .none
  unfold Machine.loseLine
  dsimp only
  split
  · exact hp
  · exact hp.restLine i
  all_goals exact hp.faultLine _ _ _ _

theorem InOrder.losePump (h : InOrder n s) (p : PortNo) : InOrder n (losePump p s) :=
  (InOrder.foldl (fun _ i k => k.loseLine i) _ h).writeGrout

theorem InOrder.issueStroke (h : InOrder n s) (i : LineNo) : InOrder n (issueStroke i s) := by
  have hp := h.placeItem (w := ⟨.grout, pumpPort i, .action (.stroke i (s.line i).vs)⟩) nofun
  unfold Machine.issueStroke
  dsimp only
  split
  · exact hp.setPhase i _
  · exact hp.setPhase i _
  · exact hp.losePump _

theorem InOrder.checkStroke (h : InOrder n s) (i : LineNo) : InOrder n (checkStroke i s) := by
  unfold Machine.checkStroke
  split
  · exact h.issueStroke i
  · exact h

theorem InOrder.strokeOutcome (h : InOrder n s) (i : LineNo) (m : Option Nat) (o : ReqOutcome) :
    InOrder n (strokeOutcome i m o s) := by
  unfold Machine.strokeOutcome
  dsimp only
  split
  · exact h
  · split
    · exact h.setPhase i _
    · exact h.losePump _
    · exact (h.setPhase i _).checkStroke i
    all_goals
      split
      · split
        · exact ((h.setPhase i _).faultLine _ _ _ _).writeGrout
        · exact h.setPhase i _
      · exact h.setPhase i _

theorem InOrder.strokeRegistered (h : InOrder n s) (i : LineNo) (m : Nat) : InOrder n (strokeRegistered i m s) := by
  unfold Machine.strokeRegistered
  split
  · exact h.setPhase i _
  · exact h

theorem InOrder.settleLine (h : InOrder n s) (i : LineNo) (peak : Nat) : InOrder n (settleLine i peak s) := by
  unfold Machine.settleLine
  dsimp only
  split
  · have hf := h.handFault (lineRecord .lineFault i (.overpressure peak) s)
    split
    · exact hf
    · exact hf
    all_goals exact (hf.restLine i).moveLine _ _ _ _
  · split
    · exact (h.restLine i).moveLine _ _ _ _
    all_goals exact h

theorem InOrder.accountStroke (h : InOrder n s) (i : LineNo) (volume peak : Nat) :
    InOrder n (accountStroke i volume peak s) := by
  have hl : InOrder n (Machine.setLine i ((s.line i).delivered volume (s.ring.state != .none)) s) :=
    h.setLine (le_trans (Nat.sub_le _ _) (h.lines i))
  unfold Machine.accountStroke
  dsimp only
  refine InOrder.writeGrout (InOrder.checkStroke (InOrder.settleLine ?_ _ _) _)
  split
  · exact hl.contribute fun _ => rfl
  · exact hl

theorem InOrder.takeStrokeDone (h : InOrder n s) (p : PortNo) (line volume peak : Nat) :
    InOrder n (takeStrokeDone p line volume peak s).1 := by
  unfold Machine.takeStrokeDone
  split
  · split
    · exact h.accountStroke _ _ _
    · exact h
  · exact h

theorem InOrder.strokeTimeout (h : InOrder n s) (i : LineNo) : InOrder n (strokeTimeout i s) := by
  unfold Machine.strokeTimeout
  split
  · exact ((h.setPhase i _).faultLine _ _ _ _).writeGrout
  all_goals exact h

/-- A line's share of a demand, held at the line's limit (R76). -/
theorem InOrder.shareLine (h : InOrder n s) (q w : Nat) (i : LineNo) : InOrder n (shareLine q w i s) := by
  unfold Machine.shareLine
  dsimp only
  split
  · exact InOrder.contribute (h.setLine (Nat.min_le_right _ _)) fun _ => rfl
  · exact h

theorem InOrder.checkTracking (h : InOrder n s) : InOrder n (checkTracking s) :=
  InOrder.foldl (fun _ i k => by
    split
    · exact k.checkStroke i
    · exact k) _ h

theorem InOrder.takeDemand (h : InOrder n s) (q : Nat) : InOrder n (takeDemand q s) := by
  rw [takeDemand_eq]
  refine InOrder.writeGrout (InOrder.checkTracking ?_)
  split
  · exact h.contribute fun _ => rfl
  · exact InOrder.foldl (fun _ i k => k.shareLine _ _ i) _ h

theorem InOrder.dropStroke (h : InOrder n s) (i : LineNo) : InOrder n (dropStroke i s) := by
  unfold Machine.dropStroke
  split
  · exact (h.setReq fun k => k.dropWaits _).setPhase i .none
  · split
    · exact h
    · exact (h.setReq fun k => k.withdrawEntry _).setPhase i .none
  all_goals exact h

theorem InOrder.leaveTrack (h : InOrder n s) (i : LineNo) : InOrder n (leaveTrack i s) := by
  unfold Machine.leaveTrack
  split
  · exact h.clearRemainders
  · exact h

theorem InOrder.stopLine (h : InOrder n s) (i : LineNo) : InOrder n (stopLine i s) :=
  (((h.restLine i).dropStroke i).leaveTrack i).moveLine _ _ _ _

theorem InOrder.runLine (h : InOrder n s) (i : LineNo) (mode : LineMode) : InOrder n (runLine i mode s).1 := by
  unfold Machine.runLine
  dsimp only
  split
  · exact h
  · split
    · exact h
    · split
      · exact h
      · split
        · exact h
        · split
          · exact h
          · refine InOrder.writeGrout (InOrder.checkStroke ?_ i)
            split
            · exact h.clearRemainders.moveLine _ _ _ _
            · exact (h.moveLine _ _ _ _).startTimer _ _ _

theorem InOrder.takeLineRun (h : InOrder n s) (line mode : Nat) : InOrder n (takeLineRun line mode s).1 := by
  unfold Machine.takeLineRun
  split
  · split
    · exact h.runLine _ _
    · split
      · exact h.runLine _ _
      · exact h
  · exact h

theorem InOrder.primeStroke (h : InOrder n s) (i : LineNo) : InOrder n (primeStroke i s) := by
  have hm := (h.restLine i).moveLine i .primeStroke (s.line i).mode .none
  unfold Machine.primeStroke
  dsimp only
  split
  · exact hm.issueStroke i
  · exact hm

theorem InOrder.primeLine (h : InOrder n s) (i : LineNo) : InOrder n (primeLine i s).1 := by
  unfold Machine.primeLine
  dsimp only
  split
  · exact h
  · split
    · exact h
    · split
      · exact h
      · split
        · exact h
        · split
          · exact h
          · refine InOrder.writeGrout ?_
            split
            · exact ((h.moveLine _ _ _ _).startTimer _ _ _).primeStroke _
            · exact (h.moveLine _ _ _ _).startTimer _ _ _

theorem InOrder.takeLinePrime (h : InOrder n s) (line : Nat) : InOrder n (takeLinePrime line s).1 := by
  unfold Machine.takeLinePrime
  split
  · exact h.primeLine _
  · exact h

theorem InOrder.takeLineStop (h : InOrder n s) (line : Nat) : InOrder n (takeLineStop line s).1 := by
  unfold Machine.takeLineStop
  split
  · dsimp only
    split
    · exact h
    · dsimp only
      exact (h.stopLine _).writeGrout
  · exact h

theorem InOrder.takeLineClear (h : InOrder n s) (line : Nat) : InOrder n (takeLineClear line s).1 := by
  unfold Machine.takeLineClear
  split
  · dsimp only
    split
    · exact ((h.leaveTrack _).moveLine _ _ _ _).writeGrout
    · exact h
  · exact h

theorem InOrder.pulsePause (h : InOrder n s) (i : LineNo) : InOrder n (pulsePause i s) := by
  unfold Machine.pulsePause
  dsimp only
  split
  · exact ((h.moveLine _ _ _ _).startTimer _ _ _).writeGrout
  · exact h

theorem InOrder.pulseDeliver (h : InOrder n s) (i : LineNo) : InOrder n (pulseDeliver i s) := by
  unfold Machine.pulseDeliver
  dsimp only
  split
  · exact ((((h.restLine i).moveLine _ _ _ _).startTimer _ _ _).checkStroke i).writeGrout
  · exact h

theorem InOrder.primeExpiry (h : InOrder n s) (i : LineNo) : InOrder n (primeExpiry i s) := by
  unfold Machine.primeExpiry
  split
  · exact (h.primeStroke i).writeGrout
  · exact h

/-- SET_LINE trims the backlog to the new limit (R76, R88). -/
theorem InOrder.takeSetLine (h : InOrder n s) (line weight vs pLimit lag tP tS tW : Nat) :
    InOrder n (takeSetLine line weight vs pLimit lag tP tS tW s).1 := by
  unfold Machine.takeSetLine
  split
  · dsimp only
    split
    · exact h
    · split
      · exact h
      · have hl : ∀ l : Line, (l.set weight vs pLimit lag ⟨tP, tS, tW⟩).backlog ≤ 16 * vs := fun l => Nat.min_le_right _ _
        exact InOrder.writeGrout (InOrder.contribute (h.clearRemainders.setLine (hl _)) fun _ => rfl)
  · exact h

theorem InOrder.clampGrout (h : InOrder n s) : InOrder n (clampGrout s) :=
  (InOrder.foldl (fun _ i k => by
    split
    · exact k.stopLine i
    · exact k) _ h).writeGrout

theorem InOrder.openGrout (h : InOrder n s) : InOrder n (openGrout s) :=
  (h.setLines fun i => by rw [get_map]; exact h.lines i).writeGrout

theorem InOrder.resetGrout (h : InOrder n s) : InOrder n (resetGrout s) :=
  (InOrder.foldl (fun _ i k => (k.setLine (Nat.zero_le _)).moveLine i _ _ _) _ h).writeGrout

end

end Sys2Proof.Machine

/-! SUPPORT. RecordLaws unit by unit, through the Request Unit, the Muck Balance Unit, the Advance Unit, the Ring Unit, the
Output Unit, the Pressure Unit and the Port Manager. -/

namespace Sys2Proof.Machine

section
variable {n : Nat} {s : State}

/-! ## The output mode and the safe writes (R34, R168 to R172) -/

theorem InOrder.tellOutput (h : InOrder n s) : InOrder n (tellOutput s) := h.writeLevel _ _

theorem InOrder.reportMode (h : InOrder n s) (old : OutMode) : InOrder n (reportMode old s) := h.report _

theorem InOrder.setMode (h : InOrder n s) (m : OutMode) (c : OutCause) : InOrder n (setMode m c s) := h.setOut (le_refl _)

theorem InOrder.enterClamped (h : InOrder n s) : InOrder n (enterClamped s) :=
  (h.setMode .clamped s.out.cause).tellOutput.reportMode _

theorem InOrder.leaveOutstanding (h : InOrder n s) (p : PortNo) : InOrder n (leaveOutstanding p s) := by
  unfold Machine.leaveOutstanding
  split
  · have ho := h.setOut (v := { s.out with outstanding := put s.out.outstanding p false }) (le_refl _)
    dsimp only
    split
    · exact ho.enterClamped
    · exact ho
  · exact h

theorem InOrder.safeOutcome (h : InOrder n s) (p : PortNo) (k : ReqKind) (o : ReqOutcome) :
    InOrder n (safeOutcome p k o s) := by
  unfold Machine.safeOutcome
  refine InOrder.leaveOutstanding ?_ p
  split
  · exact h
  · exact h.handFault _
  · exact h

/-! ## The outcomes of requests (R155 to R160) -/

theorem InOrder.askIdentify (h : InOrder n s) (p : PortNo) : InOrder n (askIdentify p s) := by
  unfold Machine.askIdentify
  split
  · exact h.placeItem (w := ⟨.port, p, _⟩) nofun
  · exact h

theorem InOrder.recordFailure (h : InOrder n s) (e : Entry) (o : ReqOutcome) : InOrder n (recordFailure e o s) := by
  unfold Machine.recordFailure
  split
  · exact h
  · exact h.handFault _

theorem InOrder.handOutcome (h : InOrder n s) (e : Entry) (o : ReqOutcome) : InOrder n (handOutcome e o s) := by
  unfold Machine.handOutcome
  split
  · exact h.report _
  · exact h
  · exact h
  · split
    · exact h.strokeOutcome _ _ _
    · exact h
  · exact h.stepOutcome _ _
  · split
    · exact h.askIdentify _
    · exact h
  · exact h.safeOutcome _ _ _

theorem InOrder.endWrite (h : InOrder n s) (p : PortNo) (k : ReqKind) (o : ReqOutcome) :
    InOrder n (s.setReq (s.req.endWrite p k o)) := h.setReq fun r => r.modWritten _ _ _

theorem InOrder.endEntry (h : InOrder n s) (e : Entry) (o : ReqOutcome) : InOrder n (endEntry e o s) :=
  ((h.endWrite _ _ _).recordFailure _ _).handOutcome _ _

/-- What is taken from a list leaves a part of it. -/
theorem takeFirst_sublist {α : Type} {q : α → Bool} {l : List α} {x : α} {rest : List α}
    (h : takeFirst q l = some (x, rest)) : rest.Sublist l := by
  obtain ⟨-, b, a, rfl, rfl⟩ := takeFirst_some h
  exact (List.sublist_cons_self x a).append_left b

theorem InOrder.completeFirst (h : InOrder n s) (q : Entry → Bool) (o : ReqOutcome) : InOrder n (completeFirst q o s) := by
  unfold Machine.completeFirst
  split
  · exact h
  · rename_i e rest hf
    exact (h.setReq (v := { s.req with table := rest }) fun r => r.sublist (takeFirst_sublist hf) (.refl _)).endEntry e o

theorem InOrder.completeAll (h : InOrder n s) (q : Entry → Bool) (o : ReqOutcome) : InOrder n (completeAll q o s) :=
  InOrder.foldl (fun _ _ k => k.completeFirst _ _) _ h

theorem InOrder.endItem (h : InOrder n s) (w : WaitItem) (o : ReqOutcome) : InOrder n (endItem w o s) := by
  unfold Machine.endItem
  split
  · split
    · exact h.strokeOutcome _ _ _
    · exact h
  · exact h.stepOutcome _ _
  · exact (h.endWrite _ _ _).safeOutcome _ _ _
  all_goals exact h

theorem InOrder.completeWaits (h : InOrder n s) (q : WaitItem → Bool) (o : ReqOutcome) : InOrder n (completeWaits q o s) :=
  InOrder.foldl (fun _ w k => k.endItem w o) _ (h.setReq fun r => r.dropWaits q)

theorem InOrder.loseRequests (h : InOrder n s) (p : PortNo) : InOrder n (loseRequests p s) :=
  ((h.completeAll _ _).completeWaits _ _).setReq fun r => r.of_eq rfl rfl

theorem InOrder.refreshIdentity (h : InOrder n s) (p : PortNo) : InOrder n (refreshIdentity p s) := by
  have hpoint : ∀ (r : Requests) (i : Fin 16), r.Orderly → (r.refreshPoint (s.out.mode = .normal) p i).Orderly :=
    fun r i hr => by
      unfold Requests.refreshPoint
      split
      · exact hr
      · split <;> exact hr.of_eq rfl rfl
  have hfold : ∀ (l : List (Fin 16)) (r : Requests), r.Orderly →
      (l.foldl (fun r i => r.refreshPoint (s.out.mode = .normal) p i) r).Orderly := fun l => by
    induction l with
    | nil => exact fun _ hr => hr
    | cons i l ih => exact fun r hr => ih _ (hpoint r i hr)
  exact h.setReq (hfold _ _)

theorem InOrder.clampRequests (h : InOrder n s) : InOrder n (clampRequests s) :=
  ((h.completeAll _ _).completeWaits _ _).setReq fun r => r.of_eq rfl rfl

theorem InOrder.resetRequests (h : InOrder n s) : InOrder n (resetRequests s) :=
  (h.setReq (v := (s.req.dropWaits fun w => w.origin == .safe).cleanPoints) fun r =>
    (r.dropWaits _).of_eq rfl rfl).completeAll _ _

/-! ## Dispatch, retries and the table fill (R151, R153, R154) -/

/-- The entry sent comes on the line of a port that has none there (R153). -/
theorem InOrder.dispatch (h : InOrder n s) (p : PortNo) : InOrder n (dispatch p s) := by
  unfold Machine.dispatch
  split
  · exact h
  · rename_i hfree
    split
    · exact h
    · rename_i e he
      refine InOrder.sendField (h.setReq fun r => ?_) _ _
      have hport : e.port = p := by
        have hq : e.queuedOn p = true := by
          unfold Requests.choose at he
          split at he
          · rcases Option.or_eq_some_iff.mp he with he | ⟨-, he⟩
            · have hq := List.find?_some he
              exact (Bool.and_eq_true_iff.mp hq).1
            · have hq := List.find?_some he
              exact hq
          · split at he
            · have hq := List.find?_some he
              exact (Bool.and_eq_true_iff.mp hq).1
            · exact absurd he nofun
        exact eq_of_beq (Bool.and_eq_true_iff.mp hq).1
      rcases replaceFirst_cases (fun d => d == e) (fun d => { d with state := .inFlight (s.req.seqBytes.get p + 1) })
        s.req.table with hn | ⟨b, d, a, hb, hd, hr⟩
      · exact r.of_eq hn rfl
      · cases eq_of_beq hd
        exact r.replace hb hr rfl rfl rfl rfl fun _ => .inr (by rw [hport]; simpa using hfree)

theorem InOrder.retryExpiry (h : InOrder n s) (place : Nat) : InOrder n (retryExpiry place s) := h.setReq fun r => by
  rcases modifyAt_cases (fun e : Entry => if e.state = .retryWait then { e with state := .queued } else e) place
    s.req.table with hn | ⟨b, e, a, hb, hr⟩
  · exact r.of_eq hn rfl
  · by_cases he : e.state = .retryWait
    · rw [if_pos he] at hr
      exact r.replace hb hr rfl rfl rfl rfl fun hl => absurd hl nofun
    · rw [if_neg he] at hr
      exact r.of_eq (hr.trans hb.symm) rfl

theorem strokeRegistered_req (i : LineNo) (m : Nat) (s : State) : (strokeRegistered i m s).req = s.req := by
  unfold strokeRegistered
  split <;> rfl

theorem stepRegistered_req (m : Nat) (s : State) : (stepRegistered m s).req = s.req := by
  unfold stepRegistered
  split
  · rfl
  · split <;> rfl

theorem registerItem_req (w : WaitItem) (s : State) : (registerItem w s).req = s.req.enter w.origin none w.port w.kind := by
  unfold registerItem
  dsimp only
  split
  · exact strokeRegistered_req _ _ _
  · exact stepRegistered_req _ _
  · rfl

theorem InOrder.registerItem (h : InOrder n s) {w : WaitItem} (hr : s.req.room = true) (hw : w.origin ≠ .host) :
    InOrder n (registerItem w s) := by
  have he := h.setReq fun r => r.enter hr hw w.port w.kind
  unfold Machine.registerItem
  dsimp only
  split
  · exact he.strokeRegistered _ _
  · exact he.stepRegistered _
  · exact he

/-- One waiting request registers: one entry joins the table (R151). -/
theorem InOrder.fillOne (h : InOrder n s) (hr : s.req.room = true) {t : State} (ht : fillOne s = some t) :
    InOrder n t ∧ t.req.table.length = s.req.table.length + 1 := by
  have hitem : ∀ {q : WaitItem → Bool} {w : WaitItem} {rest : List WaitItem}, takeFirst q s.req.waits = some (w, rest) →
      InOrder n (Machine.registerItem w (s.setReq { s.req with waits := rest }))
        ∧ (Machine.registerItem w (s.setReq { s.req with waits := rest })).req.table.length = s.req.table.length + 1 :=
    fun {q w rest} hf => by
      have hw : w.origin ≠ .host := by
        obtain ⟨-, b, a, hb, -⟩ := takeFirst_some hf
        exact h.req.waits w (by rw [hb]; simp)
      refine ⟨(h.setReq (v := { s.req with waits := rest }) fun r => r.sublist (.refl _) (takeFirst_sublist hf)).registerItem
        hr hw, ?_⟩
      rw [registerItem_req, enter_table]
      exact List.length_append
  unfold Machine.fillOne at ht
  split at ht
  · rename_i w rest hf
    cases ht
    exact hitem hf
  · split at ht
    · rename_i w rest hf
      cases ht
      exact hitem hf
    · split at ht
      · rename_i p i o v hp
        cases ht
        have ho : o ≠ .host := by
          unfold firstPoint at hp
          obtain ⟨p', -, hp⟩ := List.exists_of_findSome?_eq_some hp
          obtain ⟨i', -, hp⟩ := List.exists_of_findSome?_eq_some hp
          obtain ⟨⟨o', v'⟩, ha, hp⟩ := Option.map_eq_some_iff.mp hp
          cases hp
          unfold ablePoint at ha
          dsimp only at ha
          split at ha
          · split at ha
            · rename_i hown _
              cases ha
              revert hown
              unfold PointOwner.origin
              split <;> intro hown <;> cases hown <;> exact nofun
            · exact absurd ha nofun
          · exact absurd ha nofun
        exact ⟨h.setReq fun r => (r.register hr ho p _).of_eq rfl rfl, List.length_append⟩
      · exact absurd ht nofun

theorem InOrder.fillTable : ∀ (fuel : Nat) {s : State}, InOrder n s → s.req.table.length + fuel ≤ Config.tableCap →
    InOrder n (fillTable fuel s)
  | 0, _, h, _ => h
  | fuel + 1, s, h, hf => by
    unfold Machine.fillTable
    split
    · rename_i t ht
      obtain ⟨hk, hl⟩ := h.fillOne (s.req.room_iff.mpr (by omega)) ht
      exact InOrder.fillTable fuel hk (by omega)
    · exact h

theorem InOrder.tableFill (h : InOrder n s) : InOrder n (tableFill s) :=
  InOrder.fillTable _ h (by have := h.req.fits; omega)

/-! ## The Muck Balance Unit (R56 to R72) -/

/-- A new void allowance is stored, and reaches the record (R64). -/
theorem InOrder.setVoid (h : InOrder n s) (v : Nat) : InOrder n (s.setMuck { s.muck with vApplied := v }) :=
  h.setMuck fun k => ⟨k.balanced, k.fits⟩

theorem InOrder.recordVoid (h : InOrder n s) (v : Nat) :
    InOrder n (Machine.contribute (fun r => { r with vApplied := min v Config.max32 }) s) := h.contribute fun _ => rfl

theorem InOrder.updateVoid (h : InOrder n s) : InOrder n (updateVoid s) := by
  unfold Machine.updateVoid
  split
  · dsimp only
    generalize voidAllowance s.adv.geometry s.adv.ground s.muck.e.toNat = allowance
    split
    · have hd := h.takeDemand (allowance - s.muck.vApplied)
      generalize Machine.takeDemand (allowance - s.muck.vApplied) s = u at hd ⊢
      exact (hd.setVoid _).recordVoid _
    · exact h
  · exact h

theorem InOrder.beltSample (h : InOrder n s) (dcm dkg : Nat) : InOrder n (beltSample dcm dkg s) := by
  have hw := h.setMuck (v := s.muck.weigh dcm dkg) fun k => k.weigh dcm dkg
  unfold Machine.beltSample handWindow
  refine InOrder.contribute (InOrder.updateVoid ?_) fun _ => rfl
  exact hw.writeLevel _ _

theorem InOrder.loseScale (h : InOrder n s) : InOrder n (loseScale s) :=
  (h.setMuck (v := { s.muck with blind := true }) fun k => ⟨k.balanced, k.fits⟩).writeEntry _ _ _

theorem InOrder.markLate (h : InOrder n s) (old new : PortState) : InOrder n (markLate old new s) :=
  h.setMuck fun k => ⟨k.balanced, k.fits⟩

theorem InOrder.openMuck (h : InOrder n s) : InOrder n (openMuck s) := by
  have hw := h.setMuck (v := s.muck.clearWindow) fun k => ⟨k.balanced, k.fits⟩
  unfold Machine.openMuck
  dsimp only
  split <;> exact hw.writeEntry _ _ _

theorem InOrder.resetMuck (h : InOrder n s) : InOrder n (resetMuck s) := by
  have hw := (h.setMuck (v := { s.muck.clearWindow with queue := [], generated := 0, released := 0 }) fun _ =>
    ⟨rfl, Nat.zero_le _⟩).writeEntry .muck .clear .none
  unfold Machine.resetMuck
  dsimp only
  split
  · exact hw.writeEntry _ _ _
  · exact hw

theorem InOrder.massIncrement (h : InOrder n s) (m : Nat) : InOrder n (massIncrement m s) :=
  h.setMuck fun k => k.increment m _

/-! ## The Advance Unit (R1 to R25) -/

theorem InOrder.compareStroke (h : InOrder n s) : InOrder n (compareStroke s) := by
  unfold Machine.compareStroke
  split
  · dsimp only
    split
    · exact h.moveAdvance _
    · exact (h.moveAdvance _).report _
  · exact h

theorem InOrder.creditStroke (h : InOrder n s) (d : Nat) : InOrder n (creditStroke d s) := by
  have hc : InOrder n (credited d s) := (h.setAdv _).contribute fun _ => rfl
  rw [creditStroke_eq]
  dsimp only
  generalize credited d s = u at hc ⊢
  have hm : InOrder n (if (s.adv.increment d).mass = 0 then u else Machine.massIncrement (s.adv.increment d).mass u) := by
    split
    · exact hc
    · exact hc.massIncrement _
  refine InOrder.compareStroke ?_
  split
  · exact hm
  · exact hm.takeDemand _

theorem InOrder.strokeSample (h : InOrder n s) (rs : List Reading) : InOrder n (strokeSample rs s) := by
  have hw := (h.setAdv (s.adv.sense rs)).writeLevel .strokeRef (strokeRefLevel (s.adv.sense rs).validCount)
  unfold Machine.strokeSample accountSample
  dsimp only
  split
  · split
    · exact hw
    · split
      · exact hw.creditStroke _
      · exact (hw.setAdv _).report _
  · exact hw

theorem InOrder.cutterSample (h : InOrder n s) (torque : Nat) : InOrder n (cutterSample torque s) := by
  have hw := (h.setAdv { s.adv with torque := min torque 2000 }).writeLevel .torque
    (torqueLevel s.adv.tWarn (min torque 2000))
  unfold Machine.cutterSample
  dsimp only
  split
  · exact hw.contribute fun _ => rfl
  · exact hw

theorem InOrder.loseStroke (h : InOrder n s) : InOrder n (loseStroke s) := (h.setAdv _).writeEntry _ _ _

theorem InOrder.loseCutter (h : InOrder n s) : InOrder n (loseCutter s) := by
  have hc := h.stopCutter
  unfold Machine.loseCutter
  generalize Machine.stopCutter s = u at hc ⊢
  exact (hc.setAdv _).writeEntry _ _ _

theorem InOrder.openAdvance (h : InOrder n s) : InOrder n (openAdvance s) := (h.setAdv _).contribute fun _ => rfl

/-- The advance is brought to IDLE, if it is not (R12, R13). -/
theorem InOrder.idleAdvance (h : InOrder n s) :
    InOrder n (if s.adv.state = .idle then s else Machine.moveAdvance .idle s) := by
  split
  · exact h
  · exact h.moveAdvance _

theorem InOrder.buildAdvance (h : InOrder n s) : InOrder n (buildAdvance s) :=
  h.idleAdvance.stopCutter.contribute fun _ => rfl

theorem InOrder.restAdvance (h : InOrder n s) : InOrder n (restAdvance s) := h.idleAdvance.setAdv _

theorem InOrder.takeAdvanceStart (h : InOrder n s) (rate : Nat) : InOrder n (takeAdvanceStart rate s).1 := by
  unfold Machine.takeAdvanceStart
  split
  · exact h
  · exact (h.setAdv _).moveAdvance _

theorem InOrder.takeAdvanceStop (h : InOrder n s) : InOrder n (takeAdvanceStop s).1 := by
  unfold Machine.takeAdvanceStop
  split
  · exact h
  all_goals exact h.stopAdvance

theorem InOrder.takeCutterSet (h : InOrder n s) (speed : Nat) : InOrder n (takeCutterSet speed s).1 := by
  unfold Machine.takeCutterSet
  split
  · exact h
  · split
    · exact h
    · dsimp only
      split
      · exact h.stopCutter
      · exact (h.setAdv _).refresh

theorem InOrder.takeSetGeometry (h : InOrder n s) (g : Geometry) : InOrder n (takeSetGeometry g s).1 := by
  unfold Machine.takeSetGeometry
  split
  · exact h
  · split
    · exact h.setAdv _
    · exact h

theorem InOrder.takeSetGround (h : InOrder n s) (g : Ground) : InOrder n (takeSetGround g s).1 := by
  unfold Machine.takeSetGround
  split
  · exact h
  · split
    · exact h.setAdv _
    · exact h

theorem InOrder.takeSetLimits (h : InOrder n s) (fRed tWarn : Nat) : InOrder n (takeSetLimits fRed tWarn s).1 := by
  unfold Machine.takeSetLimits
  split
  · exact (h.setAdv _).refresh
  · exact h

theorem InOrder.takeSetBalance (h : InOrder n s) (b : Balance) : InOrder n (takeSetBalance b s).1 := by
  unfold Machine.takeSetBalance
  split
  · exact h.setMuck fun k => ⟨k.balanced, k.fits⟩
  · exact h

/-! ## The Pressure Unit (R41 to R51) -/

theorem InOrder.chamberSample (h : InOrder n s) (rs : List Reading) : InOrder n (chamberSample rs s) := by
  have hw := (h.setPres (s.pres.sense rs)).writeLevel .chamber
    (chamberLevel (s.pres.sense rs).active (s.pres.sense rs).p (s.pres.sense rs).held)
  have hoffer : ∀ {u}, InOrder n u → InOrder n (offerPressure u) := fun {u} hu => by
    unfold offerPressure
    split
    · exact hu.contribute fun _ => rfl
    · exact hu
  unfold Machine.chamberSample runScrewLaw
  dsimp only
  split
  · exact (hoffer hw).setScrew _
  · exact hoffer hw

theorem InOrder.loseChamber (h : InOrder n s) : InOrder n (loseChamber s) := (h.setPres _).writeEntry _ _ _

theorem InOrder.takeSetPressure (h : InOrder n s) (p : PSettings) : InOrder n (takeSetPressure p s).1 := by
  unfold Machine.takeSetPressure
  split
  · exact h.setPres _
  · exact h

/-! ## The Ring Unit (R96 to R115) -/

theorem InOrder.finishRing (h : InOrder n s) (st : RecordState) : InOrder n (finishRing st s) := by
  unfold Machine.finishRing
  split
  · exact h
  · refine InOrder.report (InOrder.tellAll (InOrder.setRing h fun u => ?_) ?_) _
    · exact u.turned (fun _ hr => absurd hr (Option.some_ne_none _).symm) rfl (length_pushHistory u.history _)
    simp only [List.mem_cons, List.not_mem_nil, or_false, forall_eq_or_imp, forall_eq]
    exact ⟨fun _ k => k.restAdvance, fun _ k => k.writeGrout, fun _ k => k.restBuild⟩

theorem InOrder.clearRaises (h : InOrder n s) : InOrder n (clearRaises s) :=
  h.setPermit ((steady_clearRaises s).permit h.permit)

theorem InOrder.takeRingOpen (h : InOrder n s) (number key : Nat) : InOrder n (takeRingOpen number key s).1 := by
  have hopen : ∀ k, InOrder n (openRing number k s) := fun k => by
    unfold openRing
    refine InOrder.tellAll (InOrder.setRing h fun u => ?_) ?_
    · exact u.turned (fun r hr => by cases hr; rfl) rfl u.history
    · simp only [List.mem_cons, List.not_mem_nil, or_false, forall_eq_or_imp, forall_eq]
      exact ⟨fun _ k => k.openAdvance, fun _ k => k.openMuck, fun _ k => k.openGrout, fun _ k => k.clearRaises⟩
  unfold Machine.takeRingOpen
  split
  · split
    · exact h
    split
    · exact h
    split
    · exact h
    split
    · exact h
    split
    · exact h
    split
    · exact h
    · exact hopen _
  · exact h

theorem InOrder.takeBuildStart (h : InOrder n s) : InOrder n (takeBuildStart s).1 := by
  unfold Machine.takeBuildStart
  split
  · refine InOrder.tellAll (InOrder.setRing h fun u => ?_) ?_
    · exact u.contribute (f := fun r => { r with state := .building }) (fun _ => rfl) .building
    simp only [List.mem_cons, List.not_mem_nil, or_false, forall_eq_or_imp, forall_eq]
    exact ⟨fun _ k => k.buildAdvance, fun _ k => k.writeGrout⟩
  · exact h

theorem InOrder.takeRingClose (h : InOrder n s) : InOrder n (takeRingClose s).1 := by
  unfold Machine.takeRingClose
  split
  · exact h
  · exact h.finishRing _

theorem InOrder.takeRingAbandon (h : InOrder n s) : InOrder n (takeRingAbandon s).1 := by
  unfold Machine.takeRingAbandon
  split
  · split
    · exact h.finishRing _
    · exact h
  · exact h

theorem InOrder.resetRing (h : InOrder n s) : InOrder n (resetRing s) := by
  unfold Machine.resetRing
  split
  · exact h.restAdvance
  · exact h.finishRing _

theorem InOrder.pieceReport (h : InOrder n s) (ev : PieceEvent) (kind serial : Nat) (r : PieceReason) :
    InOrder n (pieceReport ev kind serial r s) := h.report _

/-- A piece joins the queue with a serial that neither the queue nor the placed list holds (R109, R110). -/
theorem InOrder.takePieceArrived (h : InOrder n s) (kind serial : Nat) : InOrder n (takePieceArrived kind serial s).1 := by
  unfold Machine.takePieceArrived
  split
  · exact h.pieceReport _ _ _ _
  · rename_i named _
    split
    · exact h.pieceReport _ _ _ _
    · split
      · exact h.pieceReport _ _ _ _
      · rename_i hnew
        split
        · exact h.pieceReport _ _ _ _
        · rename_i hroom
          simp only [Ring.holdsSerial, Bool.or_eq_true, not_or, Bool.not_eq_true, List.any_eq_false, beq_iff_eq] at hnew
          obtain ⟨hqueue, hplaced⟩ := hnew
          refine InOrder.pieceReport (InOrder.setRing h fun u => ?_) _ _ _ _
          refine ⟨⟨?_, fun r hr piece hp e he => ?_⟩, u.history, ?_⟩
          · rw [List.map_append, List.map_singleton, ← List.concat_eq_append]
            exact u.distinct.concat fun hm => by
              obtain ⟨x, hx, hs⟩ := List.mem_map.mp hm
              exact hqueue x hx hs
          · rcases List.mem_append.mp hp with hp | hp
            · exact u.apart r hr piece hp e he
            · have hr : s.ring.current = some r := hr
              rw [hr] at hplaced
              rw [List.mem_singleton.mp hp]
              exact List.any_eq_false.mp hplaced e he ∘ beq_iff_eq.mpr
          · rw [List.length_append]
            exact not_le.mp hroom

theorem InOrder.takePieceDiscard (h : InOrder n s) : InOrder n (takePieceDiscard s).1 := by
  unfold Machine.takePieceDiscard
  split
  · exact h
  · rename_i piece rest hq
    split
    · exact h
    · exact (h.setRing fun u => u.sublist (by rw [hq]; exact List.sublist_cons_self _ _)).pieceReport _ _ _ _

/-! ## The output modes and RESET_PART (R167 to R176) -/

theorem InOrder.markOutstanding (h : InOrder n s) (p : PortNo) : InOrder n (markOutstanding p s) := h.setOut (le_refl _)

theorem InOrder.askSafe (h : InOrder n s) (joins : Bool) (p : PortNo) : InOrder n (askSafe joins p s) := by
  unfold Machine.askSafe
  split
  · exact h
  · rename_i pair pairs _
    have hp := h.placeItem (w := ⟨.safe, p, .write (pair :: pairs)⟩) nofun
    dsimp only
    split
    · exact hp.markOutstanding p
    · exact hp

theorem InOrder.registerSafe (h : InOrder n s) (old : OutMode) : InOrder n (registerSafe old s) :=
  InOrder.foldl (fun u p k => by
    unfold clampPort
    split
    · exact k
    · split
      · exact k.markOutstanding p
      · exact k.askSafe true p) _ h

theorem InOrder.clampTellings (h : InOrder n s) (c : StepCause) : InOrder n (Machine.tellAll (clampTellings c) s) := by
  refine h.tellAll ?_
  simp only [Machine.clampTellings, List.mem_cons, List.not_mem_nil, or_false, forall_eq_or_imp, forall_eq]
  exact ⟨fun _ k => k.tellOutput, fun _ k => k.stopAdvance.stopCutter, fun _ k => k.clampGrout, fun _ k => k.clampBuild c,
    fun _ k => k.endGrant _, fun _ k => k.clampRequests⟩

theorem InOrder.enterClamping (h : InOrder n s) (c : OutCause) : InOrder n (enterClamping c s) := by
  have hr := (((h.setMode .clamping c).clampTellings .clamped).registerSafe s.out.mode).reportMode s.out.mode
  unfold Machine.enterClamping finishClamp
  dsimp only
  split
  · exact hr.enterClamped
  · exact hr

theorem InOrder.changeCause (h : InOrder n s) (c : OutCause) : InOrder n (changeCause c s) := by
  unfold Machine.changeCause
  split
  · exact h
  · exact (h.setMode _ _).tellOutput.reportMode _

theorem InOrder.askRelinquish (h : InOrder n s) (p : PortNo) : InOrder n (askRelinquish s p) := by
  unfold Machine.askRelinquish
  split
  · exact h.placeItem (w := ⟨.safe, p, .action .relinquish⟩) nofun
  · exact h

theorem InOrder.enterReleased (h : InOrder n s) : InOrder n (enterReleased s) := by
  have ho : InOrder n ((Machine.setMode .released .release s).setOut
      { (Machine.setMode .released .release s).out with outstanding := Vector.replicate 16 false }) :=
    (h.setMode _ _).setOut (le_refl _)
  have ht := ho.clampTellings .released
  unfold Machine.enterReleased
  exact InOrder.reportMode (InOrder.foldl (fun _ p k => k.askRelinquish p) _ ht) _

theorem InOrder.enterNormal (h : InOrder n s) : InOrder n (enterNormal s) := by
  refine InOrder.reportMode ((h.setMode .normal .none).tellAll ?_) _
  simp only [normalTellings, List.mem_cons, List.not_mem_nil, or_false, forall_eq_or_imp, forall_eq]
  exact ⟨fun _ k => k.tellOutput, fun _ k => k.refresh, fun _ k => k.writeScrew _⟩

theorem InOrder.safeNewPort (h : InOrder n s) (p : PortNo) : InOrder n (safeNewPort p s) := by
  unfold Machine.safeNewPort
  split
  · exact h
  · exact h.askSafe _ _
  · exact h.askSafe _ _
  · exact h.askRelinquish _

theorem InOrder.estopAssert (h : InOrder n s) : InOrder n (estopAssert s) := by
  unfold Machine.estopAssert
  split
  · exact h
  · have ho := h.setOut (v := { s.out with estop := true }) (le_refl _)
    dsimp only
    split
    · exact ho.changeCause _
    all_goals exact ho.enterClamping _

theorem InOrder.tookMode (h : InOrder n s) : InOrder n (tookMode s).1 := h

theorem InOrder.takeClamp (h : InOrder n s) : InOrder n (takeClamp s).1 := by
  unfold Machine.takeClamp
  split
  case h_1 | h_2 => exact (h.enterClamping _).tookMode
  all_goals exact h

theorem InOrder.takeUnclamp (h : InOrder n s) : InOrder n (takeUnclamp s).1 := by
  unfold Machine.takeUnclamp
  split
  case h_4 =>
    split
    · exact h
    · exact h.enterNormal.tookMode
  all_goals exact h

theorem InOrder.takeRelease (h : InOrder n s) : InOrder n (takeRelease s).1 := by
  unfold Machine.takeRelease
  split
  case h_1 | h_2 =>
    split
    · exact h
    · exact h.enterReleased.tookMode
  all_goals exact h

theorem InOrder.takeResume (h : InOrder n s) : InOrder n (takeResume s).1 := by
  unfold Machine.takeResume
  split
  · exact (h.enterClamping _).tookMode
  all_goals exact h

theorem InOrder.takeSetSafe (h : InOrder n s) (port : Nat) (pairs : List (Nat × Nat)) :
    InOrder n (takeSetSafe port pairs s).1 := by
  unfold Machine.takeSetSafe
  split
  · split
    · exact h
    · split
      · exact h
      · split
        · exact h
        · exact h.setOut (le_refl _)
  · exact h

theorem InOrder.takeAckFault (h : InOrder n s) : InOrder n (takeAckFault s).1 := by
  unfold Machine.takeAckFault
  split
  · exact h
  · rename_i f rest hf
    have ho : InOrder n (s.setOut { s.out with faults := rest }) := h.setOut (by rw [hf]; exact Nat.le_succ _)
    exact ho.writeEntry .faultBacklog .clear .none

theorem InOrder.resetPart (h : InOrder n s) : InOrder n (resetPart s) := by
  have henter : InOrder n (resetEnter s) := by
    unfold resetEnter
    split
    · exact h.changeCause _
    all_goals exact ((h.setMode _ _).clampTellings _).reportMode _
  have hcancel : InOrder n (resetCancel (resetEnter s)) :=
    (henter.setOut (v := { (resetEnter s).out with outstanding := Vector.replicate 16 false }) (le_refl _)).resetRequests
  have hqueues : ∀ {u}, InOrder n u → InOrder n (resetQueues u) := fun {u} k =>
    ((k.setRing (v := { u.ring with queue := [] }) fun v => v.sublist (List.nil_sublist _)).setPres _).resetMuck
  have hfaults : ∀ {u}, InOrder n u → InOrder n (resetFaults u) := fun {u} k =>
    (k.setOut (v := { u.out with faults := [] }) (Nat.zero_le _)).writeEntry _ _ _
  have hsafe : ∀ {u}, InOrder n u → InOrder n (resetSafe u) := fun k => by
    unfold resetSafe
    dsimp only
    split
    · exact (k.registerSafe _).enterClamped
    · exact k.registerSafe _
  exact hsafe (hfaults (hqueues hcancel.resetRing).resetGrout)

end

end Sys2Proof.Machine

/-! SUPPORT. RecordLaws through the Port Manager, the stations' requests and the Link Unit, and so through every step. -/

namespace Sys2Proof.Machine

section
variable {n : Nat} {s : State}

/-! ## The Port Manager (R134 to R147) -/

theorem InOrder.modPort (h : InOrder n s) (p : PortNo) (f : Port → Port) : InOrder n (modPort p f s) := h.setPorts _

theorem InOrder.jobLoss (h : InOrder n s) {p : PortNo} {f : State → State} (hf : f ∈ jobLoss p) : InOrder n (f s) := by
  unfold Machine.jobLoss at hf
  split at hf <;> simp only [List.mem_cons, List.not_mem_nil, or_false] at hf <;> subst hf
  · exact h.loseStroke
  · exact h.loseChamber
  · exact h.loseCutter
  · exact h.loseScale
  · exact h.losePump _
  · exact h.loseStepPort _
  · exact h.loseStepPort _

theorem InOrder.portTellings (h : InOrder n s) {p : PortNo} {old new : PortState} {c : Option FaultCause}
    {f : State → State} (hf : f ∈ portTellings p old new c) : InOrder n (f s) := by
  unfold Machine.portTellings recordTelling unitTellings jobTellings at hf
  simp only [List.mem_append, List.mem_ite_nil_right, List.mem_ite_nil_left, List.mem_cons, List.not_mem_nil,
    or_false] at hf
  rcases hf with (⟨-, rfl⟩ | ⟨-, rfl⟩ | ⟨-, rfl | rfl⟩) | ((⟨-, rfl⟩ | ⟨-, hf⟩) | ⟨-, rfl⟩) | ⟨-, rfl⟩
  · unfold recordPort
    split
    · exact h
    · exact h.handFault _
  · exact h.loseRequests _
  · exact h.refreshIdentity _
  · exact h.safeNewPort _
  · exact h.writeLevel _ _
  · exact h.jobLoss hf
  · exact h.writeScrew _
  · exact h.loseGrantPort _

theorem InOrder.changePort (h : InOrder n s) (p : PortNo) (new : PortState) (c : PortCause) (o : Option ReqOutcome) :
    InOrder n (changePort p new c o s) := by
  have hr : InOrder n (portReport p (s.ports.get p).state o (Machine.modPort p (Port.enter new c) s)) :=
    (h.modPort p _).report _
  unfold Machine.changePort
  dsimp only
  split
  · exact (hr.markLate _ _).tellAll fun _ hf _ k => k.portTellings hf
  · exact hr.tellAll fun _ hf _ k => k.portTellings hf

theorem InOrder.movePort (h : InOrder n s) (p : PortNo) (new : PortState) (c : PortCause) :
    InOrder n (movePort p new c s) := h.changePort _ _ _ _

theorem InOrder.detect (h : InOrder n s) (p : PortNo) : InOrder n (detect p s) := by
  unfold Machine.detect
  split
  · exact h.movePort _ _ _
  · exact h

theorem InOrder.detectChange (h : InOrder n s) (p : PortNo) (made : Bool) : InOrder n (detectChange p made s) := by
  unfold Machine.detectChange
  split
  · exact h.detect p
  · unfold bounce
    split
    · exact h.modPort _ _
    · exact h.movePort _ _ _
  case h_9 => exact h
  all_goals
    split
    · exact h
    · exact InOrder.detect ((h.modPort _ _).movePort _ _ _) p

theorem InOrder.strapChange (h : InOrder n s) (p : PortNo) (l : StrapLine) (level : Bool) :
    InOrder n (strapChange p l level s) := by
  unfold Machine.strapChange
  split
  · exact h
  · dsimp only
    split
    · exact (h.modPort _ _).detectChange _ _
    · exact h.modPort _ _

theorem InOrder.debounceExpiry (h : InOrder n s) (p : PortNo) : InOrder n (debounceExpiry p s) := by
  have hm := h.modPort p fun pt => { pt with debounce := none }
  unfold Machine.debounceExpiry
  split
  · dsimp only
    split
    · unfold decodeSense
      dsimp only
      split <;> exact (hm.modPort _ _).movePort _ _ _
    · exact hm
  · exact h

theorem InOrder.partialExpiry (h : InOrder n s) (p : PortNo) : InOrder n (partialExpiry p s) := by
  unfold Machine.partialExpiry
  split
  · exact h.movePort _ _ _
  · exact h

theorem InOrder.settleExpiry (h : InOrder n s) (p : PortNo) : InOrder n (settleExpiry p s) := by
  unfold Machine.settleExpiry
  split
  · exact (h.movePort _ _ _).askIdentify p
  · exact h

theorem InOrder.staleExpiry (h : InOrder n s) (p : PortNo) : InOrder n (staleExpiry p s) := by
  unfold Machine.staleExpiry
  split
  · exact h.movePort _ _ _
  · exact h

/-! ## Samples, events and answers (R139, R140, R154, R155) -/

theorem InOrder.passSample (h : InOrder n s) (p : PortNo) (rs : List Reading) : InOrder n (passSample p rs s) := by
  unfold Machine.passSample
  split
  · exact h.strokeSample _
  · exact h.chamberSample _
  · exact h.beltSample _ _
  · exact h.cutterSample _
  all_goals exact h

theorem InOrder.refreshStale (h : InOrder n s) (p : PortNo) : InOrder n (refreshStale p s) := by
  unfold Machine.refreshStale
  dsimp only
  split
  · exact (h.modPort _ _).movePort _ _ _
  · exact h.modPort _ _

theorem InOrder.takeSample (h : InOrder n s) (p : PortNo) (body : List Byte) : InOrder n (takeSample p body s) := by
  unfold Machine.takeSample
  split
  · unfold takeLateSample
    split
    · split
      · exact h
      · exact (h.setMuck (v := { s.muck with late := false }) fun k => ⟨k.balanced, k.fits⟩).passSample _ _
    · exact h
  · split
    · split
      · exact h
      · exact (h.refreshStale p).passSample _ _
    · exact h

theorem InOrder.passEvent (h : InOrder n s) (p : PortNo) (e : StationEvent) : InOrder n (passEvent p e s).1 := by
  cases e with
  | retracted sector => exact h.takeRetracted _ _
  | holding sector => exact h.takeHolding _ _
  | placed serial => exact h.takePlaced _ _
  | returned => exact h.takeReturned _
  | strokeDone line delivered peak => exact h.takeStrokeDone _ _ _ _
  | pieceArrived kind serial => exact h.takePieceArrived _ _
  | localRequest => exact h.takeLocalRequest _
  | localRelease => exact h.takeLocalRelease _
  | placeRequest => exact h.pendantStep _ (h.startStep _ _)
  | retryRequest => exact h.pendantStep _ (h.retryStep _)
  | backoutRequest => exact h.pendantStep _ (h.backoutStep _)

theorem InOrder.notExpected (h : InOrder n s) (p : PortNo) (seq : Byte) : InOrder n (notExpected p seq s) := by
  unfold Machine.notExpected
  split
  · exact h.sendField _ _
  · exact h

theorem InOrder.takeEvent (h : InOrder n s) (p : PortNo) (seq : Byte) (e : StationEvent) :
    InOrder n (takeEvent p seq e s) := by
  unfold Machine.takeEvent
  split
  · exact (h.passEvent p e).sendField _ _
  · exact h.notExpected _ _

theorem InOrder.takeEventBody (h : InOrder n s) (p : PortNo) (seq : Byte) (body : List Byte) :
    InOrder n (takeEventBody p seq body s) := by
  unfold Machine.takeEventBody
  split
  · exact h.takeEvent _ _ _
  · exact h.notExpected _ _
  · split
    · exact h
    · exact h.notExpected _ _

theorem InOrder.portOutcome (h : InOrder n s) (e : Entry) (o : ReqOutcome) : InOrder n (portOutcome e o s) := by
  unfold Machine.portOutcome
  split
  · unfold identifyOutcome
    split
    · unfold takeIdentity
      split
      · exact (h.modPort _ _).movePort _ _ _
      · exact h.movePort _ _ _
    case h_5 | h_6 => exact h
    all_goals exact h.changePort _ _ _ _
  · split
    · exact h.movePort _ _ _
    · exact h

theorem InOrder.outcomeTellings (h : InOrder n s) {e : Entry} {o : ReqOutcome} {u : State} {f : State → State}
    (hf : f ∈ outcomeTellings e o u) : InOrder n (f s) := by
  unfold Machine.outcomeTellings at hf
  simp only [List.mem_append, List.mem_ite_nil_right, List.mem_cons, List.not_mem_nil, or_false] at hf
  rcases hf with (⟨-, rfl⟩ | hf) | ⟨-, rfl⟩
  · exact h.recordFailure _ _
  · split at hf
    all_goals simp only [List.mem_cons, List.not_mem_nil, or_false] at hf
    all_goals
      subst hf
      exact h.handOutcome _ _
  · exact h.portOutcome _ _

theorem InOrder.finishEntry (h : InOrder n s) (e : Entry) (o : ReqOutcome) : InOrder n (finishEntry e o s) := by
  unfold Machine.finishEntry
  split
  · exact h
  · rename_i d rest hf
    have hr : InOrder n (s.setReq (({ s.req with table := rest } : Requests).endWrite e.port e.kind o)) :=
      h.setReq fun r =>
        Requests.Orderly.modWritten (r.sublist (r' := { s.req with table := rest }) (takeFirst_sublist hf) (.refl _)) _ _ _
    exact (hr.modPort _ _).tellAll fun _ hf _ k => k.outcomeTellings hf

/-- A BUSY answer takes the entry off the line (R154). -/
theorem InOrder.busyEntry (h : InOrder n s) (e : Entry) : InOrder n (busyEntry e s) := by
  unfold Machine.busyEntry
  split
  · refine InOrder.setReq h fun r => ?_
    rcases replaceFirst_cases (fun d => d == e) (fun d : Entry => { d with attempts := d.attempts + 1, state := .retryWait })
      s.req.table with hn | ⟨b, d, a, hb, -, hr⟩
    · exact r.of_eq hn rfl
    · exact r.replace hb hr rfl rfl rfl rfl fun hl => absurd hl nofun
  · exact h.finishEntry _ _

theorem InOrder.takeAnswer (h : InOrder n s) (p : PortNo) (seq : Byte) (body : List Byte) :
    InOrder n (takeAnswer p seq body s) := by
  unfold Machine.takeAnswer
  split
  · split
    · unfold answerEntry
      split
      · split
        · exact h.finishEntry _ _
        · exact h
      · exact h.finishEntry _ _
      · exact h.busyEntry _
      · exact h
    · exact h
  · exact h

theorem InOrder.answerTimeout (h : InOrder n s) (p : PortNo) : InOrder n (answerTimeout p s) := by
  unfold Machine.answerTimeout
  split
  · exact h.finishEntry _ _
  · exact h

theorem InOrder.takeFieldBytes (h : InOrder n s) (p : PortNo) (bytes : List Byte) : InOrder n (takeFieldBytes p bytes s) := by
  unfold Machine.takeFieldBytes
  split
  · exact h
  · exact h.takeAnswer _ _ _
  · exact h.takeSample _ _
  · exact h.takeEventBody _ _ _

theorem InOrder.takePortBypass (h : InOrder n s) (port : Nat) : InOrder n (takePortBypass port s).1 := by
  unfold Machine.takePortBypass
  split
  · dsimp only
    split
    · exact h
    · split
      · exact h
      · exact (h.modPort _ _).movePort _ _ _
  · exact h

theorem InOrder.takePortRestore (h : InOrder n s) (port : Nat) : InOrder n (takePortRestore port s).1 := by
  unfold Machine.takePortRestore
  split
  · dsimp only
    split
    case h_1 | h_2 | h_3 => exact InOrder.detect ((h.modPort _ _).movePort _ _ _) _
    all_goals exact h
  · exact h

/-- POWER_ON leaves every record in order, whatever stood before (R177). -/
theorem InOrder.powerUp (estop : Bool) (straps : Vector Straps 16) (s : State) : InOrder n (powerUp estop straps s) := by
  have hr := (recordLaws_iff _).mp recordLaws_reset
  exact InOrder.foldl (fun _ p k => k.detect p) _
    { hr with permit := permitDerived_reset estop, replies := Nat.zero_le n }

/-! ## The host's requests (R149) -/

theorem stationTests_none {tag : Byte} {p : PortNo} {points : List Nat} (h : stationTests tag p points s = none) :
    (∀ d ∈ s.req.table, d.origin = .host → d.tag ≠ some tag) ∧ s.req.hostCount < Config.hostCap ∧ s.req.room = true := by
  unfold stationTests at h
  split at h
  · exact absurd h nofun
  · rename_i htag
    split at h
    · exact absurd h nofun
    · rename_i hroom
      simp only [Bool.not_eq_true, Bool.not_eq_false', Bool.and_eq_true, decide_eq_true_eq] at hroom
      refine ⟨fun d hd ho ht => htag (List.any_eq_true.mpr ⟨d, hd, by simp [ho, ht]⟩), hroom⟩

theorem InOrder.registerHost (h : InOrder n s) {tag : Byte} {p q : PortNo} {points : List Nat} (k : ReqKind)
    (ht : stationTests tag p points s = none) : InOrder n (registerHost tag q k s) := by
  obtain ⟨htag, hcount, hroom⟩ := stationTests_none ht
  exact h.setReq fun r => r.append (e := ⟨.host, some tag, q, k, .queued, 1, s.req.nextSeq⟩) (enter_table ..)
    (modWritten_waits ..) hroom rfl (iff_of_true rfl rfl) fun _ => ⟨hcount, htag⟩

theorem InOrder.takeStationRead (h : InOrder n s) (tag : Byte) (port : Nat) (points : List Nat) :
    InOrder n (takeStationRead tag port points s).1 := by
  unfold Machine.takeStationRead
  split
  · split
    · exact h
    · split
      · exact h
      · rename_i ht
        exact h.registerHost _ ht
  · exact h

theorem InOrder.takeStationWrite (h : InOrder n s) (tag : Byte) (port : Nat) (pairs : List (Nat × Nat)) :
    InOrder n (takeStationWrite tag port pairs s).1 := by
  unfold Machine.takeStationWrite
  split
  · split
    · exact h
    · split
      · exact h
      · rename_i ht
        split
        · exact h
        · exact h.registerHost _ ht
  · exact h

/-! ## The commands and the Link Unit (R179 to R183) -/

theorem InOrder.takeResetPart (h : InOrder n s) : InOrder n (takeResetPart s).1 := by
  have hr := h.resetPart
  unfold Machine.takeResetPart
  generalize Machine.resetPart s = u at hr ⊢
  exact hr

theorem InOrder.takeCommand (h : InOrder n s) (tag : Byte) (c : HostCmd) : InOrder n (takeCommand tag c s).1 := by
  cases c with
  | advanceStart rate => exact h.takeAdvanceStart _
  | advanceStop => exact h.takeAdvanceStop
  | cutterSet speed => exact h.takeCutterSet _
  | setGeometry g => exact h.takeSetGeometry _
  | setGround g => exact h.takeSetGround _
  | setLimits fRed tWarn => exact h.takeSetLimits _ _
  | setPressure p => exact h.takeSetPressure _
  | setBalance b => exact h.takeSetBalance _
  | lineRun line mode => exact h.takeLineRun _ _
  | linePrime line => exact h.takeLinePrime _
  | lineStop line => exact h.takeLineStop _
  | lineClear line => exact h.takeLineClear _
  | setLine line weight vs pLimit lag tP tS tW => exact h.takeSetLine _ _ _ _ _ _ _ _
  | ringOpen number key => exact h.takeRingOpen _ _
  | buildStart => exact h.takeBuildStart
  | ringClose => exact h.takeRingClose
  | ringAbandon => exact h.takeRingAbandon
  | pieceDiscard => exact h.takePieceDiscard
  | getRing number =>
    change InOrder n (takeGetRing number s).1
    unfold takeGetRing
    split <;> exact h
  | placeNext => exact h.startStep _ _
  | placeRetry => exact h.retryStep _
  | placeBackout => exact h.backoutStep _
  | portBypass port => exact h.takePortBypass _
  | portRestore port => exact h.takePortRestore _
  | stationRead port points => exact h.takeStationRead _ _ _
  | stationWrite port pairs => exact h.takeStationWrite _ _ _
  | sampleOutputs port =>
    change InOrder n (takeSampleOutputs port s).1
    unfold takeSampleOutputs
    split <;> exact h
  | clamp => exact h.takeClamp
  | unclamp => exact h.takeUnclamp
  | release => exact h.takeRelease
  | resume => exact h.takeResume
  | setSafe port pairs => exact h.takeSetSafe _ _
  | getFaults => exact h
  | ackFault => exact h.takeAckFault
  | resetPart => exact h.takeResetPart
  | getStatus =>
    have hl : InOrder n (s.setLink { s.link with overflow := false }) := h.setLink (le_refl _) (le_refl _)
    exact hl
  | getRestrictions => exact h
  | getQueues => exact h

/-- One more reply, where one more is allowed (R181). -/
theorem InOrder.addReply (h : InOrder n s) (r : Reply) : InOrder (n + 1) (addReply r s) :=
  have hr : (s.link.replies ++ [r]).length ≤ n + 1 := by
    rw [List.length_append]
    exact Nat.succ_le_succ h.replies
  { h with replies := hr }

/-- With room in the Reply List the records are in order below its capacity. -/
theorem InOrder.below (h : InOrder n s) {m : Nat} (hm : s.link.replies.length ≤ m) : InOrder m s := { h with replies := hm }

theorem InOrder.handOn (h : InOrder 3 s) (f : HostFrame) : InOrder 4 (handOn f s) := by
  unfold Machine.handOn
  split
  · exact (h.takeCommand _ _).addReply _
  · exact h.addReply _
  · exact h.addReply _

/-- A frame is handed on with room in the Reply List (R180). -/
theorem room_of_taken {l : Link} (h : l.passage = .taken) : l.replies.length ≤ 3 := by
  unfold Link.passage at h
  split at h
  · exact absurd h nofun
  · split at h
    · rename_i hroom
      exact Nat.le_of_lt_succ hroom
    · exact absurd h nofun

theorem InOrder.holdFrame (h : InOrder n s) (f : HostFrame) : InOrder n (holdFrame f s) :=
  h.setLink (le_refl _) (le_refl _)

theorem InOrder.overrun (h : InOrder n s) : InOrder n (overrun s) := h.setLink (le_refl _) (le_refl _)

theorem InOrder.setRx (h : InOrder n s) (rx : Rx) : InOrder n (setRx rx s) := h.setLink (le_refl _) (le_refl _)

theorem InOrder.takeFrame (h : InOrder 4 s) (f : HostFrame) : InOrder 4 (takeFrame f s) := by
  unfold Machine.takeFrame
  split
  · rename_i hp
    exact (h.below (room_of_taken hp)).handOn f
  · exact h.holdFrame _
  · exact h.overrun

theorem InOrder.receiveCommand (h : InOrder 4 s) (tag : Byte) (c : HostCmd) : InOrder 4 (receiveCommand tag c s) := by
  unfold Machine.receiveCommand
  split
  · rename_i hp
    exact ((h.below (room_of_taken hp)).takeCommand _ _).addReply _
  · exact h.holdFrame _
  · exact h.overrun

theorem InOrder.handHeld (h : InOrder 4 s) : InOrder 4 (handHeld s) := by
  unfold Machine.handHeld
  split
  · exact h
  · split
    · rename_i hroom
      have hl : InOrder 4 (s.setLink { s.link with held := none }) := h.setLink (le_refl _) (le_refl _)
      exact (hl.below (Nat.le_of_lt_succ hroom)).handOn _
    · exact h

theorem InOrder.huntByte (h : InOrder n s) (b : Byte) : InOrder n (huntByte b s) := by
  unfold Machine.huntByte
  split
  · exact h.setRx _
  · exact h

theorem InOrder.hostByte (h : InOrder 4 s) (b : Byte) (gap : Nat) : InOrder 4 (hostByte b gap s) := by
  have hc : ∀ v : Link, v.replies = s.link.replies → v.reports = s.link.reports → InOrder 4 (s.setLink v) :=
    fun v hr hp => h.setLink (by rw [hr]) (by rw [hp])
  unfold Machine.hostByte
  split
  · exact h.huntByte b
  · split
    · exact InOrder.huntByte (hc { s.link with rx := .hunt, gapDiscards := _ } rfl rfl) b
    · unfold frameByte
      split
      · exact hc _ rfl rfl
      · split
        · exact h.setRx _
        · exact (h.setRx _).takeFrame _
        · exact hc _ rfl rfl

theorem InOrder.frameSent (h : InOrder n s) : InOrder n (frameSent s) := by
  unfold Machine.frameSent
  split
  · rename_i r rest hr
    have hl : InOrder n (s.setLink { s.link with replies := rest }) :=
      h.setLink (by rw [hr]; exact Nat.le_succ _) (le_refl _)
    exact hl.setHostLine _
  · split
    · rename_i r rest hr
      have hl : InOrder n (s.setLink { s.link with reports := rest }) :=
        h.setLink (le_refl _) (by rw [hr]; exact Nat.le_succ _)
      exact hl.setHostLine _
    · exact h

/-! ## Every step -/

/-- Every row is taken, and leaves the records in order. -/
theorem InOrder.exec (h : InOrder 4 s) (i : Instr) : ∃ t, exec i s = .next t ∧ InOrder 4 t := by
  cases hrow : hostRow i with
  | some row => exact ⟨_, exec_hostRow (tag := row.1) (c := row.2) hrow s, h.receiveCommand _ _⟩
  | none =>
    cases i <;> simp only [hostRow, reduceCtorEq] at hrow
    case powerOn estop straps => exact ⟨_, rfl, .powerUp _ _ _⟩
    case hostByteReceived byte gap => exact ⟨_, rfl, h.hostByte _ _⟩
    case heldCommandHandedOn => exact ⟨_, rfl, h.handHeld⟩
    case hostFrameSent => exact ⟨_, rfl, h.frameSent⟩
    case estopAsserted => exact ⟨_, rfl, h.estopAssert⟩
    case estopDeasserted => exact ⟨_, rfl, h.setOut (le_refl _)⟩
    case strapLineChange p l v => exact ⟨_, rfl, h.strapChange _ _ _⟩
    case debounceTimerExpiry p => exact ⟨_, rfl, h.debounceExpiry _⟩
    case partialTimerExpiry p => exact ⟨_, rfl, h.partialExpiry _⟩
    case settleTimerExpiry p => exact ⟨_, rfl, h.settleExpiry _⟩
    case staleTimerExpiry p => exact ⟨_, rfl, h.staleExpiry _⟩
    case fieldFrameDiscard p bytes => exact ⟨_, rfl, h.takeFieldBytes _ _⟩
    case sampleFrame p body => exact ⟨_, rfl, h.takeSample _ _⟩
    case answerFrame p seq body => exact ⟨_, rfl, h.takeAnswer _ _ _⟩
    case answerTimerExpiry p => exact ⟨_, rfl, h.answerTimeout _⟩
    case retryWaitExpiry place => exact ⟨_, rfl, h.retryExpiry _⟩
    case tableFill => exact ⟨_, rfl, h.tableFill⟩
    case requestDispatch p => exact ⟨_, rfl, h.dispatch _⟩
    case strokeTimerExpiry line => exact ⟨_, rfl, h.strokeTimeout _⟩
    case pulseDeliveryTimerExpiry line => exact ⟨_, rfl, h.pulsePause _⟩
    case pulsePauseTimerExpiry line => exact ⟨_, rfl, h.pulseDeliver _⟩
    case primeTimerExpiry line => exact ⟨_, rfl, h.primeExpiry _⟩
    case phaseTimerExpiry => exact ⟨_, rfl, h.phaseTimeout⟩
    all_goals exact ⟨_, rfl, h.takeEvent _ _ _⟩

/-- Settles O57: unit by unit, each operation leaves the records in order, and so does each row. -/
theorem stepKeepsRecordLaws : Obligations.StepKeepsRecordLaws := by
  unfold Obligations.StepKeepsRecordLaws
  intro s t h e
  rw [recordLaws_iff] at h ⊢
  unfold step at e
  split at e
  · cases e
    exact h
  · rename_i c rest _
    obtain ⟨u, hu, hk⟩ := (h.setPending rest).exec c
    rw [hu] at e
    exact Host.Outcome.next.inj e ▸ hk

end

end Sys2Proof.Machine

/-! SUPPORT. The Restriction Table: the highest level and its lowest-numbered holder, a write to an entry, the entries that
units derive, and the read of the table. -/

namespace Sys2Proof.Machine

/-! ## The permit and the deciding source (R29) -/

/-- Of a list in ascending order, no element before the one found passes the test. -/
theorem find?_least {α : Type} {f : α → Nat} {p : α → Bool} {l : List α} {d : α}
    (hl : l.Pairwise fun a b => f a < f b) (hf : l.find? p = some d) {x : α} (hx : x ∈ l) (hlt : f x < f d) : p x = false := by
  obtain ⟨-, as, bs, rfl, has⟩ := List.find?_eq_some_iff_append.mp hf
  rcases List.mem_append.mp hx with hm | hm
  · simpa using has x hm
  · rcases List.mem_cons.mp hm with rfl | hb
    · exact absurd hlt (Nat.lt_irrefl _)
    · have := List.rel_of_pairwise_cons (List.pairwise_append.mp hl).2.1 hb
      omega

theorem mem_all (src : Source) : src ∈ Source.all := by cases src <;> decide

theorem all_ascending : Source.all.Pairwise fun a b => a.code < b.code := by decide

theorem exists_idx (i : Fin 8) : ∃ src : Source, src.idx = i := by
  have h : ∀ j : Fin 8, ∃ src ∈ Source.all, src.idx = j := by decide
  obtain ⟨src, -, hs⟩ := h i
  exact ⟨src, hs⟩

theorem level_le_highest (t : Vector REntry 8) (i : Fin 8) : (t.get i).level.rank ≤ (highest t).rank :=
  (highest_le_iff t _).mp (Nat.le_refl _) i

/-- The highest level is some entry's. -/
theorem exists_highest (t : Vector REntry 8) : ∃ src : Source, (t.get src.idx).level = highest t := by
  by_contra hn
  have hne : ∀ i, (t.get i).level ≠ highest t := fun i he => by
    obtain ⟨src, rfl⟩ := exists_idx i
    exact hn ⟨src, he⟩
  have hlt : ∀ i, (t.get i).level.rank < (highest t).rank := fun i =>
    Nat.lt_of_le_of_ne (level_le_highest t i) fun h => hne i (rank_inj h)
  have h0 := hlt 0
  have := (highest_le_iff t ((highest t).rank - 1)).mpr fun i => by have := hlt i; omega
  omega

/-- The deciding source holds the permit's level. -/
theorem decidingSource_find (t : Vector REntry 8) :
    Source.all.find? (fun src => (t.get src.idx).level == highest t) = some (decidingSource t (highest t)) := by
  obtain ⟨src, hs⟩ := exists_highest t
  have hsome : (Source.all.find? fun src => (t.get src.idx).level == highest t).isSome = true :=
    List.find?_isSome.mpr ⟨src, mem_all src, beq_iff_eq.mpr hs⟩
  obtain ⟨d, hd⟩ := Option.isSome_iff_exists.mp hsome
  unfold decidingSource
  rw [hd]
  rfl

theorem decidingSource_level (t : Vector REntry 8) : (t.get (decidingSource t (highest t)).idx).level = highest t := by
  have h := List.find?_some (decidingSource_find t)
  exact eq_of_beq h

/-- No entry of a lower number holds it. -/
theorem decidingSource_lowest (t : Vector REntry 8) {src : Source} (h : src.code < (decidingSource t (highest t)).code) :
    (t.get src.idx).level ≠ highest t := by
  have hf := find?_least all_ascending (decidingSource_find t) (mem_all src) h
  simpa using hf

/-! ## A write to an entry (R28, R30, R31, R35) -/

/-- The permit has changed: the Advance Unit is told, and then the report is queued (R30, R31). -/
theorem permitWritten_told {src : Source} {l : Level} {c : RCause} {s : State} {new : Permit}
    (hn : s.permit.write src l c s.ring.number s.adv.x = new) (h : new.level ≠ s.permit.level) :
    (permitWritten src l c s).adv.permitCopy = new.level
      ∧ (permitWritten src l c s).link = s.link.queueReport (.permit s.permit.level new.level new.deciding
          (new.table.get new.deciding.idx).cause s.ring.number s.adv.x) := by
  subst hn
  refine ⟨?_, ?_⟩
  · rw [permitWritten_adv]
    simp only [h, ne_eq, not_false_eq_true, if_true]
  · unfold permitWritten
    dsimp only
    rw [if_pos h]
    have hl : ∀ l' u, (tellPermit l' u).link = u.link := fun l' u => agree_tellPermit l' u .link (by simp [advanceReach])
    change (tellPermit _ _).link.queueReport _ = _
    rw [hl]
    rfl

theorem permitWritten_quiet {src : Source} {l : Level} {c : RCause} {s : State}
    (h : (s.permit.write src l c s.ring.number s.adv.x).level = s.permit.level) :
    permitWritten src l c s = s.setPermit (s.permit.write src l c s.ring.number s.adv.x) := by
  unfold permitWritten
  dsimp only
  rw [if_neg (not_not.mpr h)]

theorem tellMuckLevel_link (l : Level) (s : State) : (tellMuckLevel l s).link = s.link :=
  agree_tellMuckLevel l s .link (by simp)

theorem writeEntry_link (src : Source) (l : Level) (c : RCause) (s : State) :
    (writeEntry src l c s).link = (permitWritten src l c s).link := by
  rw [writeEntry_eq]
  split
  · exact tellMuckLevel_link _ _
  · rfl

/-- A write that changes neither the permit nor the MUCK level tells nobody. -/
theorem writeEntry_quiet {src : Source} {l : Level} {c : RCause} {s : State}
    (h : (s.permit.write src l c s.ring.number s.adv.x).level = s.permit.level)
    (hm : src ≠ .muck ∨ (s.permit.table.get src.idx).level = l) :
    writeEntry src l c s = s.setPermit (s.permit.write src l c s.ring.number s.adv.x) := by
  rw [writeEntry_eq, if_neg, permitWritten_quiet h]
  rintro ⟨h1, h2⟩
  exact hm.elim (fun k => k h1) h2

theorem tellMuckLevel_told (l : Level) (s : State) : (tellMuckLevel l s).pres.muckTold = l := by
  unfold tellMuckLevel
  dsimp only
  split <;> rfl

/-- Settles O10: the write's own permit, and what the tellings make of it. -/
theorem restrictionWriteRule : Obligations.RestrictionWriteRule := by
  unfold Obligations.RestrictionWriteRule
  intro src level cause s
  have hp := writeEntry_permit src level cause s
  set new := s.permit.write src level cause s.ring.number s.adv.x with hnew
  have hlevel : new.level = highest new.table := rfl
  have hdec : new.deciding = decidingSource new.table (highest new.table) := rfl
  simp only [hp]
  refine ⟨?_, fun other ho => write_level_ne _ _ _ _ _ (Ne.symm ho), fun other => level_le_highest _ _,
    decidingSource_level _, fun other ho => decidingSource_lowest _ ho, fun h => ?_, fun h hm => ?_, fun hm h => ?_,
    agree_writeEntry _ _ _ _⟩
  · rw [hnew, write_table_get, if_pos rfl]
    rfl
  · rw [writeEntry_adv, writeEntry_link]
    exact permitWritten_told rfl h
  · exact writeEntry_quiet h hm
  · rw [writeEntry_eq, if_pos ⟨hm, h⟩]
    exact tellMuckLevel_told _ _

/-! ## The entries that units derive (R33, R91) -/

theorem stationLevel_ready {ports : Vector Port 16} (h : ∀ p : PortNo, p.val ≤ 5 → (ports.get p).state = .ready) :
    stationLevel ports = (.clear, .none) := by
  have hn : ((List.finRange 6).find? fun p => (ports.get (Fin.castLE (by decide) p)).state != .ready) = none :=
    List.find?_eq_none.mpr fun p _ => by
      rw [h _ (Nat.le_of_lt_succ p.isLt)]
      decide
  unfold stationLevel
  rw [hn]

/-- The lowest port out of READY is the cause (R33). -/
theorem stationLevel_lowest {ports : Vector Port 16} {p : Fin 6}
    (hp : (ports.get (Fin.castLE (by decide) p)).state ≠ .ready)
    (hq : ∀ q : Fin 6, q < p → (ports.get (Fin.castLE (by decide) q)).state = .ready) :
    stationLevel ports = (.hold, .port p) := by
  have hsome : ((List.finRange 6).find? fun p => (ports.get (Fin.castLE (by decide) p)).state != .ready).isSome = true :=
    List.find?_isSome.mpr ⟨p, List.mem_finRange p, by simpa using hp⟩
  obtain ⟨d, hd⟩ := Option.isSome_iff_exists.mp hsome
  have hdn := List.find?_some hd
  have hdp : d = p := by
    rcases Nat.lt_trichotomy d.val p.val with hlt | heq | hgt
    · simp [hq d hlt] at hdn
    · exact Fin.ext heq
    · have := find?_least (f := Fin.val) (by decide) hd (List.mem_finRange p) hgt
      simp [hp] at this
  unfold stationLevel
  rw [hd, hdp]

/-- Some line in TRACK passes the test. -/
theorem any_track_iff (s : State) (q : Line → Bool) :
    (s.lines.toList.filter (·.mode == .track)).any q = true ↔ ∃ i, (s.line i).mode = .track ∧ q (s.line i) = true := by
  simp only [List.any_eq_true, List.mem_filter, beq_iff_eq]
  constructor
  · rintro ⟨l, ⟨hl, hm⟩, hq⟩
    obtain ⟨i, hi, rfl⟩ := List.getElem_of_mem hl
    exact ⟨⟨i, by simpa using hi⟩, by simpa [State.line, Vector.get_eq_getElem] using hm,
      by simpa [State.line, Vector.get_eq_getElem] using hq⟩
  · rintro ⟨i, hm, hq⟩
    exact ⟨s.line i, ⟨by simp [State.line, Vector.get_eq_getElem], hm⟩, hq⟩

/-- Settles O22: the ports in ascending order, and the rows of R91 in theirs. -/
theorem derivedEntriesRule : Obligations.DerivedEntriesRule := by
  unfold Obligations.DerivedEntriesRule
  intro s
  refine ⟨fun h => ?_, fun p hp hq => ?_, ?_⟩
  · unfold stationTelling
    rw [stationLevel_ready h]
    rfl
  · unfold stationTelling
    rw [stationLevel_lowest hp hq]
    rfl
  · unfold writeGrout groutLevel
    simp only [any_track_iff, beq_iff_eq, decide_eq_true_eq]
    simp only [apply_ite fun lc => writeLevel .grout lc s]
    rfl

/-! ## GET_RESTRICTIONS (R38, R180) -/

/-- Settles O9: the row is handed on and answered; a frame with a body fails the length test. -/
theorem restrictionsAreRead : Obligations.RestrictionsAreRead := by
  unfold Obligations.RestrictionsAreRead
  refine fun tag s h => ⟨exec_command (tag := tag) (c := .getRestrictions) rfl h rfl, fun body hb => ?_⟩
  have hparse : hostParse 0x51 body = .badLength := by
    have hlen : ¬ body.length = 0 := fun hl => hb (List.length_eq_zero_iff.mp hl)
    change fixedBody 0 body .getRestrictions = .badLength
    unfold fixedBody
    rw [if_neg hlen]
  unfold takeFrame
  rw [passage_taken h]
  change handOn _ _ = _
  unfold handOn
  rw [hparse]
  rfl

end Sys2Proof.Machine

/-! SUPPORT. POWER_ON: from the power-on values, the ports with a detect line made enter SETTLING, and no telling of such an
entry changes a unit beside the causes and the counts of the Restriction Table. -/

namespace Sys2Proof.Machine

section
variable {s t : State} {estop : Bool}

/-! ## The state while the detect lines are read (R147, R177) -/

/-- The permit at power-on, by the level of the emergency-stop line (R39). -/
def poweredLevel (estop : Bool) : Level := if estop then .stop else .hold

/-- The Restriction Table at power-on, or after a telling of a port out of service: CHAMBER at HOLD, no entry but OUTPUT
above it, and OUTPUT by the emergency-stop line (R39). -/
structure Permit.Powered (estop : Bool) (p : Permit) : Prop where
  derived : permitDerived p
  chamber : (p.table.get Source.chamber.idx).level = .hold
  output : (p.table.get Source.output.idx).level = if estop then .stop else .clear
  others : ∀ src : Source, src ≠ .output → (p.table.get src.idx).level.rank ≤ 2

/-- What POWER_ON, taken in s, has made of the part while it reads the detect lines. -/
structure PoweredFrom (s : State) (estop : Bool) (t : State) : Prop where
  permit : t.permit.Powered estop
  out : t.out = Output.reset estop
  idle : t.adv.state = .idle
  cutter : t.adv.cutter = .stopped
  copy : t.adv.permitCopy = poweredLevel estop
  screw : t.pres.setpoint = 0
  muck : t.muck = Muck.reset
  lines : ∀ i, (t.line i).state = .stopped
  ring : t.ring = Ring.reset
  build : t.build = Build.reset
  req : t.req = Requests.reset
  replies : t.link.replies = []
  held : t.link.held = none
  rx : t.link.rx = .hunt
  hostLine : t.hostLine = s.hostLine
  fieldLine : t.fieldLine = s.fieldLine
  pending : t.pending = s.pending

theorem Permit.Powered.level {p : Permit} (h : p.Powered estop) : p.level = poweredLevel estop := by
  rw [h.derived.1]
  cases estop
  · refine rank_inj (Nat.le_antisymm ((highest_le_iff _ _).mpr fun i => ?_) ?_)
    · obtain ⟨src, rfl⟩ := exists_idx i
      by_cases ho : src = .output
      · rw [ho, h.output]
        decide
      · exact h.others src ho
    · have := level_le_highest p.table Source.chamber.idx
      rw [h.chamber] at this
      exact this
  · exact (highest_eq_stop_iff _).mpr ⟨_, h.output⟩

theorem Permit.Powered.write {p : Permit} (h : p.Powered estop) {src : Source} {l : Level} (c : RCause) (ring x : Nat)
    (ho : src ≠ .output) (hl : l.rank ≤ 2) (hc : src = .chamber → l = .hold) :
    (p.write src l c ring x).Powered estop where
  derived := permitDerived_write ..
  chamber := by
    by_cases hs : src = .chamber
    · rw [hs, write_table_get, if_pos rfl, (write_get _ _ _ _ _).1]
      exact hc hs
    · rw [write_level_ne _ _ _ _ _ hs]
      exact h.chamber
  output := by
    rw [write_level_ne _ _ _ _ _ ho]
    exact h.output
  others src' ho' := by
    by_cases hs : src = src'
    · rw [hs, write_table_get, if_pos rfl, (write_get _ _ _ _ _).1]
      exact hl
    · rw [write_level_ne _ _ _ _ _ hs]
      exact h.others src' ho'

/-- Such a write changes no level of the permit: it tells nobody but, of MUCK, the Pressure Unit, whose screw rests. -/
theorem PoweredFrom.writeEntry (h : PoweredFrom s estop t) {src : Source} {l : Level} (c : RCause)
    (ho : src ≠ .output) (hl : l.rank ≤ 2) (hc : src = .chamber → l = .hold) :
    PoweredFrom s estop (writeEntry src l c t) ∧ (writeEntry src l c t).ports = t.ports := by
  have hp := h.permit.write c t.ring.number t.adv.x ho hl hc
  have hw : PoweredFrom s estop (t.setPermit (t.permit.write src l c t.ring.number t.adv.x)) := { h with permit := hp }
  rw [writeEntry_eq, permitWritten_quiet (hp.level.trans h.permit.level.symm)]
  split
  · unfold tellMuckLevel
    dsimp only
    rw [if_neg (by simp [h.screw])]
    exact ⟨{ hw with }, rfl⟩
  · exact ⟨hw, rfl⟩

/-! ## The tellings of a port that enters SETTLING (R143) -/

theorem settlingTellings {p : PortNo} {f : State → State} (h : f ∈ portTellings p .empty .settling none) :
    f = stationTelling ∨ f ∈ jobLoss p := by
  have hm : p.val ≤ 5 ∧ f = stationTelling ∨ f ∈ jobLoss p := by
    simpa [portTellings, recordTelling, unitTellings, jobTellings, PortState.lost, PortState.inService] using h
  exact hm.imp_left And.right

theorem stationLevel_rank (ports : Vector Port 16) : (stationLevel ports).1.rank ≤ 2 := by
  unfold stationLevel
  split <;> exact of_decide_eq_true rfl

theorem groutLevel_rank (r : RingState) (v : Vector Line 6) : (groutLevel r v).1.rank ≤ 2 := by
  have := groutLevel_ne_stop r v
  revert this
  cases (groutLevel r v).1 <;> decide

theorem PoweredFrom.losePump (h : PoweredFrom s estop t) (p : PortNo) :
    PoweredFrom s estop (losePump p t) ∧ (losePump p t).ports = t.ports := by
  have hline : ∀ (l : List LineNo) {u : State}, PoweredFrom s estop u →
      PoweredFrom s estop (l.foldl (fun s i => loseLine i s) u) ∧ (l.foldl (fun s i => loseLine i s) u).ports = u.ports := by
    intro l
    induction l with
    | nil => exact fun hu => ⟨hu, rfl⟩
    | cons i l ih =>
      intro u hu
      have hi : PoweredFrom s estop (loseLine i u) := by
        rw [loseLine_stopped (hu.lines i)]
        refine { hu with lines := fun j => ?_ }
        rw [line_setLine]
        split
        · exact hu.lines i
        · exact hu.lines j
      obtain ⟨hl, hp⟩ := ih hi
      refine ⟨hl, hp.trans ?_⟩
      rw [loseLine_stopped (hu.lines i)]
      rfl
  obtain ⟨hl, hp⟩ := hline (linesOf p) h
  obtain ⟨hw, hq⟩ := hl.writeEntry (src := .grout) (groutLevel _ _).2 (by decide) (groutLevel_rank _ _) nofun
  exact ⟨hw, hq.trans hp⟩

theorem PoweredFrom.jobLoss (h : PoweredFrom s estop t) {p : PortNo} {f : State → State} (hf : f ∈ jobLoss p) :
    PoweredFrom s estop (f t) ∧ (f t).ports = t.ports := by
  have hstep : loseStepPort p t = t := by
    unfold loseStepPort
    rw [h.build]
    rfl
  unfold Machine.jobLoss at hf
  split at hf <;> simp only [List.mem_cons, List.not_mem_nil, or_false] at hf <;> subst hf
  · have hs : PoweredFrom s estop (t.setAdv { t.adv with readings := t.adv.readings.map fun r => { r with valid := false } }) :=
      { h with }
    exact hs.writeEntry .blind (by decide) (by decide) (by decide)
  · have hs : PoweredFrom s estop (t.setPres { t.pres with
        readings := t.pres.readings.map fun r => { r with valid := false }, held := true }) := { h with }
    exact hs.writeEntry .blind (by decide) (by decide) fun _ => rfl
  · have hs : PoweredFrom s estop (t.setAdv { t.adv with torque := 0 }) := { h with }
    unfold loseCutter stopCutter
    rw [h.cutter]
    exact hs.writeEntry .none (by decide) (by decide) (by decide)
  · have hs : PoweredFrom s estop (t.setMuck { t.muck with blind := true }) :=
      { h with muck := by rw [State.setMuck_muck, h.muck]; rfl }
    exact hs.writeEntry .blind (by decide) (by decide) (by decide)
  · exact h.losePump p
  · rw [hstep]
    exact ⟨h, rfl⟩
  · rw [hstep]
    exact ⟨h, rfl⟩

/-! ## The detect lines, port by port (R134, R147) -/

/-- A port's entry once its detect lines are read at power-on (R147). -/
def Port.detected (pt : Port) : Port := if anyMade pt.straps then pt.enter .settling .inserted else pt

theorem PoweredFrom.detect (h : PoweredFrom s estop t) {p : PortNo} (he : (t.ports.get p).state = .empty) :
    PoweredFrom s estop (detect p t)
      ∧ ∀ q, (detect p t).ports.get q = if p = q then (t.ports.get q).detected else t.ports.get q := by
  unfold Machine.detect
  split
  · rename_i hm
    set u := portReport p .empty none (modPort p (Port.enter .settling .inserted) t) with hu
    have hg : Grown t u := Grown.trans (t := modPort p (Port.enter .settling .inserted) t) (.of_link rfl) (grown_report _ _)
    have hp : PoweredFrom s estop u :=
      { h with
        replies := hg.replies.trans h.replies
        held := hg.link.held.trans h.held
        rx := hg.link.rx.trans h.rx }
    have hlate : PoweredFrom s estop (if p = 6 then markLate .empty .settling u else u) := by
      split
      · refine { hp with muck := ?_ }
        unfold markLate
        rw [State.setMuck_muck, hp.muck]
        rfl
      · exact hp
    have hports : (if p = 6 then markLate .empty .settling u else u).ports
        = put t.ports p ((t.ports.get p).enter .settling .inserted) := by
      split <;> rfl
    have heq : movePort p .settling .inserted t = tellAll (portTellings p .empty .settling none)
        (if p = 6 then markLate .empty .settling u else u) := by
      unfold movePort
      rw [changePort_eq]
      dsimp only
      rw [he]
      rfl
    rw [heq]
    generalize (if p = 6 then markLate .empty .settling u else u) = w at hlate hports ⊢
    have hkeep := applyInOrder_keeps (fun v => PoweredFrom s estop v
        ∧ v.ports = put t.ports p ((t.ports.get p).enter .settling .inserted))
      (portTellings p .empty .settling none).length (Config.tellingOrder w.tick) (portTellings p .empty .settling none)
      (fun f hf v ⟨hv, hvp⟩ => by
        rcases settlingTellings hf with rfl | hf
        · obtain ⟨hw, hq⟩ := hv.writeEntry (src := .station) (stationLevel v.ports).2 (by decide) (stationLevel_rank _)
            nofun
          exact ⟨hw, hq.trans hvp⟩
        · obtain ⟨hw, hq⟩ := hv.jobLoss hf
          exact ⟨hw, hq.trans hvp⟩)
      (w.setTick (w.tick + 1)) ⟨{ hlate with }, hports⟩
    refine ⟨hkeep.1, fun q => ?_⟩
    rw [show (tellAll _ _ : State).ports = _ from hkeep.2, get_put]
    split
    · rename_i hpq
      rw [← hpq, Port.detected, if_pos hm]
    · rfl
  · rename_i hm
    refine ⟨h, fun q => ?_⟩
    split
    · rename_i hpq
      rw [← hpq, Port.detected, if_neg hm]
    · rfl

theorem PoweredFrom.foldl_detect : ∀ (l : List PortNo) {t : State}, l.Nodup → PoweredFrom s estop t →
    (∀ p ∈ l, (t.ports.get p).state = .empty) →
    PoweredFrom s estop (l.foldl (fun s p => Machine.detect p s) t)
      ∧ ∀ q, (l.foldl (fun s p => Machine.detect p s) t).ports.get q
          = if q ∈ l then (t.ports.get q).detected else t.ports.get q
  | [], _, _, h, _ => ⟨h, fun _ => by rw [if_neg List.not_mem_nil]; rfl⟩
  | p :: l, t, hn, h, he => by
    obtain ⟨hpl, hl⟩ := List.nodup_cons.mp hn
    obtain ⟨hd, hq⟩ := h.detect (he p List.mem_cons_self)
    obtain ⟨hf, hr⟩ := PoweredFrom.foldl_detect l hl hd fun q hql => by
      rw [hq, if_neg fun e : p = q => hpl (e.symm ▸ hql)]
      exact he q (List.mem_cons_of_mem _ hql)
    refine ⟨hf, fun q => ?_⟩
    rw [List.foldl_cons, hr, hq]
    by_cases hpq : p = q
    · rw [← hpq, if_neg hpl, if_pos rfl, if_pos List.mem_cons_self]
    · have hmem : q ∈ p :: l ↔ q ∈ l := by simp [Ne.symm hpq]
      rw [if_neg hpq, if_congr hmem rfl rfl]

theorem powered_reset (estop : Bool) : (Permit.reset estop).Powered estop where
  derived := permitDerived_reset estop
  chamber := by cases estop <;> rfl
  output := by cases estop <;> rfl
  others src h := by
    cases src
    case output => exact absurd rfl h
    all_goals cases estop <;> decide

theorem detected_reset (w : Straps) :
    (Port.reset w).detected.supply = false ∧ (Port.reset w).detected.identity = none ∧ (Port.reset w).detected.straps = w
      ∧ ((Port.reset w).detected.state, (Port.reset w).detected.cause)
          = if w.d1 || w.d2 then (PortState.settling, PortCause.inserted) else (PortState.empty, PortCause.none) := by
  have hd : (Port.reset w).detected = if anyMade w then (Port.reset w).enter .settling .inserted else Port.reset w := rfl
  have hw : (w.d1 || w.d2) = anyMade w := rfl
  rw [hd, hw]
  by_cases hm : anyMade w = true
  · rw [if_pos hm, if_pos hm]
    exact ⟨rfl, rfl, rfl, rfl⟩
  · rw [if_neg hm, if_neg hm]
    exact ⟨rfl, rfl, rfl, rfl⟩

/-- The part as POWER_ON sets it, before the detect lines are read. -/
def poweredOn (estop : Bool) (straps : Vector Straps 16) (s : State) : State :=
  { State.powered estop straps with
    hostLine := s.hostLine, fieldLine := s.fieldLine, tick := s.tick, pending := s.pending }

theorem powerUp_eq (estop : Bool) (straps : Vector Straps 16) (s : State) :
    powerUp estop straps s = (List.finRange 16).foldl (fun s p => detect p s) (poweredOn estop straps s) := rfl

theorem exec_powerOn (estop : Bool) (straps : Vector Straps 16) (s : State) :
    exec (.powerOn estop straps) s = .next (powerUp estop straps s) := rfl

theorem port_poweredOn (estop : Bool) (straps : Vector Straps 16) (s : State) (p : PortNo) :
    (poweredOn estop straps s).ports.get p = Port.reset (straps.get p) := get_map _ _ _

theorem poweredFrom_poweredOn (estop : Bool) (straps : Vector Straps 16) (s : State) :
    PoweredFrom s estop (poweredOn estop straps s) where
  permit := powered_reset estop
  out := rfl
  idle := rfl
  cutter := rfl
  copy := rfl
  screw := rfl
  muck := rfl
  lines i := by simp [State.line, poweredOn, State.powered, Line.reset]
  ring := rfl
  build := rfl
  req := rfl
  replies := rfl
  held := rfl
  rx := rfl
  hostLine := rfl
  fieldLine := rfl
  pending := rfl

/-- Settles O3: the detect lines are read port by port, each entry into SETTLING leaving the units as they were powered. -/
theorem powerOnCompletes : Obligations.PowerOnCompletes := by
  unfold Obligations.PowerOnCompletes
  intro estop straps s
  obtain ⟨h, hp⟩ := (poweredFrom_poweredOn estop straps s).foldl_detect (List.finRange 16) (List.nodup_finRange 16)
    fun p _ => by rw [port_poweredOn]; rfl
  refine ⟨powerUp estop straps s, exec_powerOn estop straps s, ?_⟩
  rw [powerUp_eq]
  generalize (List.finRange 16).foldl (fun s p => detect p s) (poweredOn estop straps s) = t at h hp
  refine ⟨h.out, h.permit.level, h.idle, h.cutter, h.copy.trans h.permit.level.symm, h.screw, h.muck, h.ring, h.build, h.req,
    h.replies, h.held, h.rx, fun p => ?_, h.hostLine, h.fieldLine, h.pending⟩
  rw [hp, if_pos (List.mem_finRange p), port_poweredOn]
  exact detected_reset _

end

end Sys2Proof.Machine

/-! SUPPORT. The tellings of an entry into CLAMPING start nothing, and let no safe write come to wait: what holds of them from
any state, StopLaws or not. -/

namespace Sys2Proof.Machine

/-- Outside NORMAL, OUTPUT and the permit stand at STOP for the cause of the mode (R34). -/
def OutputTold (s : State) : Prop := s.out.mode ≠ .normal →
  (s.permit.table.get Source.output.idx).level = .stop
    ∧ (s.permit.table.get Source.output.idx).cause = s.out.cause.restriction ∧ s.permit.level = .stop

/-- From s to t nothing of the jobs was started, the mode stands as it was told, and no safe write came to wait. -/
structure Hushed (s t : State) : Prop where
  mode : t.out.mode = s.out.mode
  cause : t.out.cause = s.out.cause
  adv : t.adv.state.active = true → s.adv.state.active = true
  cutter : s.adv.cutter = .stopped → t.adv.cutter = .stopped
  lines : ∀ i, (t.line i).state.running = true → (s.line i).state.running = true
  step : stepRest s.build → stepRest t.build
  grant : s.build.grant = .free → t.build.grant = .free
  told : OutputTold s → OutputTold t
  waits : ∀ w ∈ t.req.waits, w.origin = .safe → w ∈ s.req.waits

theorem Hushed.trans {s t u : State} (h : Hushed s t) (k : Hushed t u) : Hushed s u where
  mode := k.mode.trans h.mode
  cause := k.cause.trans h.cause
  adv := h.adv ∘ k.adv
  cutter := k.cutter ∘ h.cutter
  lines i := h.lines i ∘ k.lines i
  step := k.step ∘ h.step
  grant := k.grant ∘ h.grant
  told := k.told ∘ h.told
  waits w hw ho := h.waits w (k.waits w hw ho) ho

theorem OutputTold.congr {s t : State} (h : OutputTold s) (hm : t.out.mode = s.out.mode) (hc : t.out.cause = s.out.cause)
    (hp : t.permit = s.permit) : OutputTold t := fun hn => by
  rw [hp, hc]
  exact h (hm ▸ hn)

/-- An operation that reaches no unit the relation speaks of, but the queue of those that wait. -/
theorem Hushed.same {s t : State} (ho : t.out = { s.out with faults := t.out.faults }) (ha : t.adv = s.adv)
    (hl : t.lines = s.lines) (hb : t.build = s.build) (hp : t.permit = s.permit)
    (hw : ∀ w ∈ t.req.waits, w.origin = .safe → w ∈ s.req.waits) : Hushed s t where
  mode := by rw [ho]
  cause := by rw [ho]
  adv := by rw [ha]; exact id
  cutter := by rw [ha]; exact id
  lines i := by unfold State.line; rw [hl]; exact id
  step := by rw [hb]; exact id
  grant := by rw [hb]; exact id
  told h := h.congr (by rw [ho]) (by rw [ho]) hp
  waits := hw

theorem Hushed.refl (s : State) : Hushed s s := .same rfl rfl rfl rfl rfl fun _ hw _ => hw

theorem hushed_foldl {α : Type} {f : State → α → State} (l : List α) (h : ∀ a ∈ l, ∀ s, Hushed s (f s a)) (s : State) :
    Hushed s (l.foldl f s) := by
  induction l generalizing s with
  | nil => exact .refl s
  | cons a l ih => exact (h a List.mem_cons_self s).trans (ih (fun b hb => h b (List.mem_cons_of_mem a hb)) _)

/-! ## The advance, the permit and the faults -/

/-- An operation of the Advance Unit that makes it active, or the cutter turn, from nowhere. -/
theorem Hushed.of_calm {s t : State} (c : Calm s t) (ha : t.adv.state.active = true → s.adv.state.active = true)
    (hc : s.adv.cutter = .stopped → t.adv.cutter = .stopped) (hw : ∀ w ∈ t.req.waits, w ∈ s.req.waits) : Hushed s t where
  mode := by rw [c.out]
  cause := by rw [c.out]
  adv := ha
  cutter := hc
  lines i := by unfold State.line; rw [c.lines]; exact id
  step h st hst := h st (c.step ▸ hst)
  grant h := c.grant.trans h
  told h := h.congr (by rw [c.out]) (by rw [c.out]) c.permit
  waits w h _ := hw w h

theorem hushed_stopAdvance (s : State) : Hushed s (stopAdvance s) := by
  refine .of_calm (calm_stopAdvance s) (fun h => ?_) (fun h => ?_) (stays_stopAdvance (p := 0) (n := none) s).waits
  · rw [stopAdvance_adv] at h
    exact absurd ((stopped_not_active _).symm.trans h) nofun
  · rw [stopAdvance_adv]
    exact h

theorem hushed_stopCutter (s : State) : Hushed s (stopCutter s) := by
  refine .of_calm (calm_stopCutter s) (fun h => ?_) (fun _ => by rw [stopCutter_adv])
    (stays_stopCutter (p := 0) (n := none) s).waits
  rw [stopCutter_adv] at h
  dsimp only at h
  split at h
  · exact h
  · exact absurd ((stopped_not_active _).symm.trans h) nofun

theorem hushed_report (r : Report) (s : State) : Hushed s (report r s) := .same rfl rfl rfl rfl rfl fun _ hw _ => hw

/-- A write to the Restriction Table: to OUTPUT, outside NORMAL, only as the mode is told (R34). -/
theorem hushed_writeEntry {src : Source} {l : Level} {c : RCause} (s : State)
    (ho : src = .output → s.out.mode ≠ .normal → l = .stop ∧ c = s.out.cause.restriction)
    (hb : src = .faultBacklog → l = .hold) : Hushed s (writeEntry src l c s) := by
  have hag := agree_writeEntry src l c s
  have hout : (writeEntry src l c s).out = s.out := hag .out (by simp [permitReach])
  have hlines : (writeEntry src l c s).lines = s.lines := hag .lines (by simp [permitReach])
  have hperm := writeEntry_permit src l c s
  have hcalm := calm_permitWritten src l c s
  have hbuild : (writeEntry src l c s).build = (permitWritten src l c s).build := by
    rw [writeEntry_eq]
    split
    · exact agree_tellMuckLevel _ _ .build (by simp)
    · rfl
  have hadv : (writeEntry src l c s).adv = _ := (writeEntry_adv src l c s).trans (permitWritten_adv src l c s)
  have hwaits := (stays_writeEntry (p := 0) (n := none) c s hb).waits
  refine ⟨by rw [hout], by rw [hout], fun ha => ?_, fun hc => ?_, fun i => ?_, fun h st hst => ?_, fun h => ?_, fun h hm => ?_,
    fun w hw _ => hwaits w hw⟩
  · rw [hadv] at ha
    dsimp only at ha
    split at ha
    · exact (toldState_active _ s).1 ha
    · exact ha
  · rw [hadv]
    dsimp only
    split
    · rw [hc, ite_self]
    · exact hc
  · unfold State.line
    rw [hlines]
    exact id
  · rw [hbuild, hcalm.step] at hst
    exact h st hst
  · rw [hbuild, hcalm.grant]
    exact h
  · rw [hout] at hm ⊢
    have hentry : ((writeEntry src l c s).permit.table.get Source.output.idx).level = .stop
        ∧ ((writeEntry src l c s).permit.table.get Source.output.idx).cause = s.out.cause.restriction := by
      rw [hperm]
      by_cases hsrc : src = .output
      · subst hsrc
        obtain ⟨hl, hc⟩ := ho rfl hm
        rw [write_table_get, if_pos rfl, (write_get _ _ _ _ _).1, (write_get _ _ _ _ _).2]
        exact ⟨hl, hc⟩
      · rw [write_level_ne _ _ _ _ _ hsrc]
        obtain ⟨h1, h2, -⟩ := h hm
        exact ⟨h1, h2⟩
    refine ⟨hentry.1, hentry.2, ?_⟩
    have hd : permitDerived (writeEntry src l c s).permit := by rw [hperm]; exact permitDerived_write ..
    rw [hd.1, highest_eq_stop_iff]
    exact ⟨_, hentry.1⟩

theorem hushed_writeGrout (s : State) : Hushed s (writeGrout s) := hushed_writeEntry (src := .grout) s nofun nofun

theorem outputLevel_eq {m : OutMode} (c : OutCause) (h : m ≠ .normal) : outputLevel m c = (.stop, c.restriction) := by
  cases m
  case normal => exact absurd rfl h
  all_goals rfl

theorem hushed_tellOutput (s : State) : Hushed s (tellOutput s) :=
  hushed_writeEntry (src := .output) (l := (outputLevel s.out.mode s.out.cause).1)
    (c := (outputLevel s.out.mode s.out.cause).2) s (fun _ hm => by rw [outputLevel_eq _ hm]; exact ⟨rfl, rfl⟩) nofun

theorem outputTold_tellOutput (s : State) : OutputTold (tellOutput s) := fun hm => by
  obtain ⟨hl, hp⟩ := tellOutput_stops s hm
  rw [tellOutput_out] at hm ⊢
  refine ⟨hl, ?_, hp⟩
  unfold tellOutput writeLevel
  rw [writeEntry_permit, write_table_get, if_pos rfl, (write_get _ _ _ _ _).2, outputLevel_eq _ hm]

theorem hushed_handFault (f : FaultRec) (s : State) : Hushed s (handFault f s) := by
  unfold handFault
  split
  · have h : Hushed s (s.setOut { s.out with faults := s.out.faults ++ [f] }) := .same rfl rfl rfl rfl rfl fun _ hw _ => hw
    exact h.trans (hushed_report _ _)
  · exact hushed_writeEntry s nofun fun _ => rfl

/-! ## The grout lines -/

theorem hushed_setLine {i : LineNo} {l : Line} {s : State}
    (h : l.state.running = true → (s.line i).state.running = true) : Hushed s (setLine i l s) :=
  { Hushed.refl s with
    lines := fun j => by
      rw [line_setLine]
      split
      · rename_i hij
        rw [← hij]
        exact h
      · exact id
    told := id }

theorem hushed_rest (i : LineNo) (s : State) : Hushed s (setLine i (s.line i).rest s) := hushed_setLine id

theorem hushed_setPhase (i : LineNo) (ph : StrokePhase) (s : State) :
    Hushed s (setLine i { s.line i with phase := ph } s) := hushed_setLine id

theorem hushed_moveLine {i : LineNo} {st : LineState} (m : LineMode) (c : LineCause) {s : State}
    (h : st.running = false) : Hushed s (moveLine i st m c s) := by
  have hs : Hushed s (setLine i { s.line i with state := st, mode := m } s) :=
    hushed_setLine fun hr => absurd (h.symm.trans hr) nofun
  unfold moveLine
  dsimp only
  split
  · exact hs
  · exact hs.trans (hushed_report _ _)

theorem hushed_faultLine (i : LineNo) (f : FaultFormat) (c : FaultCause) (t : LineCause) (s : State) :
    Hushed s (faultLine i f c t s) :=
  (hushed_handFault _ s).trans ((hushed_rest i _).trans (hushed_moveLine _ _ rfl))

theorem hushed_loseLine (i : LineNo) (s : State) : Hushed s (loseLine i s) := by
  have h := hushed_setPhase i .none s
  unfold loseLine
  dsimp only
  split
  · exact h
  · exact h.trans (hushed_rest i _)
  all_goals exact h.trans (hushed_faultLine _ _ _ _ _)

theorem hushed_losePump (p : PortNo) (s : State) : Hushed s (losePump p s) :=
  (hushed_foldl _ (fun i _ s => hushed_loseLine i s) s).trans (hushed_writeGrout _)

theorem hushed_setReq {v : Requests} {s : State} (h : ∀ w ∈ v.waits, w.origin = .safe → w ∈ s.req.waits) :
    Hushed s (s.setReq v) := .same rfl rfl rfl rfl rfl h

theorem placeItem_waits {w : WaitItem} {s : State} {x : WaitItem} (h : x ∈ (placeItem w s).1.req.waits) :
    x = w ∨ x ∈ s.req.waits := by
  change x ∈ (s.req.placeItem s.out.mode (s.ports.get w.port).state w).1.waits at h
  unfold Requests.placeItem at h
  split at h
  · exact .inr h
  · split at h
    · unfold Requests.enter at h
      rw [modWritten_waits] at h
      exact .inr h
    · rw [modWritten_waits] at h
      exact (List.mem_append.mp h).symm.imp_left List.mem_singleton.mp

theorem hushed_placeItem {w : WaitItem} (ho : w.origin ≠ .safe) (s : State) : Hushed s (placeItem w s).1 :=
  hushed_setReq fun _ hx hs => (placeItem_waits hx).resolve_left fun e => ho (e ▸ hs)

theorem hushed_checkStroke (i : LineNo) (s : State) : Hushed s (checkStroke i s) := by
  unfold checkStroke
  split
  · have h : Hushed s _ := hushed_placeItem (w := ⟨.grout, pumpPort i, .action (.stroke i (s.line i).vs)⟩) nofun s
    unfold issueStroke
    dsimp only
    split
    · exact h.trans (hushed_setPhase i _ _)
    · exact h.trans (hushed_setPhase i _ _)
    · exact h.trans (hushed_losePump _ _)
  · exact .refl s

theorem hushed_strokeCancelled (i : LineNo) (n : Option Nat) (s : State) : Hushed s (strokeOutcome i n .cancelled s) := by
  unfold strokeOutcome
  dsimp only
  split
  · exact .refl s
  · exact (hushed_setPhase i .none s).trans (hushed_checkStroke _ _)

theorem dropWaits_waits {r : Requests} {q : WaitItem → Bool} {w : WaitItem} (h : w ∈ (r.dropWaits q).waits) :
    w ∈ r.waits := (List.mem_filter.mp h).1

theorem hushed_dropStroke (i : LineNo) (s : State) : Hushed s (dropStroke i s) := by
  unfold dropStroke
  split
  · exact .trans (hushed_setReq fun _ hw _ => dropWaits_waits hw) (hushed_setPhase i .none _)
  · rename_i n _
    split
    · exact .refl s
    · exact .trans (hushed_setReq (v := s.req.withdrawEntry n) fun _ hw _ => hw) (hushed_setPhase i .none _)
  all_goals exact .refl s

theorem hushed_leaveTrack (i : LineNo) (s : State) : Hushed s (leaveTrack i s) := by
  have h : Hushed s (clearRemainders s) :=
    { Hushed.refl s with
      lines := fun j => by
        simp only [clearRemainders, contribute, State.line, State.setRing_lines, State.setLines_lines, get_map]
        exact id
      told := id }
  unfold leaveTrack
  split
  · exact h
  · exact .refl s

theorem hushed_stopLine (i : LineNo) (s : State) : Hushed s (stopLine i s) :=
  (hushed_rest i s).trans ((hushed_dropStroke i _).trans ((hushed_leaveTrack i _).trans (hushed_moveLine _ _ rfl)))

theorem hushed_clampGrout (s : State) : Hushed s (clampGrout s) := by
  refine (hushed_foldl _ (fun i _ s => ?_) s).trans (hushed_writeGrout _)
  split
  · exact hushed_stopLine i s
  · exact .refl s

/-! ## The step and the grant -/

theorem hushed_withdrawStep (st : Step) (s : State) : Hushed s (withdrawStep st s) := by
  unfold withdrawStep
  split
  · exact hushed_setReq fun _ hw _ => dropWaits_waits hw
  · exact hushed_setReq fun _ hw _ => hw
  all_goals exact .refl s

theorem hushed_setStep {st : Step} (h : st.state.running = false) (s : State) : Hushed s (setStep (some st) s) :=
  { Hushed.refl s with
    step := fun _ _ hst => Option.some.inj hst ▸ h
    told := id }

theorem hushed_stepFault (c : StepCause) (s : State) : Hushed s (stepFault c s) := by
  unfold stepFault
  split
  · exact .refl s
  · split
    · exact (hushed_withdrawStep _ s).trans (.trans (hushed_setStep rfl _) (.trans (hushed_handFault _ _) (hushed_report _ _)))
    · exact .refl s

theorem hushed_stepCancelled (n : Option Nat) (s : State) : Hushed s (stepOutcome n .cancelled s) := by
  unfold stepOutcome
  split
  · exact .refl s
  · split
    · exact hushed_stepFault _ s
    · exact .refl s

theorem hushed_endGrant (c : GrantCause) (s : State) : Hushed s (endGrant c s) := by
  unfold endGrant
  split
  · exact .refl s
  · have h : Hushed s (s.setBuild { s.build with grant := .free }) := { Hushed.refl s with grant := fun _ => rfl, told := id }
    exact h.trans (hushed_report _ _)

theorem hushed_clampBuild (c : StepCause) (s : State) : Hushed s (clampBuild c s) := by
  have h : ∀ u, Hushed u (holdUnowned u) := fun u => { Hushed.refl u with told := id }
  exact (hushed_stepFault c s).trans (h _)

/-! ## The requests (R157) -/

theorem hushed_askIdentify (p : PortNo) (s : State) : Hushed s (askIdentify p s) := by
  unfold askIdentify
  split
  · refine hushed_placeItem ?_ s
    exact nofun
  · exact .refl s

theorem hushed_endCancelled {e : Entry} (h : e.origin ≠ .safe) (s : State) : Hushed s (endEntry e .cancelled s) := by
  have h0 : Hushed s (s.setReq (s.req.endWrite e.port e.kind .cancelled)) :=
    hushed_setReq fun w hw _ => by rwa [Requests.endWrite, modWritten_waits] at hw
  unfold endEntry
  rw [recordFailure_cancelled]
  refine h0.trans ?_
  unfold handOutcome
  split
  · exact hushed_report _ _
  · exact .refl _
  · exact .refl _
  · split
    · exact hushed_strokeCancelled _ _ _
    · exact .refl _
  · exact hushed_stepCancelled _ _
  · exact hushed_askIdentify _ _
  · rename_i ho
    exact absurd ho h

theorem hushed_completeFirst {q : Entry → Bool} (h : ∀ e, q e = true → e.origin ≠ .safe) (s : State) :
    Hushed s (completeFirst q .cancelled s) := by
  unfold completeFirst
  split
  · exact .refl s
  · rename_i e rest ht
    have h0 : Hushed s (s.setReq { s.req with table := rest }) := hushed_setReq fun _ hw _ => hw
    exact h0.trans (hushed_endCancelled (h e (takeFirst_some ht).1) _)

theorem hushed_endItem {w : WaitItem} (h : w.origin = .grout ∨ w.origin = .build) (s : State) :
    Hushed s (endItem w .cancelled s) := by
  unfold endItem
  split
  · split
    · exact hushed_strokeCancelled _ _ _
    · exact .refl s
  · exact hushed_stepCancelled _ _
  · rename_i ho
    rcases h with e | e <;> exact absurd (e.symm.trans ho) nofun
  all_goals exact .refl s

theorem hushed_clampRequests (s : State) : Hushed s (clampRequests s) := by
  have hentry : Hushed s (completeAll (fun e => e.origin != .safe && e.state.offLine) .cancelled s) :=
    hushed_foldl _ (fun m _ u => hushed_completeFirst (fun e he => by
      simp only [Bool.and_eq_true, bne_iff_ne] at he
      exact he.2.1) u) s
  have hwaits : ∀ u, Hushed u (completeWaits (fun w => w.origin == .grout || w.origin == .build) .cancelled u) := fun u =>
    Hushed.trans (t := u.setReq (u.req.dropWaits fun w => w.origin == .grout || w.origin == .build))
      (hushed_setReq fun _ hw _ => dropWaits_waits hw)
      (hushed_foldl _ (fun w hw v => hushed_endItem (by simpa using (List.mem_filter.mp hw).2) v) _)
  exact (hentry.trans (hwaits _)).trans (hushed_setReq fun _ hw _ => hw)

/-! ## The tellings -/

/-- The tellings of an entry into CLAMPING or RELEASED start nothing. -/
theorem hushed_clampTellings {c : StepCause} {f : State → State} (h : f ∈ clampTellings c) (s : State) : Hushed s (f s) := by
  simp only [clampTellings, List.mem_cons, List.not_mem_nil, or_false] at h
  rcases h with rfl | rfl | rfl | rfl | rfl | rfl
  · exact hushed_tellOutput s
  · exact (hushed_stopAdvance s).trans (hushed_stopCutter _)
  · exact hushed_clampGrout s
  · exact hushed_clampBuild c s
  · exact hushed_endGrant _ s
  · exact hushed_clampRequests s

/-- What one telling brings and every Hushed operation keeps stands after all of them. -/
theorem clampTellings_brings {c : StepCause} (Q : State → Prop) (hQ : ∀ s t, Hushed s t → Q s → Q t)
    (hb : ∃ f ∈ clampTellings c, ∀ s, Q (f s)) (s : State) : Q (tellAll (clampTellings c) s) := by
  obtain ⟨f, hf, hq⟩ := hb
  exact tellAll_brings (fun _ => True) Q (fun _ _ _ _ => trivial) (fun g hg t _ => hQ t _ (hushed_clampTellings hg t))
    ⟨f, hf, fun t _ => hq t⟩ trivial

/-- The jobs stand stopped once the entry is told, from any state (R169, R171). -/
theorem jobsStopped_clampTellings (c : StepCause) (s : State) : JobsStopped (tellAll (clampTellings c) s) where
  adv := clampTellings_brings (fun t => t.adv.state.active = false)
    (fun _ _ h k => Bool.eq_false_iff.mpr fun ha => absurd (k.symm.trans (h.adv ha)) nofun)
    ⟨clampAdvance, by simp [clampTellings], fun t => by rw [clampAdvance_adv]; exact stopped_not_active _⟩ s
  cutter := clampTellings_brings (fun t => t.adv.cutter = .stopped) (fun _ _ h => h.cutter)
    ⟨clampAdvance, by simp [clampTellings], fun t => by rw [clampAdvance_adv]⟩ s
  lines := clampTellings_brings (fun t => linesRest t.lines)
    (fun _ _ h k i => Bool.eq_false_iff.mpr fun ha => absurd ((k i).symm.trans (h.lines i ha)) nofun)
    ⟨clampGrout, by simp [clampTellings], clampGrout_rest⟩ s
  step := clampTellings_brings (fun t => stepRest t.build) (fun _ _ h => h.step)
    ⟨clampBuild c, by simp [clampTellings], fun t st h => stepFault_rest c t st h⟩ s
  grant := clampTellings_brings (fun t => t.build.grant = .free) (fun _ _ h => h.grant)
    ⟨endGrant .output, by simp [clampTellings], endGrant_free _⟩ s

theorem JobsStopped.hushed {s t : State} (h : JobsStopped s) (k : Hushed s t) : JobsStopped t where
  adv := Bool.eq_false_iff.mpr fun ha => absurd (h.adv.symm.trans (k.adv ha)) nofun
  cutter := k.cutter h.cutter
  lines i := Bool.eq_false_iff.mpr fun ha => absurd ((h.lines i).symm.trans (k.lines i ha)) nofun
  step := k.step h.step
  grant := k.grant h.grant

/-- OUTPUT and the permit stand at STOP once the entry is told (R34). -/
theorem outputTold_clampTellings (c : StepCause) (s : State) : OutputTold (tellAll (clampTellings c) s) :=
  clampTellings_brings OutputTold (fun _ _ h => h.told) ⟨tellOutput, by simp [clampTellings], outputTold_tellOutput⟩ s

theorem hushed_tellAll_clampTellings (c : StepCause) (s : State) : Hushed s (tellAll (clampTellings c) s) := by
  have h : Hushed s (s.setTick (s.tick + 1)) := .same rfl rfl rfl rfl rfl fun _ hw _ => hw
  exact tellAll_keeps (Hushed s) (fun f hf t ht => ht.trans (hushed_clampTellings hf t)) h

end Sys2Proof.Machine

/-! SUPPORT. The requests at an entry into CLAMPING: no job's entry is left off the line, and none has come but the IDENTIFY
requests asked anew. -/

namespace Sys2Proof.Machine

/-- The entry completes CANCELLED at an entry into CLAMPING or RELEASED (R157). -/
def Entry.cancels (e : Entry) : Bool := e.origin != .safe && e.state.offLine

/-- The numbers, in their order, of the entries that complete CANCELLED. -/
def cancelNumbers (l : List Entry) : List Nat := (l.filter Entry.cancels).map (·.seqNo)

theorem cancelNumbers_sublist {l l' : List Entry} (h : l'.Sublist l) : (cancelNumbers l').Sublist (cancelNumbers l) :=
  (h.filter _).map _

theorem cancelNumbers_remove {e : Entry} (h : e.cancels = true) (b a : List Entry) (m : Nat) :
    (cancelNumbers (b ++ e :: a)).count m = (cancelNumbers (b ++ a)).count m + if e.seqNo = m then 1 else 0 := by
  unfold cancelNumbers
  simp only [List.filter_append, List.map_append, List.filter_cons_of_pos h, List.map_cons, List.count_append,
    List.count_cons, beq_iff_eq]
  omega

/-- While the entries of s complete, the numbers ns still to come: the table of t is what is left of the table of s, each
number of an entry that is to complete as often at most as it is still to come, and behind it requests of the ports. -/
structure Clearing (s : State) (ns : List Nat) (t : State) : Prop where
  mode : t.out.mode ≠ .normal
  table : ∃ old new, t.req.table = old ++ new ∧ (∀ e ∈ old, e ∈ s.req.table)
    ∧ (∀ m, (cancelNumbers old).count m ≤ ns.count m) ∧ ∀ e ∈ new, e.origin = .port

section
variable {s t : State} {ns : List Nat}

theorem Clearing.parked {u : State} (h : Clearing s ns t) (k : Parked t u) : Clearing s ns u := by
  obtain ⟨old, new, ht, hs, hc, hn⟩ := h.table
  have hsub := k.table h.mode
  rw [ht, List.sublist_append_iff] at hsub
  obtain ⟨old', new', hu, ho, hw⟩ := hsub
  exact ⟨k.mode h.mode, old', new', hu, fun e he => hs e (ho.subset he),
    fun m => ((cancelNumbers_sublist ho).count_le m).trans (hc m), fun e he => hn e (hw.subset he)⟩

theorem Clearing.askIdentify (h : Clearing s ns t) (p : PortNo) : Clearing s ns (askIdentify p t) := by
  unfold Machine.askIdentify
  split
  · obtain ⟨old, new, ht, hs, hc, hn⟩ := h.table
    obtain ⟨-, htab⟩ := placeItem_action
      (w := ⟨.port, p, .action (.identify (Config.reportPeriod (Config.portClass p)))⟩) rfl t
    refine ⟨h.mode, ?_⟩
    rcases htab with e | e
    · exact ⟨old, new, e.trans ht, hs, hc, hn⟩
    · refine ⟨old, _, by rw [e, ht, List.append_assoc], hs, hc, fun x hx => ?_⟩
      rcases List.mem_append.mp hx with hx | hx
      · exact hn x hx
      · rw [List.mem_singleton.mp hx]
  · exact h

theorem Clearing.endEntry (h : Clearing s ns t) (e : Entry) : Clearing s ns (endEntry e .cancelled t) := by
  have h0 : Clearing s ns (t.setReq (t.req.endWrite e.port e.kind .cancelled)) := by
    obtain ⟨old, new, ht, hs, hc, hn⟩ := h.table
    exact ⟨h.mode, old, new, (endWrite_table ..).trans ht, hs, hc, hn⟩
  unfold Machine.endEntry
  rw [recordFailure_cancelled]
  by_cases ho : e.origin = .port
  · unfold handOutcome
    rw [ho]
    exact h0.askIdentify _
  · exact h0.parked (parked_cancelled ho _)

/-- The oldest entry of sequence number m that completes. -/
def clearOne (t : State) (m : Nat) : State := completeFirst (fun e => e.seqNo == m && e.cancels) .cancelled t

theorem Clearing.clearOne {m : Nat} (h : Clearing s (m :: ns) t) : Clearing s ns (clearOne t m) := by
  obtain ⟨old, new, ht, hs, hc, hn⟩ := h.table
  have hskip : (∀ e ∈ old, (e.seqNo == m && e.cancels) = false) → ∀ k, (cancelNumbers old).count k ≤ ns.count k := by
    intro hl k
    have hk := hc k
    rw [List.count_cons] at hk
    by_cases hmk : m = k
    · subst hmk
      rw [List.count_eq_zero.mpr fun hm => ?_]
      · exact Nat.zero_le _
      · obtain ⟨e, he, hem⟩ := List.mem_map.mp hm
        obtain ⟨het, hec⟩ := List.mem_filter.mp he
        have := hl e het
        simp [hem, hec] at this
    · rwa [if_neg (by simpa using hmk)] at hk
  unfold Machine.clearOne completeFirst
  cases hold : takeFirst (fun e : Entry => e.seqNo == m && e.cancels) old with
  | some z =>
    obtain ⟨e, rest⟩ := z
    obtain ⟨hq, b, a, hba, hrest⟩ := takeFirst_some hold
    rw [Bool.and_eq_true, beq_iff_eq] at hq
    rw [ht, takeFirst_append_of_some new hold]
    refine Clearing.endEntry (t := t.setReq { t.req with table := rest ++ new }) ⟨h.mode, rest, new, rfl, fun x hx => hs x ?_, fun k => ?_, hn⟩ e
    · rw [hrest] at hx
      rw [hba]
      exact ((List.sublist_cons_self e a).append_left b).subset hx
    · have hk := hc k
      rw [hba, cancelNumbers_remove hq.2, hq.1, List.count_cons] at hk
      simp only [beq_iff_eq] at hk
      rw [hrest]
      omega
  | none =>
    have hl := takeFirst_none hold
    rw [ht, takeFirst_append_of_none new hl]
    cases hnew : takeFirst (fun e : Entry => e.seqNo == m && e.cancels) new with
    | none => exact ⟨h.mode, old, new, ht, hs, hskip hl, hn⟩
    | some z =>
      obtain ⟨e, rest⟩ := z
      obtain ⟨-, b, a, hba, hrest⟩ := takeFirst_some hnew
      refine Clearing.endEntry (t := t.setReq { t.req with table := old ++ rest }) ⟨h.mode, old, rest, rfl, hs, hskip hl, fun x hx => hn x ?_⟩ e
      rw [hrest] at hx
      rw [hba]
      exact ((List.sublist_cons_self e a).append_left b).subset hx

/-- The table of t holds of the table of s what does not complete, and requests of the ports. -/
structure Cleared (s t : State) : Prop where
  mode : t.out.mode ≠ .normal
  table : ∀ e ∈ t.req.table, e.origin = .port ∨ e ∈ s.req.table ∧ e.cancels = false

theorem Cleared.parked {u : State} (h : Cleared s t) (k : Parked t u) : Cleared s u :=
  ⟨k.mode h.mode, fun e he => h.table e ((k.table h.mode).subset he)⟩

theorem Clearing.foldl (h : Clearing s ns t) : Cleared s (ns.foldl Machine.clearOne t) := by
  induction ns generalizing t with
  | cons m ns ih => exact ih h.clearOne
  | nil =>
    obtain ⟨old, new, ht, hs, hc, hn⟩ := h.table
    refine ⟨h.mode, fun e he => ?_⟩
    rw [List.foldl_nil, ht] at he
    rcases List.mem_append.mp he with he | he
    · refine .inr ⟨hs e he, Bool.eq_false_iff.mpr fun hcan => ?_⟩
      have hpos := List.count_pos_iff.mpr (List.mem_map_of_mem (f := (·.seqNo)) (List.mem_filter.mpr ⟨he, hcan⟩))
      have := hc e.seqNo
      rw [List.count_nil] at this
      unfold cancelNumbers at this
      omega
    · exact .inl (hn e he)

end

theorem parked_endItem {w : WaitItem} (h : w.origin = .grout ∨ w.origin = .build) (s : State) :
    Parked s (endItem w .cancelled s) := by
  unfold endItem
  split
  · split
    · exact parked_strokeCancelled _ _ _
    · exact .refl s
  · exact parked_stepCancelled _ _
  · rename_i ho
    rcases h with e | e <;> exact absurd (e.symm.trans ho) nofun
  all_goals exact .refl s

theorem Cleared.endItems {s t : State} (l : List WaitItem) (hl : ∀ w ∈ l, w.origin = .grout ∨ w.origin = .build)
    (h : Cleared s t) : Cleared s (l.foldl (fun u w => endItem w .cancelled u) t) := by
  induction l generalizing t with
  | nil => exact h
  | cons w l ih =>
    exact ih (fun x hx => hl x (List.mem_cons_of_mem _ hx)) (h.parked (parked_endItem (hl w List.mem_cons_self) t))

/-- The Request Unit's telling leaves no job's entry off the line (R157). -/
theorem cleared_clampRequests {s : State} (h : s.out.mode ≠ .normal) : Cleared s (clampRequests s) := by
  have hentries : Cleared s (completeAll (fun e => e.origin != .safe && e.state.offLine) .cancelled s) :=
    Clearing.foldl (ns := cancelNumbers s.req.table) ⟨h, s.req.table, [], (List.append_nil _).symm, fun _ => id,
      fun _ => Nat.le_refl _, nofun⟩
  unfold clampRequests
  dsimp only
  generalize completeAll (fun e => e.origin != .safe && e.state.offLine) .cancelled s = u at hentries ⊢
  have hwaits : Cleared s (completeWaits (fun w => w.origin == .grout || w.origin == .build) .cancelled u) := by
    unfold completeWaits
    exact Cleared.endItems _ (fun w hw => by simpa using (List.mem_filter.mp hw).2) ⟨hentries.mode, hentries.table⟩
  exact ⟨hwaits.mode, hwaits.table⟩

/-! ## The other tellings register nothing -/

theorem parked_dropStroke (i : LineNo) (s : State) : Parked s (dropStroke i s) := by
  have hreq : ∀ r : Requests, r.image = s.req.image → r.table.Sublist s.req.table →
      Parked s (setLine i { (s.setReq r).line i with phase := .none } (s.setReq r)) := fun r hi ht =>
    ⟨id, fun _ => hi, fun _ => ht⟩
  unfold dropStroke
  split
  · exact hreq _ rfl (.refl _)
  · split
    · exact .refl s
    · exact hreq _ rfl List.filter_sublist
  all_goals exact .refl s

theorem parked_leaveTrack (i : LineNo) (s : State) : Parked s (leaveTrack i s) := by
  unfold leaveTrack
  split
  · exact .same rfl rfl
  · exact .refl s

theorem parked_stopLine (i : LineNo) (s : State) : Parked s (stopLine i s) :=
  (parked_setLine i (s.line i).rest s).trans
    ((parked_dropStroke i _).trans ((parked_leaveTrack i _).trans (parked_moveLine _ _ _ _ _)))

theorem parked_clampGrout (s : State) : Parked s (clampGrout s) :=
  (parked_foldl (fun s i => by
    split
    · exact parked_stopLine i s
    · exact .refl s) _ _).trans (parked_writeGrout _)

/-- Every telling of an entry into CLAMPING but the Request Unit's registers nothing. -/
theorem parked_clampTellings {c : StepCause} {f : State → State} (h : f ∈ clampTellings c) (s : State) :
    f = clampRequests ∨ Parked s (f s) := by
  simp only [clampTellings, List.mem_cons, List.not_mem_nil, or_false] at h
  rcases h with rfl | rfl | rfl | rfl | rfl | rfl
  · exact .inr (parked_tellOutput s)
  · exact .inr ((parked_stopAdvance s).trans (parked_stopCutter _))
  · exact .inr (parked_clampGrout s)
  · exact .inr ((parked_stepFault c s).trans (.same rfl rfl))
  · exact .inr (parked_endGrant _ s)
  · exact .inl rfl

/-- Outside NORMAL, with a table drawn from that of s and from requests of the ports. -/
structure Drawn (s t : State) : Prop where
  mode : t.out.mode ≠ .normal
  table : ∀ e ∈ t.req.table, e.origin = .port ∨ e ∈ s.req.table

/-- Once an entry into CLAMPING is told, no job's entry is off the line (R157). -/
theorem cleared_tellAll {c : StepCause} {s : State} (h : s.out.mode ≠ .normal) :
    Cleared s (tellAll (clampTellings c) s) := by
  have hdrawn : ∀ t, Drawn s t → Cleared s (clampRequests t) := fun t k =>
    have hc := cleared_clampRequests k.mode
    ⟨hc.mode, fun e he => (hc.table e he).elim .inl fun hs => (k.table e hs.1).imp_right fun hm => ⟨hm, hs.2⟩⟩
  refine tellAll_brings (Drawn s) (Cleared s) (fun f hf t k => ?_) (fun f hf t k hk => ?_)
    ⟨clampRequests, by simp [clampTellings], hdrawn⟩ ⟨h, fun _ => .inr⟩
  · rcases parked_clampTellings hf t with rfl | hp
    · have hc := hdrawn t k
      exact ⟨hc.mode, fun e he => (hc.table e he).imp_right And.left⟩
    · exact ⟨hp.mode k.mode, fun e he => k.table e ((hp.table k.mode).subset he)⟩
  · rcases parked_clampTellings hf t with rfl | hp
    · exact hdrawn t k
    · exact hk.parked hp

end Sys2Proof.Machine

/-! SUPPORT. The safe writes at an entry into CLAMPING, whatever stands of the requests: each port's is asked, or from CLAMPED
the one that still stands is kept. -/

namespace Sys2Proof.Machine

/-! ## Which safe writes stand (R169) -/

theorem isSafeWrite_origin {o : Origin} {k : ReqKind} (h : isSafeWrite o k = true) : o = .safe := by
  unfold isSafeWrite at h
  split at h
  · rfl
  · exact absurd h nofun

theorem safeStands_iff (r : Requests) (p : PortNo) : r.safeStands p = true ↔
    (∃ e ∈ r.table, e.port = p ∧ isSafeWrite e.origin e.kind = true)
      ∨ ∃ w ∈ r.waits, w.port = p ∧ isSafeWrite w.origin w.kind = true := by
  simp [Requests.safeStands]

/-- No safe write stands that did not stand before, when no request of origin SAFE has come. -/
theorem safeStands_of_subset {r r' : Requests} {p : PortNo} (ht : ∀ e ∈ r'.table, e.origin = .safe → e ∈ r.table)
    (hw : ∀ w ∈ r'.waits, w.origin = .safe → w ∈ r.waits) (h : r'.safeStands p = true) : r.safeStands p = true := by
  rw [safeStands_iff] at h ⊢
  refine h.imp ?_ ?_
  · rintro ⟨e, he, hp, hk⟩
    exact ⟨e, ht e he (isSafeWrite_origin hk), hp, hk⟩
  · rintro ⟨w, hm, hp, hk⟩
    exact ⟨w, hw w hm (isSafeWrite_origin hk), hp, hk⟩

/-! ## One safe write is asked (R150, R159) -/

/-- The port's safe write is placed with the Request Unit. -/
def placeSafe (p : PortNo) (s : State) : State := (placeItem ⟨.safe, p, .write (safePairs s p)⟩ s).1

/-- In CLAMPING a safe write of a port in service is registered, or waits for room. -/
theorem placeSafe_cases {p : PortNo} {s : State} (hm : s.out.mode = .clamping) (hu : s.portUp p = true) :
    placeSafe p s = s.setReq (s.req.enter .safe none p (.write (safePairs s p)))
      ∨ placeSafe p s = s.setReq (({ s.req with waits := s.req.waits ++ [⟨.safe, p, .write (safePairs s p)⟩] } :
          Requests).modWritten p (.write (safePairs s p)) fun _ => Point.deferred) := by
  have htakes : (s.ports.get p).state.takes .safe (.write (safePairs s p)) = true := by
    have : (s.ports.get p).state.inService = true := hu
    simp [PortState.takes, this]
  have hadmits : s.out.mode.admits .safe = true := by rw [hm]; rfl
  unfold placeSafe placeItem Requests.placeItem
  dsimp only
  rw [htakes, hadmits, Bool.not_true, if_neg Bool.false_ne_true, Bool.and_true]
  split
  · exact .inl rfl
  · exact .inr rfl

/-- What the placing of a port's safe write does. -/
structure SafePlaced (p : PortNo) (pairs : List (Nat × Nat)) (r r' : Requests) : Prop where
  table : ∀ e, e ∈ r'.table → e ∈ r.table ∨ e.origin = .safe
  tableKept : ∀ e ∈ r.table, e ∈ r'.table
  waitsKept : ∀ w ∈ r.waits, w ∈ r'.waits
  stands : ∀ q, r'.safeStands q = true ↔ r.safeStands q = true ∨ q = p
  points : ∀ q i, q ≠ p → r'.point q i = r.point q i

section
variable {s : State} {p : PortNo}

theorem safePlaced_enter (s : State) (p : PortNo) (pairs : List (Nat × Nat)) :
    SafePlaced p pairs s.req (s.req.enter .safe none p (.write pairs)) := by
  have ht := enter_table s.req .safe none p (.write pairs)
  have hw : (s.req.enter .safe none p (.write pairs)).waits = s.req.waits := modWritten_waits ..
  refine ⟨fun e he => ?_, fun e he => ?_, fun w hm => by rwa [hw], fun q => ?_, fun q i hq =>
    point_modWritten_ne _ _ _ _ _ _ (.inl hq)⟩
  · rw [ht, List.mem_append, List.mem_singleton] at he
    exact he.imp_right fun h => by rw [h]
  · rw [ht]
    exact List.mem_append_left _ he
  · unfold Requests.safeStands
    rw [ht, hw]
    simp only [List.any_append, List.any_cons, List.any_nil, isSafeWrite, Bool.and_true, Bool.or_false, Bool.or_eq_true,
      beq_iff_eq, eq_comm (a := q)]
    exact or_right_comm

theorem safePlaced_defer (s : State) (p : PortNo) (pairs : List (Nat × Nat)) :
    SafePlaced p pairs s.req (({ s.req with waits := s.req.waits ++ [⟨.safe, p, .write pairs⟩] } :
      Requests).modWritten p (.write pairs) fun _ => Point.deferred) := by
  have ht := modWritten_table { s.req with waits := s.req.waits ++ [⟨.safe, p, .write pairs⟩] } p (.write pairs)
    fun _ => Point.deferred
  have hw := modWritten_waits { s.req with waits := s.req.waits ++ [⟨.safe, p, .write pairs⟩] } p (.write pairs)
    fun _ => Point.deferred
  refine ⟨fun e he => .inl (by rwa [ht] at he), fun e he => by rwa [ht], fun w hm => ?_, fun q => ?_, fun q i hq =>
    point_modWritten_ne _ _ _ _ _ _ (.inl hq)⟩
  · rw [hw]
    exact List.mem_append_left _ hm
  · unfold Requests.safeStands
    rw [ht, hw]
    simp only [List.any_append, List.any_cons, List.any_nil, isSafeWrite, Bool.and_true, Bool.or_false, Bool.or_eq_true,
      beq_iff_eq, eq_comm (a := q)]
    exact or_assoc.symm

theorem safePlaced_placeSafe (hm : s.out.mode = .clamping) (hu : s.portUp p = true) :
    SafePlaced p (safePairs s p) s.req (placeSafe p s).req := by
  rcases placeSafe_cases hm hu with h | h <;> rw [h]
  · exact safePlaced_enter s p _
  · exact safePlaced_defer s p _

/-- The safe write stands in the table or waits, its points commanded (R159, R169). -/
theorem asked_placeSafe (hm : s.out.mode = .clamping) (hu : s.portUp p = true) :
    SafeAsked p (safePairs s p) (placeSafe p s)
      ∧ (((safePairs s p).map (·.1)).Nodup → SafeCommanded p (safePairs s p) (placeSafe p s)) := by
  rcases placeSafe_cases hm hu with h | h <;> rw [h]
  · have hmem : ∃ e ∈ (s.req.enter .safe none p (.write (safePairs s p))).table,
        e.origin = .safe ∧ e.port = p ∧ e.kind = .write (safePairs s p) := by
      rw [enter_table]
      exact ⟨_, List.mem_append_right _ (List.mem_singleton_self _), rfl, rfl, rfl⟩
    refine ⟨.inl hmem, fun hn => .inl ⟨hmem, fun i v hv => ?_⟩⟩
    rw [State.setReq_req, show (s.req.enter .safe none p (.write (safePairs s p))).point p i
      = ((s.req.register .safe none p (.write (safePairs s p))).point p i).asked v from
        point_modWritten _ p i v _ (fun _ => Point.asked) hn hv]
    exact ⟨rfl, rfl⟩
  · have hmem : (⟨.safe, p, .write (safePairs s p)⟩ : WaitItem) ∈
        (({ s.req with waits := s.req.waits ++ [⟨.safe, p, .write (safePairs s p)⟩] } : Requests).modWritten p
          (.write (safePairs s p)) fun _ => Point.deferred).waits := by
      rw [modWritten_waits]
      exact List.mem_append_right _ (List.mem_singleton_self _)
    refine ⟨.inr hmem, fun hn => .inr ⟨hmem, fun i v hv => ?_⟩⟩
    rw [State.setReq_req, point_modWritten _ p i v _ (fun _ => Point.deferred) hn hv]
    exact ⟨rfl, rfl⟩

end

theorem clampPort_eq (old : OutMode) (s : State) (p : PortNo) : clampPort old s p =
    if s.portUp p = false then s
    else if old = .clamped ∧ s.req.safeStands p = true then markOutstanding p s
    else if safePairs s p = [] then s
    else markOutstanding p (placeSafe p s) := by
  have hask : askSafe true p s = if safePairs s p = [] then s else markOutstanding p (placeSafe p s) := by
    unfold askSafe placeSafe
    cases safePairs s p with
    | nil => rfl
    | cons pair pairs => rfl
  unfold clampPort
  rw [hask]
  cases s.portUp p <;> rfl

/-! ## The ports, one after another (R169) -/

/-- The port's safe write is outstanding from the entry on: there is one to ask, or from CLAMPED one still stands. -/
def outstands (old : OutMode) (s : State) (p : PortNo) : Prop :=
  s.portUp p = true ∧ (safePairs s p ≠ [] ∨ old = .clamped ∧ s.req.safeStands p = true)

/-- A safe write asked of a port, with its points commanded when it names each once. -/
def SafeGiven (p : PortNo) (pairs : List (Nat × Nat)) (t : State) : Prop :=
  SafeAsked p pairs t ∧ ((pairs.map (·.1)).Nodup → SafeCommanded p pairs t)

/-- A state t in which the entry has come to the ports done, from the state s in which it was told. -/
structure Asking (old : OutMode) (s : State) (done : List PortNo) (t : State) : Prop where
  frame : AgreeBut [.req, .out] s t
  out : t.out = { s.out with outstanding := t.out.outstanding }
  outstanding : ∀ p, t.out.outstanding.get p = true ↔ p ∈ done ∧ outstands old s p
  table : ∀ e ∈ t.req.table, e ∈ s.req.table ∨ e.origin = .safe
  stands : ∀ p, t.req.safeStands p = true ↔ s.req.safeStands p = true ∨ p ∈ done ∧ safeDue s p
  asked : ∀ p ∈ done, safeDue s p → old ≠ .clamped ∨ s.req.safeStands p = false → SafeGiven p (safePairs s p) t

theorem SafeGiven.placed {p q : PortNo} {pairs pairs' : List (Nat × Nat)} {s t : State} (h : SafeGiven q pairs' s)
    (k : SafePlaced p pairs s.req t.req) (hq : q ≠ p) : SafeGiven q pairs' t := by
  have htable : (∃ e ∈ s.req.table, e.origin = .safe ∧ e.port = q ∧ e.kind = .write pairs') →
      ∃ e ∈ t.req.table, e.origin = .safe ∧ e.port = q ∧ e.kind = .write pairs' :=
    fun ⟨e, he, hk⟩ => ⟨e, k.tableKept e he, hk⟩
  obtain ⟨ha, hc⟩ := h
  refine ⟨ha.imp htable (k.waitsKept _), fun hn => (hc hn).imp ?_ ?_⟩
  · rintro ⟨he, hp⟩
    refine ⟨htable he, fun i v hv => ?_⟩
    rw [k.points q i hq]
    exact hp i v hv
  · rintro ⟨hw, hp⟩
    refine ⟨k.waitsKept _ hw, fun i v hv => ?_⟩
    rw [k.points q i hq]
    exact hp i v hv

section
variable {old : OutMode} {s t : State} {done : List PortNo} {p : PortNo}

theorem safeDue.outstands (h : safeDue s p) : outstands old s p := ⟨h.1, .inl h.2⟩

theorem Asking.portUp (h : Asking old s done t) (p : PortNo) : t.portUp p = s.portUp p := by
  unfold State.portUp
  rw [show t.ports = s.ports from h.frame .ports (by simp)]

theorem Asking.pairs (h : Asking old s done t) (p : PortNo) : safePairs t p = safePairs s p := by
  unfold safePairs
  rw [h.out, show t.ports = s.ports from h.frame .ports (by simp)]

theorem mem_done_cases {q : PortNo} (h : q ∈ done ++ [p]) : q ∈ done ∨ q = p :=
  (List.mem_append.mp h).imp_right List.mem_singleton.mp

theorem Asking.skip (h : Asking old s done t) (ho : ¬ outstands old s p) : Asking old s (done ++ [p]) t := by
  refine ⟨h.frame, h.out, fun q => ?_, h.table, fun q => ?_, fun q hq hd => ?_⟩
  · rw [h.outstanding]
    exact ⟨fun k => ⟨List.mem_append_left _ k.1, k.2⟩,
      fun k => ⟨(mem_done_cases k.1).resolve_right fun e => ho (e ▸ k.2), k.2⟩⟩
  · rw [h.stands]
    exact or_congr_right ⟨fun k => ⟨List.mem_append_left _ k.1, k.2⟩,
      fun k => ⟨(mem_done_cases k.1).resolve_right fun e => ho (e ▸ k.2.outstands), k.2⟩⟩
  · exact h.asked q ((mem_done_cases hq).resolve_right fun e => ho (e ▸ hd.outstands)) hd

theorem markOutstanding_get (p q : PortNo) (s : State) :
    (markOutstanding p s).out.outstanding.get q = true ↔ q = p ∨ s.out.outstanding.get q = true := by
  change (put s.out.outstanding p true).get q = true ↔ _
  rw [get_put]
  split
  · rename_i e
    exact iff_of_true rfl (.inl e.symm)
  · rename_i e
    exact (or_iff_right (Ne.symm e)).symm

theorem mem_done_or (q : PortNo) (ho : outstands old s p) :
    q = p ∨ q ∈ done ∧ outstands old s q ↔ q ∈ done ++ [p] ∧ outstands old s q := by
  rw [List.mem_append, List.mem_singleton]
  constructor
  · rintro (rfl | ⟨hq, hs⟩)
    · exact ⟨.inr rfl, ho⟩
    · exact ⟨.inl hq, hs⟩
  · rintro ⟨hq | hq, hs⟩
    · exact .inr ⟨hq, hs⟩
    · exact .inl hq

/-- From CLAMPED, a safe write that still stands is kept, and is outstanding (R169). -/
theorem Asking.keep (h : Asking old s done t) (ho : outstands old s p)
    (hk : old = .clamped ∧ s.req.safeStands p = true) : Asking old s (done ++ [p]) (markOutstanding p t) := by
  refine ⟨h.frame.trans (agree_setOut (by simp) _ t), ?_, fun q => ?_, h.table, fun q => ?_, fun q hq hd hs => ?_⟩
  · change { t.out with outstanding := put t.out.outstanding p true } = _
    rw [h.out]
    rfl
  · rw [markOutstanding_get, h.outstanding]
    exact mem_done_or q ho
  · refine (h.stands q).trans ⟨Or.imp_right fun k => ⟨List.mem_append_left _ k.1, k.2⟩, fun k => ?_⟩
    rcases k with k | ⟨hq, hd⟩
    · exact .inl k
    · rcases mem_done_cases hq with hq | rfl
      · exact .inr ⟨hq, hd⟩
      · exact .inl hk.2
  · rcases mem_done_cases hq with hq | rfl
    · exact h.asked q hq hd hs
    · rcases hs with hs | hs
      · exact absurd hk.1 hs
      · exact absurd (hk.2.symm.trans hs) nofun

/-- A safe write is asked, and is outstanding (R169). -/
theorem Asking.place (h : Asking old s done t) (hm : s.out.mode = .clamping) (hd : safeDue s p) (hp : p ∉ done) :
    Asking old s (done ++ [p]) (markOutstanding p (placeSafe p t)) := by
  have hmt : t.out.mode = .clamping := by
    rw [h.out]
    exact hm
  have hut : t.portUp p = true := (h.portUp p).trans hd.1
  have hplaced := safePlaced_placeSafe hmt hut
  have hgiven := asked_placeSafe hmt hut
  rw [h.pairs] at hplaced hgiven
  refine ⟨h.frame.trans ((agree_setReq (by simp) _ t).trans (agree_setOut (by simp) _ _)), ?_, fun q => ?_, fun e he => ?_,
    fun q => ?_, fun q hq hdq hs => ?_⟩
  · change { t.out with outstanding := put t.out.outstanding p true } = _
    rw [h.out]
    rfl
  · rw [markOutstanding_get]
    change q = p ∨ t.out.outstanding.get q = true ↔ _
    rw [h.outstanding]
    exact mem_done_or q hd.outstands
  · exact (hplaced.table e he).elim (h.table e) .inr
  · refine (hplaced.stands q).trans ?_
    rw [h.stands]
    constructor
    · rintro ((k | ⟨hq, k⟩) | rfl)
      · exact .inl k
      · exact .inr ⟨List.mem_append_left _ hq, k⟩
      · exact .inr ⟨by simp, hd⟩
    · rintro (k | ⟨hq, k⟩)
      · exact .inl (.inl k)
      · exact (mem_done_cases hq).imp (fun hq => .inr ⟨hq, k⟩) id
  · rcases mem_done_cases hq with hq | rfl
    · exact (h.asked q hq hdq hs).placed (t := placeSafe p t) hplaced fun e => hp (e ▸ hq)
    · exact hgiven

theorem Asking.clampPort (h : Asking old s done t) (hm : s.out.mode = .clamping) (hp : p ∉ done) :
    Asking old s (done ++ [p]) (clampPort old t p) := by
  have hstands : t.req.safeStands p = true ↔ s.req.safeStands p = true :=
    (h.stands p).trans (or_iff_left fun k => hp k.1)
  rw [clampPort_eq, h.portUp, h.pairs]
  split
  · rename_i hu
    exact h.skip fun ho => absurd (ho.1.symm.trans hu) nofun
  rename_i hu
  rw [Bool.not_eq_false] at hu
  split
  · rename_i hk
    have hk' := hk.imp_right hstands.mp
    exact h.keep ⟨hu, .inr hk'⟩ hk'
  rename_i hk
  split
  · rename_i hnil
    exact h.skip fun ho => ho.2.elim (fun k => k hnil) fun k => hk (k.imp_right hstands.mpr)
  · rename_i hne
    exact h.place hm ⟨hu, hne⟩ hp

theorem Asking.foldl (l : List PortNo) (h : Asking old s done t) (hm : s.out.mode = .clamping) (hn : (done ++ l).Nodup) :
    Asking old s (done ++ l) (l.foldl (Machine.clampPort old) t) := by
  induction l generalizing done t with
  | nil => rwa [List.append_nil]
  | cons p l ih =>
    have hp : p ∉ done := fun hd => (List.nodup_append.mp hn).2.2 p hd p (by simp) rfl
    rw [List.append_cons] at hn ⊢
    exact ih (h.clampPort hm hp) hn

/-- The safe writes of all ports, asked from a state in CLAMPING with none outstanding (R169). -/
theorem asking_registerSafe (old : OutMode) {s : State} (hm : s.out.mode = .clamping)
    (ho : ∀ p, s.out.outstanding.get p = false) : Asking old s (List.finRange 16) (registerSafe old s) := by
  have h0 : Asking old s [] s :=
    ⟨.refl _ s, rfl, fun p => by simp [ho], fun _ => .inl, fun p => by simp, nofun⟩
  exact h0.foldl (List.finRange 16) hm (List.nodup_finRange 16)

end

end Sys2Proof.Machine

/-! SUPPORT. CLAMP, RESUME and the emergency stop: the entry into CLAMPING, from its tellings to CLAMPED, and its rule. -/

namespace Sys2Proof.Machine

/-! ## The entry is told (R169) -/

/-- The state once an entry into CLAMPING for a cause is told, before its safe writes are asked. -/
def clampTold (c : OutCause) (s : State) : State := tellAll (clampTellings .clamped) (setMode .clamping c s)

/-- What the tellings of an entry into CLAMPING leave. -/
structure ClampTold (s : State) (c : OutCause) (t : State) : Prop where
  kept : ResetFrom resetReach s t
  out : t.out = { s.out with mode := .clamping, cause := c, faults := t.out.faults }
  jobs : JobsStopped t
  told : OutputTold t
  table : ∀ e ∈ t.req.table, e.origin = .port ∨ e ∈ s.req.table ∧ e.cancels = false
  waits : ∀ w ∈ t.req.waits, w.origin = .safe → w ∈ s.req.waits

theorem clampTold_spec (c : OutCause) {s : State} (h : ∀ p, s.out.outstanding.get p = false) :
    ClampTold s c (clampTold c s) where
  kept := by
    have h0 : ResetFrom resetReach s ((setMode .clamping c s).setTick ((setMode .clamping c s).tick + 1)) :=
      ResetFrom.trans (t := setMode .clamping c s) (resetFrom_setOut rfl rfl) (resetFrom_setTick _ _)
    exact tellAll_keeps (ResetFrom resetReach s) (fun f hf t ht => ht.trans (inside_clampTellings hf t).resetFrom) h0
  out := clampTellings_out (c := .clamped) (s := setMode .clamping c s) h
  jobs := jobsStopped_clampTellings _ _
  told := outputTold_clampTellings _ _
  table := (cleared_tellAll (c := .clamped) (s := setMode .clamping c s) nofun).table
  waits := (hushed_tellAll_clampTellings .clamped (setMode .clamping c s)).waits

section
variable {s t u : State} {c : OutCause}

theorem ResetFrom.portUp {ps : List Part} (h : ResetFrom ps s t) (hp : .ports ∉ ps) (p : PortNo) :
    t.portUp p = s.portUp p := by
  unfold State.portUp
  rw [show t.ports = s.ports from h.frame .ports hp]

theorem ports_not_mem_resetReach : Part.ports ∉ resetReach := by simp [resetReach, permitReach]

/-- No safe write has come with the tellings. -/
theorem ClampTold.stands (h : ClampTold s c t) {p : PortNo} (hs : t.req.safeStands p = true) :
    s.req.safeStands p = true :=
  safeStands_of_subset (fun e he ho => ((h.table e he).resolve_left fun hp => nomatch ho.symm.trans hp).1) h.waits hs

/-! ## The safe writes are asked, and the change reported (R168, R169) -/

/-- What stands from the report of the change on, in CLAMPING and in CLAMPED. -/
structure ClampStands (s : State) (c : OutCause) (t : State) : Prop where
  kept : ResetFrom resetReach s t
  cause : t.out.cause = c
  jobs : JobsStopped t
  told : OutputTold t
  onLine : ∀ e ∈ t.req.table, e.origin ≠ .safe → e.origin ≠ .port → e.state.offLine = false
  outstanding : ∀ p, t.out.outstanding.get p = true ↔
    s.portUp p = true ∧ (safePairs s p ≠ [] ∨ s.out.mode = .clamped ∧ t.req.safeStands p = true)
  given : ∀ p, safeDue s p → t.req.safeStands p = true
    ∧ (s.out.mode ≠ .clamped ∨ s.req.safeStands p = false → SafeGiven p (safePairs s p) t)
  reported : Reported (.outputMode s.out.mode .clamping c t.out.estop t.out.outstandingCount) t

theorem JobsStopped.congr (h : JobsStopped s) (ha : t.adv = s.adv) (hl : t.lines = s.lines) (hb : t.build = s.build) :
    JobsStopped t := by
  obtain ⟨h1, h2, h3, h4, h5⟩ := h
  exact ⟨ha ▸ h1, ha ▸ h2, hl ▸ h3, hb ▸ h4, hb ▸ h5⟩

theorem Asking.clampStands (h : ClampTold s c t) (k : Asking s.out.mode t (List.finRange 16) u) :
    ClampStands s c (reportMode s.out.mode u) := by
  have hpairs : ∀ p, safePairs t p = safePairs s p := h.kept.pairs ports_not_mem_resetReach
  have hup : ∀ p, t.portUp p = s.portUp p := h.kept.portUp ports_not_mem_resetReach
  have hdue : ∀ p, safeDue t p ↔ safeDue s p := h.kept.due ports_not_mem_resetReach
  have hmode : u.out.mode = .clamping := by rw [k.out, h.out]
  have hcause : u.out.cause = c := by rw [k.out, h.out]
  have hstands : ∀ p, u.req.safeStands p = true ↔ t.req.safeStands p = true ∨ safeDue s p := fun p =>
    (k.stands p).trans (by rw [hdue, and_iff_right (List.mem_finRange p)])
  refine ⟨?_, hcause, ?_, ?_, fun e he hs hp => ?_, fun p => ?_, fun p hd => ⟨(hstands p).mpr (.inr hd), fun ho => ?_⟩, ?_⟩
  · exact (h.kept.trans (resetFrom_of_agree k.frame (by rw [k.out]) (by rw [k.out]))).trans (inside_report _ u).resetFrom
  · exact h.jobs.congr (k.frame .adv (by simp)) (k.frame .lines (by simp)) (k.frame .build (by simp))
  · have hu : OutputTold u := h.told.congr (by rw [k.out]) (by rw [k.out]) (k.frame .permit (by simp))
    exact hu
  · rcases k.table e he with he | he
    · rcases h.table e he with he | ⟨-, he⟩
      · exact absurd he hp
      · unfold Entry.cancels at he
        rwa [bne_iff_ne.mpr hs, Bool.true_and] at he
    · exact absurd he hs
  · change u.out.outstanding.get p = true ↔ _ ∧ (_ ∨ _ ∧ u.req.safeStands p = true)
    rw [k.outstanding, and_iff_right (List.mem_finRange p), hstands]
    unfold outstands
    rw [hup, hpairs]
    refine and_congr_right fun hu => ?_
    by_cases hne : safePairs s p = []
    · have : ¬ safeDue s p := fun hd => hd.2 hne
      rw [or_iff_left this]
    · exact iff_of_true (.inl hne) (.inl hne)
  · rw [← hpairs]
    have hsg := k.asked p (List.mem_finRange p) ((hdue p).mpr hd)
      (ho.imp_right fun hn => Bool.eq_false_iff.mpr fun ht => absurd (hn.symm.trans (h.stands ht)) nofun)
    exact hsg
  · have hr : reportMode s.out.mode u =
        report (.outputMode s.out.mode .clamping c u.out.estop u.out.outstandingCount) u := by
      unfold reportMode
      rw [hmode, hcause]
    rw [hr]
    exact reported_report _ _

/-! ## CLAMPED, when no safe write is outstanding (R169, R170) -/

theorem hushed_enterClamped (s : State) : Hushed (s.setOut { s.out with mode := .clamped }) (enterClamped s) :=
  (hushed_tellOutput _).trans (hushed_report _ _)

theorem outputTold_enterClamped (s : State) : OutputTold (enterClamped s) :=
  (hushed_report _ _).told (outputTold_tellOutput (s.setOut { s.out with mode := .clamped }))

theorem resetFrom_enterClamped (s : State) : ResetFrom resetReach s (enterClamped s) :=
  ResetFrom.trans (t := s.setOut { s.out with mode := .clamped }) (resetFrom_setOut rfl rfl)
    (inside_enterClamped s).resetFrom

theorem ClampStands.passOn (h : ClampStands s c t) (hm : t.out.mode = .clamping)
    (hno : ∀ p, t.out.outstanding.get p = false) : ClampStands s c (enterClamped t) := by
  have hout := enterClamped_out t
  have hnone : ∀ p, ¬ (s.portUp p = true ∧ (safePairs s p ≠ [] ∨ s.out.mode = .clamped ∧ t.req.safeStands p = true)) :=
    fun p hp => absurd (((h.outstanding p).mpr hp).symm.trans (hno p)) nofun
  have htable : ∀ e ∈ (enterClamped t).req.table, e ∈ t.req.table := fun e he =>
    ((parked_enterClamped t).table (by rw [hm]; exact nofun)).subset he
  have hstands : ∀ p, (enterClamped t).req.safeStands p = true → t.req.safeStands p = true := fun p =>
    safeStands_of_subset (fun e he _ => htable e he) (hushed_enterClamped t).waits
  have hjobs : JobsStopped (t.setOut { t.out with mode := .clamped }) := h.jobs.congr rfl rfl rfl
  refine ⟨h.kept.trans (resetFrom_enterClamped t), by rw [hout]; exact h.cause, hjobs.hushed (hushed_enterClamped t),
    outputTold_enterClamped t, fun e he => h.onLine e (htable e he), fun p => ?_,
    fun p hd => absurd ⟨hd.1, .inl hd.2⟩ (hnone p), ?_⟩
  · rw [hout]
    refine iff_of_false (fun hp => absurd (hp.symm.trans (hno p)) nofun) fun hp => hnone p ⟨hp.1, ?_⟩
    exact hp.2.imp_right (And.imp_right (hstands p))
  · rw [hout]
    exact h.reported.grown (resetFrom_enterClamped t).grown

end

/-- An entry into CLAMPING done: it waits for the safe writes outstanding, or has passed on to CLAMPED. -/
structure ClampEntered (s : State) (c : OutCause) (t : State) : Prop extends ClampStands s c t where
  mode : (t.out.mode = .clamping ∧ ∃ p, t.out.outstanding.get p = true)
    ∨ (t.out.mode = .clamped ∧ ∀ p, t.out.outstanding.get p = false)
  passedOn : t.out.mode = .clamped → Reported (.outputMode .clamping .clamped c t.out.estop 0) t

/-- The end of an entry: CLAMPED with no safe write outstanding (R169). -/
def finishedClamp (t : State) : State := if t.out.outstandingCount = 0 then enterClamped t else t

theorem enterClamping_eq (c : OutCause) (s : State) : enterClamping c s =
    finishedClamp (reportMode s.out.mode (registerSafe s.out.mode (clampTold c s))) := rfl

theorem reportMode_out (old : OutMode) (s : State) : (reportMode old s).out = s.out := rfl

theorem clampEntered {s : State} (c : OutCause) (h : ∀ p, s.out.outstanding.get p = false) :
    ClampEntered s c (enterClamping c s) := by
  have htold := clampTold_spec c h
  have hm : (clampTold c s).out.mode = .clamping := by rw [htold.out]
  have hask := asking_registerSafe s.out.mode hm (by rw [htold.out]; exact h)
  have hstands := hask.clampStands htold
  have hmode : (registerSafe s.out.mode (clampTold c s)).out.mode = .clamping := by rw [hask.out, hm]
  rw [enterClamping_eq]
  generalize registerSafe s.out.mode (clampTold c s) = u at hstands hmode
  rw [← reportMode_out s.out.mode u] at hmode
  unfold finishedClamp
  generalize reportMode s.out.mode u = t at hstands hmode ⊢
  split
  · rename_i h0
    have hno := (outstandingCount_eq_zero_iff _).mp h0
    have hrep := enterClamped_reported t
    rw [h0, hstands.cause] at hrep
    refine ⟨hstands.passOn hmode hno, .inr ?_, fun _ => ?_⟩
    · rw [enterClamped_out]
      exact ⟨rfl, hno⟩
    · rw [enterClamped_out]
      exact hrep
  · rename_i h0
    exact ⟨hstands, .inl ⟨hmode, (outstandingCount_ne_zero_iff _).mp h0⟩, fun e => absurd (hmode.symm.trans e) nofun⟩

end Sys2Proof.Machine

/-! SUPPORT. CLAMP, RESUME and the emergency stop: the rule. -/

namespace Sys2Proof.Machine

section
variable {s t : State} {c : OutCause}

theorem ClampEntered.not_normal (h : ClampEntered s c t) : t.out.mode ≠ .normal := by
  rcases h.mode with ⟨hm, -⟩ | ⟨hm, -⟩ <;> rw [hm] <;> exact nofun

/-- In CLAMPED no port in service has a safe write to ask, nor from CLAMPED one that still stands (R169). -/
theorem ClampEntered.no_safe (h : ClampEntered s c t) (hm : t.out.mode = .clamped) {p : PortNo}
    (hu : s.portUp p = true) : safePairs s p = [] ∧ (s.out.mode = .clamped → t.req.safeStands p = false) := by
  have hno : t.out.outstanding.get p = false :=
    h.mode.elim (fun k => absurd (k.1.symm.trans hm) nofun) fun k => k.2 p
  have hn : ¬ (safePairs s p ≠ [] ∨ s.out.mode = .clamped ∧ t.req.safeStands p = true) := fun k =>
    absurd (((h.outstanding p).mpr ⟨hu, k⟩).symm.trans hno) nofun
  rw [not_or, not_not] at hn
  exact ⟨hn.1, fun hc => Bool.eq_false_iff.mpr fun hs => hn.2 ⟨hc, hs⟩⟩

theorem ResetFrom.agree (h : ResetFrom resetReach s t) : AgreeBut (.link :: .lines :: .out :: .tick :: permitReach) s t :=
  h.frame

end

/-! ## What takes the machine there -/

theorem takeClamp_enters {s : State} (h : s.out.mode = .normal ∨ s.out.mode = .released) :
    takeClamp s = tookMode (enterClamping .host s) := by
  unfold takeClamp
  rcases h with h | h <;> rw [h]

theorem takeClamp_already {s : State} (h : s.out.mode = .clamping ∨ s.out.mode = .clamped) :
    takeClamp s = (s, .already, []) := by
  unfold takeClamp
  rcases h with h | h <;> rw [h] <;> rfl

theorem takeResume_enters {s : State} (h : s.out.mode = .released) :
    takeResume s = tookMode (enterClamping .resume s) := by
  unfold takeResume
  rw [h]

theorem takeResume_wrong {s : State} (h : s.out.mode ≠ .released) : takeResume s = (s, .wrongState, []) := by
  unfold takeResume
  cases hm : s.out.mode
  case released => exact absurd hm h
  all_goals rfl

theorem exec_estopAsserted (s : State) : exec .estopAsserted s = .next (estopAssert s) := rfl

/-- The state with the emergency-stop line at a level, before the mode follows (R167). -/
def withEstop (b : Bool) (s : State) : State := s.setOut { s.out with estop := b }

theorem agree_withEstop {ps : List Part} (h : .out ∈ ps) (b : Bool) (s : State) : AgreeBut ps s (withEstop b s) :=
  agree_setOut h _ s

theorem grown_withEstop (b : Bool) (s : State) : Grown s (withEstop b s) := .of_link rfl

theorem estopAssert_enters {s : State} (he : s.out.estop = false) (hm : s.out.mode ≠ .clamping) :
    estopAssert s = enterClamping .estop (withEstop true s) := by
  unfold estopAssert
  rw [he, if_neg Bool.false_ne_true]
  dsimp only
  split
  · rename_i h
    exact absurd h hm
  all_goals rfl

theorem estopAssert_clamping {s : State} (he : s.out.estop = false) (hm : s.out.mode = .clamping) :
    estopAssert s = changeCause .estop (withEstop true s) := by
  unfold estopAssert
  rw [he, if_neg Bool.false_ne_true]
  dsimp only
  split
  · rfl
  all_goals
    rename_i h
    exact absurd (hm.symm.trans h) nofun

/-- The emergency stop in CLAMPING: the cause changes, and is told and reported (R167, R168). -/
theorem changeCause_spec {c : OutCause} {s : State} (hc : s.out.cause ≠ c) :
    ((changeCause c s).permit.table.get Source.output.idx).cause = c.restriction
      ∧ Reported (.outputMode .clamping .clamping c s.out.estop s.out.outstandingCount) (changeCause c s)
      ∧ Grown s (changeCause c s) ∧ AgreeBut (.link :: .out :: permitReach) s (changeCause c s) := by
  have heq : changeCause c s = reportMode .clamping (tellOutput (setMode .clamping c s)) := if_neg hc
  have hout : (tellOutput (setMode .clamping c s)).out = { s.out with mode := .clamping, cause := c } := tellOutput_out _
  have hagree : AgreeBut (.link :: .out :: permitReach) s (tellOutput (setMode .clamping c s)) :=
    (agree_setOut (by simp) _ s).trans ((agree_writeEntry .output _ _ (setMode .clamping c s)).mono fun p hp => by
      rcases List.mem_cons.mp hp with rfl | hp
      · exact List.mem_cons_self
      · exact List.mem_cons_of_mem _ (List.mem_cons_of_mem _ hp))
  have hgrown : Grown s (tellOutput (setMode .clamping c s)) :=
    Grown.trans (t := setMode .clamping c s) (.of_link rfl) (inside_tellOutput _).grown
  have htold := outputTold_tellOutput (setMode .clamping c s)
  rw [heq]
  generalize tellOutput (setMode .clamping c s) = t at hout hagree hgrown htold
  have hrep : reportMode .clamping t = report (.outputMode .clamping .clamping c s.out.estop s.out.outstandingCount) t := by
    unfold reportMode
    rw [hout]
    rfl
  rw [hrep]
  refine ⟨?_, reported_report _ t, hgrown.trans (grown_report _ t), hagree.trans (agree_setLink (by simp) _ t)⟩
  obtain ⟨-, hcause, -⟩ := htold (by rw [hout]; exact nofun)
  rw [hout] at hcause
  exact hcause

/-- Settles O52: an entry into CLAMPING is told (clampTold_spec), its safe writes are asked (asking_registerSafe) and it
passes on (clampEntered); the emergency stop in CLAMPING changes the cause alone. -/
theorem clampStopsTheMachine : Obligations.ClampStopsTheMachine := by
  unfold Obligations.ClampStopsTheMachine
  intro s clamped reach data
  have hsafe : ∀ p, ((s.out.safe.get p).map (·.1)).Nodup → ((safePairs s p).map (·.1)).Nodup := fun p hn =>
    hn.sublist (List.filter_sublist.map _)
  have hclamped : ∀ b c u l, ClampEntered (withEstop b s) c u → (∀ r, Reported r u → Reported r (u.setLink l)) →
      clamped c (u.setLink l) := fun b c u l h hr => by
    obtain ⟨hlevel, hcause, hpermit⟩ := h.told h.not_normal
    rw [h.cause] at hcause
    exact ⟨h.mode, h.cause, h.jobs.congr rfl rfl rfl, hlevel, hcause, hpermit, h.onLine, h.kept.safe,
      h.kept.frame .muck (by simp [resetReach, permitReach]), h.kept.frame .ports ports_not_mem_resetReach,
      fun _ => h.outstanding, fun hm _ hu => h.no_safe hm hu,
      fun p hu hp => (h.given p ⟨hu, hp⟩).imp_right fun k ho => (k ho).imp_right fun kc hn => kc (hsafe p hn),
      hr _ h.reported, fun hm => hr _ (h.passedOn hm)⟩
  have hanswer : ∀ {i tag hc c u}, hostRow i = some (tag, hc) → handsOn s → takeCommand tag hc s = tookMode u →
      ClampEntered s c u → ∃ t, exec i s = .next t ∧ clamped c t ∧ t.out.estop = s.out.estop
        ∧ Answered reach s t tag hc.code .ok (data t) := fun hrow h ht k =>
    ⟨_, exec_command hrow h ht, hclamped s.out.estop _ _ _ k fun _ hr => hr, k.kept.estop,
      .of_taken k.kept.grown k.kept.agree⟩
  refine ⟨fun hv => ?_, fun he hm hc => ?_, fun tag h hm => ?_, fun tag h hm => ?_⟩
  · have hno : ∀ p, s.out.outstanding.get p = false := fun p => by
      rw [hv]
      exact get_replicate _ _
    refine ⟨fun tag h hm => ?_, fun tag h hm => ?_, fun he hm => ?_⟩
    · exact hanswer (i := .clamp tag) (hc := .clamp) rfl h (takeClamp_enters hm) (clampEntered .host hno)
    · exact hanswer (i := .resume tag) (hc := .resume) rfl h (takeResume_enters hm) (clampEntered .resume hno)
    · have ht := clampEntered (s := withEstop true s) .estop hno
      rw [exec_estopAsserted, estopAssert_enters he hm]
      generalize enterClamping .estop (withEstop true s) = u at ht
      have hg := (grown_withEstop true s).trans ht.kept.grown
      exact ⟨u, rfl, hclamped true _ u u.link ht fun _ => id, ht.kept.estop, hg.replies, hg.link,
        (agree_withEstop (by simp [reach]) true s).trans ht.kept.agree⟩
  · obtain ⟨hcause, hrep, hg, ha⟩ := changeCause_spec (s := withEstop true s) hc
    have hout := changeCause_out .estop (withEstop true s) hm
    rw [exec_estopAsserted, estopAssert_clamping he hm]
    generalize changeCause .estop (withEstop true s) = u at hcause hrep hg ha hout
    have hg' := (grown_withEstop true s).trans hg
    exact ⟨u, rfl, hout, hcause, hrep, hg'.replies, hg'.link, (agree_withEstop (by simp) true s).trans ha⟩
  · exact exec_command (i := .clamp tag) (c := .clamp) rfl h (takeClamp_already hm)
  · exact exec_command (i := .resume tag) (c := .resume) rfl h (takeResume_wrong hm)

end Sys2Proof.Machine

/-! SUPPORT. The chamber sample and the screw law (03): the controlled pressure by the readings that are valid, each step
of a sample, and the law's setpoint by the sign of the error. -/

namespace Sys2Proof.Machine

/-! ## The screw law (R46, R47) -/

theorem screwCeil_clear (st : PSettings) : screwCeil st .clear = st.sMax :=
  Nat.mul_div_cancel _ (by decide : 0 < 1000)

theorem screwCeil_derated (st : PSettings) {muck : Level} (h : muck ≠ .clear) :
    screwCeil st muck = st.sMax * st.dOvx / 1000 := by
  unfold screwCeil
  rw [if_neg h]

/-- The step of the law before the floor and the ceiling hold it: e × G / 256 truncated toward zero, held to R (R46). -/
def screwStep (st : PSettings) (p : Nat) : Int :=
  max (-(st.rate : Int)) (min (st.rate : Int) ((((p : Int) - (st.pSet : Int)) * st.gain).tdiv 256))

theorem screwStep_above {st : PSettings} {p : Nat} (h : st.pSet ≤ p) :
    screwStep st p = (min st.rate ((p - st.pSet) * st.gain / 256) : Nat) := by
  have hq : (((p : Int) - st.pSet) * st.gain).tdiv 256 = ((p - st.pSet) * st.gain / 256 : Nat) := by
    rw [← Int.ofNat_sub h]
    exact (Int.ofNat_tdiv _ 256).symm
  unfold screwStep
  rw [hq]
  omega

/-- The division truncates toward zero, so a falling step is the negative of the rising one. -/
theorem screwStep_below {st : PSettings} {p : Nat} (h : p ≤ st.pSet) :
    screwStep st p = -((min st.rate ((st.pSet - p) * st.gain / 256) : Nat) : Int) := by
  have hq : (((p : Int) - st.pSet) * st.gain).tdiv 256 = -(((st.pSet - p) * st.gain / 256 : Nat) : Int) := by
    rw [← neg_sub (st.pSet : Int), ← Int.ofNat_sub h, neg_mul, Int.neg_tdiv]
    exact congrArg _ (Int.ofNat_tdiv _ 256).symm
  unfold screwStep
  rw [hq]
  omega

theorem screwStep_slew (st : PSettings) (p : Nat) : -(st.rate : Int) ≤ screwStep st p ∧ screwStep st p ≤ st.rate := by
  unfold screwStep
  omega

theorem screwStep_at_setpoint (st : PSettings) : screwStep st st.pSet = 0 := by
  rw [screwStep_above (Nat.le_refl _), Nat.sub_self, Nat.zero_mul]
  simp

/-- A ceiling below the floor is the setpoint itself. -/
theorem screwLaw_of_ceil_lt {st : PSettings} {muck : Level} (h : screwCeil st muck < st.sMin) (p sOld : Nat) :
    screwLaw st muck p sOld = screwCeil st muck := if_pos h

theorem screwLaw_of_floor_le {st : PSettings} {muck : Level} (h : st.sMin ≤ screwCeil st muck) (p sOld : Nat) :
    (screwLaw st muck p sOld : Int) = max (st.sMin : Int) (min (screwCeil st muck : Int) (sOld + screwStep st p)) := by
  have hlaw : screwLaw st muck p sOld =
      (max (st.sMin : Int) (min (screwCeil st muck : Int) (sOld + screwStep st p))).toNat := if_neg (Nat.not_lt.mpr h)
  rw [hlaw]
  omega

theorem screwLaw_le_ceil (st : PSettings) (muck : Level) (p sOld : Nat) :
    screwLaw st muck p sOld ≤ screwCeil st muck := by
  rcases Nat.lt_or_ge (screwCeil st muck) st.sMin with h | h
  · exact (screwLaw_of_ceil_lt h p sOld).le
  · have hv := screwLaw_of_floor_le h p sOld
    omega

/-! ## The telling of the MUCK level (R48) -/

theorem tellMuckLevel_setpoint (l : Level) (s : State) :
    (tellMuckLevel l s).pres.setpoint = min s.pres.setpoint (screwCeil s.pres.active l) := by
  unfold tellMuckLevel
  dsimp only
  split
  · rename_i h
    exact (Nat.min_eq_right h.le).symm
  · rename_i h
    exact (Nat.min_eq_left (Nat.le_of_not_lt h)).symm

/-- Settles O20: by the ceiling against the floor, and then by the sign of the error. -/
theorem screwLawRule : Obligations.ScrewLawRule := by
  unfold Obligations.ScrewLawRule
  refine ⟨fun st muck p sOld => ?_, fun l s =>
    ⟨tellMuckLevel_told l s, tellMuckLevel_setpoint l s, agree_tellMuckLevel l s⟩⟩
  have hlaw := fun h => screwLaw_of_floor_le (st := st) (muck := muck) h p sOld
  have hslew := screwStep_slew st p
  refine ⟨screwCeil_clear st, screwCeil_derated st, fun h => screwLaw_of_ceil_lt h p sOld, fun h hp => ?_, fun h hp => ?_,
    screwLaw_le_ceil st muck p sOld, fun h => ?_, fun hlo hhi => ?_, fun hp hlo hhi => ?_⟩
  · have := hlaw h
    rw [screwStep_above hp] at this
    omega
  · have := hlaw h
    rw [screwStep_below hp] at this
    omega
  · have := hlaw h
    omega
  · have := hlaw (hlo.trans hhi)
    omega
  · have := hlaw (hlo.trans hhi)
    rw [hp, screwStep_at_setpoint] at this
    rw [hp]
    omega

/-! ## The controlled pressure (R42) -/

theorem validValues_cons_valid (a : Nat) (rs : List Reading) : validValues (⟨a, true⟩ :: rs) = a :: validValues rs := rfl

theorem validValues_cons_invalid {r : Reading} (h : r.valid = false) (rs : List Reading) :
    validValues (r :: rs) = validValues rs := by
  unfold validValues
  rw [List.filter_cons_of_neg (by simp [h])]

theorem crownPressure_five (r0 r1 r2 x y : Reading) :
    crownPressure [r0, r1, r2, x, y] = match validValues [r0, r1, r2] with
      | [a, b, c] => some (median3 a b c)
      | [a, b] => some ((a + b) / 2)
      | [a] => some a
      | _ => none := rfl

/-- The middle value stands in the middle, in whatever order the three come. -/
theorem median3_sorted {a b c : Nat} (hab : a ≤ b) (hbc : b ≤ c) :
    median3 a b c = b ∧ median3 a c b = b ∧ median3 b a c = b ∧ median3 b c a = b ∧ median3 c a b = b
      ∧ median3 c b a = b := by
  unfold median3
  omega

/-! ## The steps of a chamber sample (R41, R44, R45, R46) -/

/-- The five readings of a sample as they are stored (R41). -/
theorem chamberReadings_toList {rs : List Reading} (h : rs.length = 5) :
    (chamberReadings rs).toList = rs.map storeChamber := by
  refine List.ext_getElem (by simp [h]) fun i hi _ => ?_
  have hlt : i < rs.length := by simpa [h] using hi
  simp [chamberReadings, hlt]

/-- Steps 1 and 2 of a sample of five readings (R41, R42). -/
theorem sense_five {rs : List Reading} (h : rs.length = 5) (u : Pressure) :
    u.sense rs = { u with
      readings := (u.sense rs).readings, active := u.waiting.getD u.active, waiting := none
      p := (crownPressure (rs.map storeChamber)).getD u.p, held := (crownPressure (rs.map storeChamber)).isNone } := by
  rw [← chamberReadings_toList h]
  rfl

/-- Step 3 of a sample, by the first band that applies (R44). -/
theorem writeLevel_chamber (st : PSettings) (p : Nat) (held : Bool) (u : State) :
    writeLevel .chamber (chamberLevel st p held) u =
      if held then writeEntry .chamber .hold .blind u
      else if st.pSet + st.bH < p then writeEntry .chamber .hold .hardHigh u
      else if p + st.bH < st.pSet then writeEntry .chamber .hold .hardLow u
      else if st.pSet + st.bS < p then writeEntry .chamber .reduced .softHigh u
      else if p + st.bS < st.pSet then writeEntry .chamber .reduced .softLow u
      else writeEntry .chamber .clear .none u := by
  unfold chamberLevel
  simp only [apply_ite fun lc => writeLevel .chamber lc u]
  rfl

/-- P is offered to the record: measured, in a BORING ring, while the advance is BORING or HELD (R45). -/
theorem offerPressure_eq (s : State) :
    offerPressure s = if s.pres.held = false ∧ s.ring.state = .boring ∧ s.adv.state.active = true then
      contribute (Record.offer s.pres.p) s else s := by
  unfold offerPressure
  simp [active_iff, and_assoc]

theorem offerPressure_adv (s : State) : (offerPressure s).adv = s.adv := by
  rw [offerPressure_eq]
  split <;> rfl

theorem offerPressure_pres (s : State) : (offerPressure s).pres = s.pres := by
  rw [offerPressure_eq]
  split <;> rfl

theorem runScrewLaw_of_not_boring {s : State} (h : s.adv.state ≠ .boring) : runScrewLaw s = s := if_neg h

theorem runScrewLaw_of_boring {s : State} (h : s.adv.state = .boring) :
    runScrewLaw s = setScrew (screwLaw s.pres.active s.pres.muckTold s.pres.p s.pres.sOld) s := if_pos h

/-- The law runs on the setpoint of the state that the extremes leave, which is that of the CHAMBER write (R46). -/
theorem runScrewLaw_offered {w : State} (h : w.adv.state = .boring) :
    let t := runScrewLaw (offerPressure w)
    t.pres.setpoint = screwLaw w.pres.active w.pres.muckTold w.pres.p w.pres.sOld ∧ t.pres.sOld = t.pres.setpoint := by
  rw [← offerPressure_adv] at h
  rw [runScrewLaw_of_boring h, offerPressure_pres]
  exact ⟨rfl, rfl⟩

/-- Settles O19: the pressure by the readings that are valid, and then the sample step by step. -/
theorem chamberSampleRule : Obligations.ChamberSampleRule := by
  unfold Obligations.ChamberSampleRule
  refine ⟨fun a b c ra rb rc x y => ?_, fun rs s h => ?_, fun s => ⟨fun h => ?_, fun h0 h1 h2 => ?_⟩⟩
  · simp only [crownPressure_five]
    refine ⟨rfl, median3_sorted, fun ha => ?_, fun ha hb => ?_, fun ha hb hc => ?_⟩
    · simp only [validValues_cons_valid, validValues_cons_invalid ha]
      exact ⟨rfl, rfl, rfl⟩
    · simp only [validValues_cons_valid, validValues_cons_invalid ha, validValues_cons_invalid hb]
      exact ⟨rfl, rfl, rfl⟩
    · rw [validValues_cons_invalid ha, validValues_cons_invalid hb, validValues_cons_invalid hc]
      rfl
  · dsimp only
    rw [← sense_five h, ← writeLevel_chamber]
    have hs : chamberSample rs s = runScrewLaw (offerPressure (writeLevel .chamber
        (chamberLevel (s.pres.waiting.getD s.pres.active) ((crownPressure (rs.map storeChamber)).getD s.pres.p)
          (crownPressure (rs.map storeChamber)).isNone) (s.setPres (s.pres.sense rs)))) := by
      rw [← chamberReadings_toList h]
      rfl
    rw [hs]
    refine ⟨chamberReadings_toList h, rfl, fun hb => runScrewLaw_of_not_boring ?_, runScrewLaw_offered⟩
    rw [offerPressure_adv]
    exact hb
  · rw [offerPressure_eq, if_neg]
    rintro ⟨hm, hr, ha⟩
    rcases h with h | h | h
    · exact absurd (h.symm.trans hm) nofun
    · exact h hr
    · exact absurd (h.symm.trans ha) nofun
  · rw [offerPressure_eq, if_pos ⟨h0, h1, h2⟩]
    rfl

end Sys2Proof.Machine

/-! SUPPORT. What the host reads of the part: the sections of GET_STATUS whose fields are derived, the record that GET_RING
finds, and the four reads. -/

namespace Sys2Proof.Machine

/-! ## The sections of GET_STATUS (R185) -/

theorem ringSection_eq (r : Ring) :
    ringSection r = u8 r.state.code ++ u16 (r.current.elim 0 (·.number)) ++ opt (fun c => u8 c.key.val) r.current
      ++ u8 (r.current.elim 0 (·.placed.length)) ++ opt (fun e => u8 e.1 ++ planBytes e.2) r.next ++ u16 r.lastNumber
      ++ u8 r.queue.length := by
  have hn : r.number = r.current.elim 0 (·.number) := by
    unfold Ring.number
    cases r.current <;> rfl
  have hp : r.placedCount = r.current.elim 0 (·.placed.length) := by
    unfold Ring.placedCount
    cases r.current <;> rfl
  unfold ringSection
  rw [hn, hp]
  rfl

theorem stepCode_eq (st : Option Step) : stepCode st = st.elim 0 (·.state.code) := by
  cases st <;> rfl

/-- The four strap readings stand side by side with the other fields of the port (R146). -/
theorem portBytes_eq (pt : Port) :
    portBytes pt = u8 pt.state.code ++ u8 pt.cause.code ++ u8 (if pt.supply then 0 else 1)
      ++ u8 (if pt.strapRead.d1 then 0 else 1) ++ u8 (if pt.strapRead.d2 then 0 else 1)
      ++ u8 (if pt.strapRead.s1 then 1 else 0) ++ u8 (if pt.strapRead.s2 then 1 else 0)
      ++ opt identityBytes pt.identity ++ u8 pt.noAnswer := by
  unfold portBytes supplyByte strapBytes
  simp only [List.append_assoc]

theorem toList_eq_map_get {α : Type} {n : Nat} (v : Vector α n) : v.toList = (List.finRange n).map v.get :=
  List.ext_getElem (by simp) fun i _ _ => by simp [Vector.get_eq_getElem]

/-- The DIRTY points, counted point by point (R162). -/
theorem dirtyCount_eq (r : Requests) :
    r.dirtyCount = ((List.finRange 16).map fun p =>
      ((List.finRange 16).filter fun i => (r.point p i).state == .dirty).length).sum := by
  unfold Requests.dirtyCount
  simp only [toList_eq_map_get, List.map_map, List.filter_map, List.length_map]
  rfl

/-! ## The record of a number (R108) -/

theorem lookup_current {u : Ring} {r : Record} {number : Nat} (hr : u.current = some r)
    (hn : number = 0 ∨ number = r.number) : u.lookup number = some r := by
  unfold Ring.lookup
  rw [hr]
  exact if_pos hn

/-- A number that is not the current record's is sought in the history; 0 names no record there. -/
theorem lookup_history {u : Ring} {number : Nat}
    (h : ∀ c, u.current = some c → number ≠ 0 ∧ number ≠ c.number) :
    u.lookup number = if number = 0 then none else u.history.find? (·.number == number) := by
  unfold Ring.lookup
  cases hc : u.current with
  | none => rfl
  | some c =>
    obtain ⟨h0, hn⟩ := h c hc
    dsimp only
    rw [if_neg (not_or.mpr ⟨h0, hn⟩), if_neg h0]

theorem takeGetRing_found {s : State} {number : Nat} {r : Record} (h : s.ring.lookup number = some r) :
    takeGetRing number s = (s, .ok, recordData r) := by
  unfold takeGetRing
  rw [h]

theorem takeGetRing_notFound {s : State} {number : Nat} (h : s.ring.lookup number = none) :
    takeGetRing number s = (s, .notFound, []) := by
  unfold takeGetRing
  rw [h]
  rfl

/-! ## The four reads (R185, R186, R162, R108) -/

/-- Settles O46: each read is handed on and answered by its owner; the sections of GET_STATUS whose fields are derived have
a lemma each above. -/
theorem readsChangeNothing : Obligations.ReadsChangeNothing := by
  unfold Obligations.ReadsChangeNothing
  intro tag s h
  dsimp only
  refine ⟨exec_command (c := .getStatus) rfl h ?_, exec_command (c := .getQueues) rfl h rfl,
    fun p => exec_command (c := .sampleOutputs p.val) rfl h (dif_pos p.isLt),
    fun port hp => exec_command (c := .sampleOutputs port) rfl h (dif_neg (Nat.not_lt.mpr hp)),
    fun r number hr hn => exec_command (c := .getRing number) rfl h (takeGetRing_found (lookup_current hr hn)),
    fun r number hc hn hf => exec_command (c := .getRing number) rfl h (takeGetRing_found ?_),
    fun number hc hn => exec_command (c := .getRing number) rfl h (takeGetRing_notFound ?_)⟩
  · change (_, _, statusData s) = _
    unfold statusData requestSection buildSection
    rw [ringSection_eq, stepCode_eq, funext portBytes_eq, dirtyCount_eq]
    rfl
  · rw [lookup_history hc, if_neg hn, hf]
  · rw [lookup_history hc]
    rcases hn with hn | hn
    · exact if_pos hn
    · rw [List.find?_eq_none.mpr fun r hr => by simpa using hn r hr, ite_self]

end Sys2Proof.Machine

/-! SUPPORT. The belt sample (04): the parcels released from the head, the MUCK write by the first row that applies, the
growth of the void allowance, and what of the window stands when it is handed to the record. -/

namespace Sys2Proof.Machine

/-! ## The release (R60) -/

/-- The queue is cut at the first parcel that is not due, and the mass released is that of the parcels before the cut. -/
theorem releaseDue_cut (odo : Nat) : ∀ q : List Parcel, ∃ gone, q = gone ++ (releaseDue odo q).2
    ∧ (∀ p ∈ gone, p.due ≤ odo) ∧ (∀ p rest, (releaseDue odo q).2 = p :: rest → odo < p.due)
    ∧ (releaseDue odo q).1 = queuedMass gone
  | [] => ⟨[], rfl, nofun, nofun, rfl⟩
  | p :: ps => by
    by_cases h : p.due ≤ odo
    · obtain ⟨gone, hq, hdue, hhead, hmass⟩ := releaseDue_cut odo ps
      have hr : releaseDue odo (p :: ps) = (p.mass + (releaseDue odo ps).1, (releaseDue odo ps).2) := if_pos h
      rw [hr]
      refine ⟨p :: gone, congrArg (p :: ·) hq, ?_, hhead, ?_⟩
      · simpa [h] using hdue
      · rw [queuedMass_cons, hmass]
    · have hr : releaseDue odo (p :: ps) = (0, p :: ps) := if_neg h
      rw [hr]
      refine ⟨[], rfl, nofun, fun q rest e => ?_, rfl⟩
      obtain ⟨rfl, -⟩ := List.cons.inj e
      exact Nat.lt_of_not_le h

/-- The parcels that a sample releases are those due at its odometer, and their mass is counted (R58 to R60). -/
theorem weigh_releases (k : Muck) (dcm dkg : Nat) :
    let t := k.weigh dcm dkg
    ∃ gone, k.queue = gone ++ t.queue ∧ (∀ q ∈ gone, q.due ≤ t.odometer)
      ∧ (∀ q rest, t.queue = q :: rest → t.odometer < q.due)
      ∧ t.released = k.released + queuedMass gone
      ∧ t.releasedExp = min (k.releasedExp + queuedMass gone) 4294967295 := by
  obtain ⟨gone, hq, hdue, hhead, hmass⟩ := releaseDue_cut (sat32 k.odometer dcm) k.queue
  exact ⟨gone, hq, hdue, hhead, congrArg (k.released + ·) hmass, congrArg (sat32 k.releasedExp) hmass⟩

/-! ## The MUCK entry (R62) -/

theorem writeLevel_muck (lim : Nat) (e : Int) (s : State) :
    writeLevel .muck (muckLevel lim e) s =
      if (lim : Int) ≤ e then writeEntry .muck .hold .over s
      else if ((lim / 2 : Nat) : Int) ≤ e then writeEntry .muck .reduced .overWarn s
      else if e ≤ -(lim : Int) then writeEntry .muck .reduced .under s
      else writeEntry .muck .clear .none s := by
  unfold muckLevel
  simp only [apply_ite (writeLevel .muck · s)]
  rfl

/-- No write to the Restriction Table changes the balance (R28, R30). -/
theorem writeLevel_keeps_muck (src : Source) (lc : Level × RCause) (s : State) : (writeLevel src lc s).muck = s.muck :=
  agree_writeEntry src lc.1 lc.2 s .muck (by simp [permitReach])

/-! ## The void allowance (R64, R65) -/

/-- The void allowance for the excess of the present window. -/
def State.allowance (s : State) : Nat := voidAllowance s.adv.geometry s.adv.ground s.muck.e.toNat

theorem State.allowance_eq (s : State) :
    s.allowance = min (s.muck.e.toNat * 1000000 / s.adv.ground.rho)
      (s.adv.geometry.aA * (s.adv.geometry.width + s.adv.geometry.clearance) * s.adv.ground.voidCap / 100000) := rfl

/-- The allowance a stored in the window of d and in its record, once the demand for its growth has been taken. -/
def voidStored (a : Nat) (d : State) : State :=
  contribute (fun r => { r with vApplied := min a Config.max32 }) (d.setMuck { d.muck with vApplied := a })

theorem voidStored_eq (a : Nat) (d : State) :
    voidStored a d = (d.setMuck { d.muck with vApplied := a }).setRing { d.ring with
      current := d.ring.current.map fun r => { r with vApplied := min a 4294967295 } } := rfl

theorem voidStored_muck (a : Nat) (d : State) : (voidStored a d).muck = { d.muck with vApplied := a } := rfl

theorem updateVoid_eq (s : State) :
    updateVoid s = if s.ring.state ≠ .none ∧ 0 < s.muck.e then
        if s.muck.vApplied < s.allowance then voidStored s.allowance (takeDemand (s.allowance - s.muck.vApplied) s) else s
      else s := by
  unfold updateVoid State.allowance voidStored
  rfl

theorem updateVoid_of_kept {s : State} (h : s.ring.state = .none ∨ s.muck.e ≤ 0 ∨ s.allowance ≤ s.muck.vApplied) :
    updateVoid s = s := by
  rw [updateVoid_eq]
  rcases h with h | h | h
  · exact if_neg fun k => k.1 h
  · exact if_neg fun k => Int.not_lt.mpr h k.2
  · rw [if_neg (Nat.not_lt.mpr h), ite_self]

theorem updateVoid_of_grown {s : State} (ho : s.ring.state ≠ .none) (he : 0 < s.muck.e)
    (ha : s.muck.vApplied < s.allowance) :
    updateVoid s = voidStored s.allowance (takeDemand (s.allowance - s.muck.vApplied) s) := by
  rw [updateVoid_eq, if_pos ⟨ho, he⟩, if_pos ha]

theorem takeDemand_muck (q : Nat) (s : State) : (takeDemand q s).muck = s.muck := frame_muck (inside_takeDemand q s).frame

/-- The demand that the growth hands on leaves the balance alone: of it only the applied void moves. -/
theorem updateVoid_muck (s : State) : ∃ v, (updateVoid s).muck = { s.muck with vApplied := v } := by
  by_cases h : s.ring.state = .none ∨ s.muck.e ≤ 0 ∨ s.allowance ≤ s.muck.vApplied
  · rw [updateVoid_of_kept h]
    exact ⟨s.muck.vApplied, rfl⟩
  · simp only [not_or, Int.not_le, Nat.not_le] at h
    obtain ⟨ho, he, ha⟩ := h
    rw [updateVoid_of_grown ho he ha, voidStored_muck, takeDemand_muck]
    exact ⟨s.allowance, rfl⟩

/-- What keeps the meter closes no ring. -/
theorem Metered.current {s t : State} (h : Metered s t) {r : Record} (hr : s.ring.current = some r) :
    ∃ r', t.ring.current = some r' := by
  have ha : t.ring.current.map Record.account = some r.account := by
    have hm : t.ring.current.map Record.account = s.ring.current.map Record.account := congrArg Meter.account h.meter
    rw [hm, hr]
    rfl
  obtain ⟨r', hr', -⟩ := Option.map_eq_some_iff.mp ha
  exact ⟨r', hr'⟩

/-! ## The sample (R58, R61) -/

/-- The record is handed the window as it stands after the void allowance, which changes neither the masses nor E. -/
theorem handWindow_updateVoid_current {s : State} {r : Record} (h : s.ring.current = some r) :
    ∃ r', (handWindow (updateVoid s)).ring.current = some r' ∧ r'.measured = s.muck.measured
      ∧ r'.releasedExp = s.muck.releasedExp ∧ r'.finalE = s.muck.e := by
  obtain ⟨v, hv⟩ := updateVoid_muck s
  obtain ⟨r', hr'⟩ := (steady_updateVoid s).current h
  unfold handWindow contribute
  rw [State.setRing_ring, hr', hv]
  exact ⟨_, rfl, rfl, rfl, rfl⟩

theorem handWindow_updateVoid_e (s : State) : (handWindow (updateVoid s)).muck.e = s.muck.e := by
  obtain ⟨v, hv⟩ := updateVoid_muck s
  have hm : (handWindow (updateVoid s)).muck = (updateVoid s).muck := State.setRing_muck _ _
  rw [hm, hv]

/-- Settles O21: the weighing on its own, and then the sample from the state that the MUCK write leaves. -/
theorem beltSampleRule : Obligations.BeltSampleRule := by
  unfold Obligations.BeltSampleRule
  refine ⟨fun k dcm dkg => ⟨rfl, rfl, rfl, rfl, weigh_releases k dcm dkg, rfl, rfl, rfl, rfl⟩, fun dcm dkg s => ?_⟩
  dsimp only
  rw [← writeLevel_muck, ← State.allowance_eq]
  have hs : beltSample dcm dkg s = handWindow (updateVoid (writeLevel .muck
      (muckLevel (s.setMuck (s.muck.weigh dcm dkg)).muck.active.lOvx (s.setMuck (s.muck.weigh dcm dkg)).muck.e)
      (s.setMuck (s.muck.weigh dcm dkg)))) := rfl
  rw [hs]
  generalize s.setMuck (s.muck.weigh dcm dkg) = u
  have hw := writeLevel_keeps_muck .muck (muckLevel u.muck.active.lOvx u.muck.e) u
  generalize writeLevel .muck _ u = w at hw
  rw [← hw]
  exact ⟨rfl, updateVoid_of_kept, fun ho he ha => ⟨takeDemand_muck _ _,
      (updateVoid_of_grown ho he ha).trans (voidStored_eq _ _)⟩,
    handWindow_updateVoid_e w, fun r hr => handWindow_updateVoid_current hr⟩

end Sys2Proof.Machine

/-! SUPPORT. The grout lines (05): what a write to the Restriction Table or a fault record leaves of them and of their
strokes, a stroke issued on a pump in service, and the fault of a line. -/

namespace Sys2Proof.Machine

/-! ## What the jobs' writes keep of the Request Unit -/

/-- Every write of a setpoint, by the Advance Unit or by the Pressure Unit, keeps the property (R150). -/
def KeptByJobs (P : Requests → Prop) : Prop :=
  ∀ (r : Requests) (o : Bool) (org : Origin) (p : PortNo) (i : Fin 16) (v : Nat),
    org = .advance ∨ org = .pressure → P r → P (r.jobWrite o org p i v)

/-- In NORMAL every write of a setpoint keeps the property; in the other modes none is made (R20, R50, R157). -/
def KeptIn (P : Requests → Prop) (s : State) : Prop := s.out.mode = .normal → KeptByJobs P

section
variable {P : Requests → Prop} {s : State}

theorem KeptByJobs.at (hP : KeptByJobs P) (s : State) : KeptIn P s := fun _ => hP

theorem keptIn_of_not_normal (P : Requests → Prop) (h : s.out.mode ≠ .normal) : KeptIn P s := fun e => absurd e h

theorem KeptIn.of_out {t : State} (hP : KeptIn P s) (h : t.out = s.out) : KeptIn P t := fun e => hP (h ▸ e)

theorem KeptByJobs.writeTarget (hP : KeptByJobs P) (s : State) {acc : Requests × Vector GroupState 16} (h : P acc.1)
    (t : Target) : P (writeTarget s acc t).1 := by
  rw [writeTarget_fst]
  split
  · exact h
  · exact hP _ _ _ _ _ _ (.inl rfl) h

theorem KeptByJobs.foldl_writeTarget (hP : KeptByJobs P) (s : State) :
    ∀ (l : List Target) {acc : Requests × Vector GroupState 16}, P acc.1 →
      P (l.foldl (Machine.writeTarget s) acc).1
  | [], _, h => h
  | t :: l, _, h => KeptByJobs.foldl_writeTarget hP s l (hP.writeTarget s h t)

theorem KeptIn.refresh (hP : KeptIn P s) (h : P s.req) : P (refresh s).req := by
  change P (setpoints s).1
  unfold setpoints
  split
  · rename_i hm
    exact (hP hm).foldl_writeTarget s _ h
  · exact h

theorem KeptIn.writeScrew (hP : KeptIn P s) (force : Bool) (h : P s.req) : P (writeScrew force s).req := by
  change P (screwRequests force s)
  unfold screwRequests
  split
  · rename_i hc
    rw [Bool.and_eq_true, Bool.and_eq_true, decide_eq_true_iff] at hc
    exact hP hc.1.1 _ _ _ _ _ _ (.inr rfl) h
  · exact h

theorem KeptIn.setScrew (hP : KeptIn P s) (v : Nat) (h : P s.req) : P (setScrew v s).req := by
  refine KeptIn.writeScrew ?_ false ?_
  exacts [hP, h]

theorem KeptIn.advanced (hP : KeptIn P s) (new : AdvState) (h : P s.req) : P (advanced new s).req := by
  unfold Machine.advanced
  dsimp only
  split <;> split
  · refine KeptIn.setScrew ?_ 0 ?_
    exacts [hP, h]
  · refine KeptIn.setScrew ?_ 0 ?_
    exacts [hP, h]
  · exact h
  · exact h

theorem KeptIn.moveAdvance (hP : KeptIn P s) (new : AdvState) (h : P s.req) : P (moveAdvance new s).req := by
  have ho : (Machine.moveAdvance new s).out = s.out := (calm_moveAdvance new s).out
  rw [moveAdvance_eq] at ho ⊢
  exact KeptIn.refresh (hP.of_out ho) (hP.advanced new h)

theorem KeptIn.stopAdvance (hP : KeptIn P s) (h : P s.req) : P (stopAdvance s).req := by
  rw [stopAdvance_eq]
  split
  · exact hP.moveAdvance _ h
  · exact h

theorem KeptIn.stopCutter (hP : KeptIn P s) (h : P s.req) : P (stopCutter s).req := by
  rw [stopCutter_eq]
  split
  · exact h
  · refine KeptIn.refresh (hP.of_out (calm_stopAdvance (s.setAdv _)).out) (KeptIn.stopAdvance ?_ ?_)
    exacts [hP, h]

theorem KeptIn.tellPermit (hP : KeptIn P s) (l : Level) (h : P s.req) : P (tellPermit l s).req := by
  rw [tellPermit_eq]
  have hu : KeptIn P (s.setAdv { s.adv with permitCopy := l }) := hP
  have hr : P (s.setAdv { s.adv with permitCopy := l }).req := h
  dsimp only at hu hr ⊢
  generalize s.setAdv _ = u at hu hr
  split
  · have ha := hu.of_out (calm_stopAdvance u).out
    exact (ha.of_out (calm_stopCutter _).out).refresh (ha.stopCutter (hu.stopAdvance hr))
  · split
    · exact hu.refresh hr
    · exact hu.moveAdvance _ hr

theorem KeptIn.permitWritten (hP : KeptIn P s) (src : Source) (l : Level) (c : RCause) (h : P s.req) :
    P (permitWritten src l c s).req := by
  unfold Machine.permitWritten
  dsimp only
  split
  · change P (Machine.tellPermit _ _).req
    refine KeptIn.tellPermit ?_ _ ?_
    exacts [hP, h]
  · exact h

/-- A write to the Restriction Table reaches the Request Unit by the jobs' writes alone (R20, R50). -/
theorem KeptIn.writeEntry (hP : KeptIn P s) (src : Source) (l : Level) (c : RCause) (h : P s.req) :
    P (writeEntry src l c s).req := by
  have hu : KeptIn P (Machine.permitWritten src l c s) := hP.of_out (calm_permitWritten src l c s).out
  have hr := hP.permitWritten src l c h
  rw [writeEntry_eq]
  generalize Machine.permitWritten src l c s = u at hu hr
  split
  · unfold tellMuckLevel
    dsimp only
    split
    · refine KeptIn.setScrew ?_ _ ?_
      exacts [hu, hr]
    · exact hr
  · exact hr

theorem KeptIn.handFault (hP : KeptIn P s) (f : FaultRec) (h : P s.req) : P (handFault f s).req := by
  unfold Machine.handFault
  split
  · exact h
  · exact hP.writeEntry _ _ _ h

/-- Outside NORMAL a write to the Restriction Table leaves the Request Unit. -/
theorem writeEntry_req_of_not_normal (src : Source) (l : Level) (c : RCause) (h : s.out.mode ≠ .normal) :
    (writeEntry src l c s).req = s.req :=
  (keptIn_of_not_normal (fun r => r = s.req) h).writeEntry src l c rfl

end

/-- A job's write folds into an entry of its own alone; every other entry stands (R150). -/
theorem mem_jobWrite {r : Requests} {e : Entry} (o : Bool) {org : Origin} (p : PortNo) (i : Fin 16) (v : Nat)
    (he : e ∈ r.table) (ho : e.origin ≠ org) : e ∈ (r.jobWrite o org p i v).table := by
  unfold Requests.jobWrite
  dsimp only
  split
  · rename_i table ht
    obtain ⟨b, x, a, h1, h2, -, h4⟩ := replaceLast_some _ _ _ ht
    have hx : e ≠ x := fun h => ho (h ▸ ((foldable_iff _ _ _ _).mp h2).1)
    rw [setPoint_table, h4]
    rw [h1] at he
    rw [List.mem_append, List.mem_cons] at he ⊢
    exact he.imp_right fun h => .inr (h.resolve_left hx)
  · split
    · exact List.mem_append_left _ he
    · exact he

theorem keptByJobs_waits (l : List WaitItem) : KeptByJobs fun r => r.waits = l :=
  fun _ _ _ _ _ _ _ h => (jobWrite_waits ..).trans h

theorem keptByJobs_entry {e : Entry} (ha : e.origin ≠ .advance) (hp : e.origin ≠ .pressure) :
    KeptByJobs fun r => e ∈ r.table := fun _ o _ p i v ho h =>
  mem_jobWrite o p i v h (by rcases ho with rfl | rfl <;> assumption)

/-! ## What a write to the Restriction Table leaves of the grout lines -/

/-- The figures of a record that the Grout Unit contributes (R75, R76, R80). -/
def Record.grout (r : Record) : Nat × Nat × Vector Nat 6 := (r.unassigned, r.unmet, r.delivered)

theorem writeEntry_figures (src : Source) (l : Level) (c : RCause) (s : State) :
    (writeEntry src l c s).ring.current.map Record.grout = s.ring.current.map Record.grout := by
  rw [writeEntry_ring, permitWritten_ring]
  dsimp only
  split
  · rw [Option.map_map]
    rfl
  · rfl

/-- What a write to the Restriction Table, or a fault record, leaves of the lines, of their strokes and of what the record
holds of them. -/
structure Spared (s t : State) : Prop where
  grown : Grown s t
  frame : t.frame = s.frame
  lines : t.lines = s.lines
  mode : t.out.mode = s.out.mode
  waits : t.req.waits = s.req.waits
  strokes : ∀ e ∈ s.req.table, e.origin = .grout → e ∈ t.req.table
  figures : t.ring.current.map Record.grout = s.ring.current.map Record.grout

section
variable {s t u : State}

theorem Spared.trans (h : Spared s t) (k : Spared t u) : Spared s u where
  grown := h.grown.trans k.grown
  frame := k.frame.trans h.frame
  lines := k.lines.trans h.lines
  mode := k.mode.trans h.mode
  waits := k.waits.trans h.waits
  strokes e he ho := k.strokes e (h.strokes e he ho) ho
  figures := k.figures.trans h.figures

theorem spared_writeEntry {src : Source} (l : Level) (c : RCause) (s : State) (h : src ≠ .output) :
    Spared s (writeEntry src l c s) where
  grown := (inside_writeEntry l c s h).grown
  frame := (inside_writeEntry l c s h).frame
  lines := agree_writeEntry src l c s .lines (by simp [permitReach])
  mode := by rw [writeEntry_out]
  waits := ((keptByJobs_waits s.req.waits).at s).writeEntry src l c rfl
  strokes _ he ho := ((keptByJobs_entry (by rw [ho]; exact nofun) (by rw [ho]; exact nofun)).at s).writeEntry src l c he
  figures := writeEntry_figures src l c s

theorem spared_writeGrout (s : State) : Spared s (writeGrout s) := spared_writeEntry (src := .grout) _ _ s (by decide)

theorem spared_handFault (f : FaultRec) (s : State) : Spared s (handFault f s) := by
  unfold handFault
  split
  · have h : Grown s (report (.fault f (s.out.faults.length + 1)) (s.setOut { s.out with faults := s.out.faults ++ [f] })) :=
      Grown.trans (t := s.setOut { s.out with faults := s.out.faults ++ [f] }) (.of_link rfl) (grown_report _ _)
    exact ⟨h, rfl, rfl, rfl, rfl, fun _ he _ => he, rfl⟩
  · exact spared_writeEntry _ _ s (by decide)

theorem Spared.line (h : Spared s t) (i : LineNo) : t.line i = s.line i := congrArg (fun v => v.get i) h.lines

theorem Spared.portUp (h : Spared s t) (p : PortNo) : t.portUp p = s.portUp p := by
  unfold State.portUp
  rw [frame_ports h.frame]

theorem Spared.strokeIssued {i : LineNo} (h : Spared s t) (k : StrokeIssued i s) : StrokeIssued i t := by
  unfold StrokeIssued at k ⊢
  rw [h.line, h.waits]
  exact k.imp_left fun ⟨n, hn, he⟩ => ⟨n, hn, h.strokes _ he rfl⟩

theorem agree_writeGrout (s : State) : AgreeBut (.link :: permitReach) s (writeGrout s) := agree_writeEntry _ _ _ s

theorem writeGrout_out (s : State) : (writeGrout s).out = s.out := writeEntry_out _ _ _ s

/-- A figure of the record that the Grout Unit contributes stands while the figures do. -/
theorem map_figure {α : Type} {a b : Option Record} (f : Nat × Nat × Vector Nat 6 → α)
    (h : a.map Record.grout = b.map Record.grout) : a.map (fun r => f r.grout) = b.map (fun r => f r.grout) := by
  have := congrArg (Option.map f) h
  rwa [Option.map_map, Option.map_map] at this

/-! ## The one fault record of an event (R174) -/

/-- The record stands as handed in, through what follows. -/
theorem FaultAdded.after {f : FaultRec} (h : FaultAdded f s t) (g : Grown t u) (hf : u.out.faults = t.out.faults)
    (hl : (u.permit.table.get Source.faultBacklog.idx).level = (t.permit.table.get Source.faultBacklog.idx).level) :
    FaultAdded f s u where
  stored h8 := hf.trans (h.stored h8)
  told h8 := (h.told h8).grown g
  full h8 := ⟨hf.trans (h.full h8).1, hl.trans (h.full h8).2⟩

/-- The record is handed in after operations that leave the Fault List. -/
theorem FaultAdded.before {f : FaultRec} (h : FaultAdded f s t) (hf : s.out.faults = u.out.faults) :
    FaultAdded f u t where
  stored h8 := by rw [← hf] at h8 ⊢; exact h.stored h8
  told h8 := by rw [← hf] at h8 ⊢; exact h.told h8
  full h8 := by rw [← hf] at h8 ⊢; exact h.full h8

theorem writeEntry_backlog {src : Source} (l : Level) (c : RCause) (s : State) (h : src ≠ .faultBacklog) :
    (writeEntry src l c s).permit.table.get Source.faultBacklog.idx = s.permit.table.get Source.faultBacklog.idx := by
  rw [writeEntry_permit, write_level_ne _ _ _ _ _ h]

theorem FaultAdded.writeGrout {f : FaultRec} (h : FaultAdded f s t) : FaultAdded f s (writeGrout t) :=
  h.after (inside_writeGrout t).grown (by rw [writeGrout_out])
    (by rw [show (Machine.writeGrout t).permit.table.get _ = _ from writeEntry_backlog _ _ t (by decide)])

end

/-! ## The lines and the Link Unit -/

theorem agree_setLine (i : LineNo) (l : Line) (s : State) : AgreeBut [.lines] s (setLine i l s) :=
  agree_setLines (by simp) _ s

theorem agree_moveLine (i : LineNo) (st : LineState) (m : LineMode) (c : LineCause) (s : State) :
    AgreeBut [.link, .lines] s (moveLine i st m c s) := by
  have h : ∀ l, AgreeBut [.link, .lines] s (setLine i l s) := fun l => (agree_setLine i l s).mono (by simp)
  unfold moveLine
  dsimp only
  split
  · exact h _
  · exact (h _).trans (agree_setLink (by simp) _ _)

theorem grown_setLine (i : LineNo) (l : Line) (s : State) : Grown s (setLine i l s) := .of_link rfl

theorem grown_moveLine (i : LineNo) (st : LineState) (m : LineMode) (c : LineCause) (s : State) :
    Grown s (moveLine i st m c s) := by
  unfold moveLine
  dsimp only
  split
  · exact grown_setLine _ _ _
  · exact (grown_setLine _ _ _).trans (grown_report _ _)

/-! ## A stroke on a pump in service (R78, R150) -/

theorem admits_grout (m : OutMode) : m.admits .grout = decide (m = .normal) := by cases m <;> rfl

theorem takes_action (st : PortState) {o : Origin} (h : o ≠ .port) (k : ReqKind) : st.takes o k = st.inService := by
  unfold PortState.takes
  cases o <;> simp_all [isIdentify]

theorem issueStroke_registered {i : LineNo} {s : State} (hp : s.portUp (pumpPort i) = true)
    (h : s.req.table.length < 32 ∧ s.out.mode = .normal) :
    issueStroke i s = setLine i { s.line i with phase := .requested s.req.nextSeq }
      (s.setReq (s.req.register .grout none (pumpPort i) (.action (.stroke i (s.line i).vs)))) := by
  have hp' : (s.ports.get (pumpPort i)).state.inService = true := hp
  have hr : s.req.room = true := decide_eq_true h.1
  unfold issueStroke Machine.placeItem Requests.placeItem
  simp only [takes_action _ (o := .grout) nofun, hp', admits_grout, h.2, hr]
  rfl

theorem issueStroke_waiting {i : LineNo} {s : State} (hp : s.portUp (pumpPort i) = true)
    (h : ¬ (s.req.table.length < 32 ∧ s.out.mode = .normal)) :
    issueStroke i s = setLine i { s.line i with phase := .pending } (s.setReq { s.req with
      waits := s.req.waits ++ [⟨.grout, pumpPort i, .action (.stroke i (s.line i).vs)⟩] }) := by
  have hp' : (s.ports.get (pumpPort i)).state.inService = true := hp
  have hr : (s.req.room && decide (s.out.mode = .normal)) = false := by
    rw [← Bool.not_eq_true, Bool.and_eq_true]
    exact fun e => h ⟨of_decide_eq_true e.1, of_decide_eq_true e.2⟩
  unfold issueStroke Machine.placeItem Requests.placeItem
  simp only [takes_action _ (o := .grout) nofun, hp', admits_grout, hr]
  rfl

/-- A stroke asked on a pump out of service ends in the loss of the pump (R90, R150). -/
theorem issueStroke_lost {i : LineNo} {s : State} (hp : s.portUp (pumpPort i) = false) :
    issueStroke i s = losePump (pumpPort i) s := by
  have hp' : (s.ports.get (pumpPort i)).state.inService = false := hp
  unfold issueStroke Machine.placeItem Requests.placeItem
  simp only [takes_action _ (o := .grout) nofun, hp']
  rfl

theorem due_iff (l : Line) : l.due = true ↔
    l.phase = .none ∧ (l.state = .pulseDeliver ∨ l.state = .tracking ∧ l.vs ≤ l.backlog) := by
  unfold Line.due
  simp only [Bool.and_eq_true, Bool.or_eq_true, beq_iff_eq, decide_eq_true_eq]
  rw [or_comm]

/-- A stroke issued on a pump in service: the line's phase says where it stands, and nothing else but the Request Unit
changes. -/
structure Issuing (i : LineNo) (s t : State) : Prop where
  issued : StrokeIssued i t
  lines : ∃ ph, t.lines = put s.lines i { s.line i with phase := ph }
  image : t.req.image = s.req.image
  agree : AgreeBut [.lines, .req] s t

theorem issuing_issueStroke {i : LineNo} {s : State} (hp : s.portUp (pumpPort i) = true) :
    Issuing i s (issueStroke i s) := by
  by_cases h : s.req.table.length < 32 ∧ s.out.mode = .normal
  · rw [issueStroke_registered hp h]
    refine ⟨.inl ⟨s.req.nextSeq, ?_, ?_⟩, ⟨_, rfl⟩, rfl,
      (agree_setReq (by simp) _ s).trans ((agree_setLine _ _ _).mono (by simp))⟩
    · rw [line_setLine_self]
    · rw [line_setLine_self]
      exact List.mem_append_right _ (List.mem_singleton_self _)
  · rw [issueStroke_waiting hp h]
    refine ⟨.inr ⟨?_, ?_⟩, ⟨_, rfl⟩, rfl, (agree_setReq (by simp) _ s).trans ((agree_setLine _ _ _).mono (by simp))⟩
    · rw [line_setLine_self]
    · rw [line_setLine_self]
      exact List.mem_append_right _ (List.mem_singleton_self _)

theorem line_of_lines {s t : State} {i : LineNo} {l : Line} (h : t.lines = put s.lines i l) (j : LineNo) :
    t.line j = if i = j then l else s.line j := by
  unfold State.line
  rw [h, get_put]

/-- A stroke issued when it is due on a pump in service, and then the GROUT entry written (R78, R91). -/
structure Stroked (due : Prop) (i : LineNo) (s t : State) : Prop where
  issued : due → StrokeIssued i t
  still : ¬ due → t.line i = s.line i ∧ t.req.waits = s.req.waits
  line : t.line i = { s.line i with phase := (t.line i).phase }
  others : ∀ j, j ≠ i → t.line j = s.line j
  grown : Grown s t
  out : t.out = s.out
  figures : t.ring.current.map Record.grout = s.ring.current.map Record.grout
  backlog : t.permit.table.get Source.faultBacklog.idx = s.permit.table.get Source.faultBacklog.idx
  agree : AgreeBut (.link :: .lines :: permitReach) s t

theorem stroked_of_due {i : LineNo} {s : State} {due : Prop} [Decidable due]
    (hp : due → s.portUp (pumpPort i) = true) :
    Stroked due i s (writeGrout (if due then issueStroke i s else s)) := by
  split
  · rename_i hd
    have k := issuing_issueStroke (hp hd)
    generalize issueStroke i s = u at k
    have w := spared_writeGrout u
    obtain ⟨ph, hl⟩ := k.lines
    refine ⟨fun _ => w.strokeIssued k.issued, fun h => absurd hd h, ?_, fun j hj => ?_, ?_, ?_, ?_, ?_, ?_⟩
    · rw [w.line, line_of_lines hl, if_pos rfl]
    · rw [w.line, line_of_lines hl, if_neg (Ne.symm hj)]
    · exact (Grown.of_link (k.agree .link (by simp))).trans w.grown
    · rw [writeGrout_out]
      exact k.agree .out (by simp)
    · rw [w.figures, show u.ring = s.ring from k.agree .ring (by simp)]
    · rw [show (writeGrout u).permit.table.get _ = _ from writeEntry_backlog _ _ u (by decide),
        show u.permit = s.permit from k.agree .permit (by simp)]
    · exact (k.agree.mono (by simp [permitReach])).trans ((agree_writeGrout u).mono (by simp [permitReach]))
  · rename_i hd
    have w := spared_writeGrout s
    refine ⟨fun h => absurd h hd, fun _ => ⟨w.line i, w.waits⟩, ?_, fun j _ => w.line j, w.grown, writeGrout_out s,
      w.figures, writeEntry_backlog _ _ s (by decide), (agree_writeGrout s).mono (by simp [permitReach])⟩
    rw [w.line]

theorem stroked_checkStroke {i : LineNo} {s : State} (hp : (s.line i).due = true → s.portUp (pumpPort i) = true) :
    Stroked ((s.line i).due = true) i s (writeGrout (checkStroke i s)) := stroked_of_due hp

/-! ## The fault of a line (R79, R82, R89) -/

/-- What the fault of a line does: the record, the line FAULTED, the LINE report. -/
structure FaultedLine (i : LineNo) (f : FaultRec) (told : LineCause) (s t : State) : Prop where
  added : FaultAdded f s t
  line : ∀ j, t.line j = if i = j then { (s.line i).rest with state := .faulted } else s.line j
  reported : (s.line i).state ≠ .faulted → Reported (.line i (s.line i).state .faulted (s.line i).mode told
    (s.line i).backlog (s.line i).phase s.ring.number) t
  grown : Grown s t
  figures : t.ring.current.map Record.grout = s.ring.current.map Record.grout
  agree : AgreeBut (.lines :: .out :: .link :: permitReach) s t

theorem faultedLine_faultLine (i : LineNo) (format : FaultFormat) (c : FaultCause) (told : LineCause) (s : State) :
    FaultedLine i (lineRecord format i c s) told s (faultLine i format c told s) := by
  obtain ⟨hadd, hagree⟩ := handFault_added (lineRecord format i c s) s
  have hk := spared_handFault (lineRecord format i c s) s
  have hline := faultLine_line i (f := format) (c := c) (t := told) (s := s)
  unfold faultLine at hline ⊢
  dsimp only at hline ⊢
  generalize handFault (lineRecord format i c s) s = u at hadd hagree hk hline
  have hu := hk.line i
  have hm := agree_moveLine i .faulted (u.line i).mode told (setLine i (u.line i).rest u)
  have hg := (grown_setLine i (u.line i).rest u).trans (grown_moveLine i .faulted (u.line i).mode told _)
  refine ⟨hadd.after hg ?_ ?_, hline, fun hf => ?_, hk.grown.trans hg, ?_, ?_⟩
  · exact congrArg Output.faults (hm .out (by simp))
  · rw [show (moveLine i .faulted (u.line i).mode told (setLine i (u.line i).rest u)).permit = u.permit from
      hm .permit (by simp)]
  · have hr := moveLine_reported (i := i) (st := .faulted) (m := (u.line i).mode) (c := told)
      (s := setLine i (u.line i).rest u) (by rw [line_setLine_self, hu]; exact hf)
    rw [line_setLine_self, hu] at hr
    rw [hu]
    rw [show (setLine i (s.line i).rest u).ring.number = s.ring.number from
      frame_number (s := s) (t := u) hk.frame] at hr
    exact hr
  · rw [← hk.figures, show (moveLine i .faulted (u.line i).mode told (setLine i (u.line i).rest u)).ring = u.ring from
      hm .ring (by simp)]
  · exact (hagree.mono fun _ => List.mem_cons_of_mem _).trans
      (((agree_setLine _ _ _).mono (by simp)).trans (hm.mono (by simp)))

end Sys2Proof.Machine

/-! SUPPORT. A demand shared over the tracking lines (R75, R76): the share of a line, what the check for strokes leaves of it,
and the sums. -/

namespace Sys2Proof.Machine

/-! ## The share of a line (R75, R76) -/

/-- The share of a line in a demand q, with the weights' sum w. -/
def Line.share (q w : Nat) (l : Line) : Nat := if l.mode = .track then (q * l.weight + l.rem) / w else 0

/-- What of the share the saturation limit keeps out of the backlog. -/
def Line.excess (q w : Nat) (l : Line) : Nat := if l.mode = .track then l.backlog + l.share q w - 16 * l.vs else 0

/-- The line once it has its share. -/
def Line.shared (q w : Nat) (l : Line) : Line :=
  if l.mode = .track then
    { l with rem := (q * l.weight + l.rem) % w, backlog := min (l.backlog + (q * l.weight + l.rem) / w) (16 * l.vs) }
  else l

theorem shareLine_of_track {q w : Nat} {i : LineNo} {s : State} (h : (s.line i).mode = .track) :
    shareLine q w i s = contribute (fun r => { r with unmet := sat32 r.unmet ((s.line i).excess q w) })
      (setLine i ((s.line i).shared q w) s) := by
  have he : (s.line i).excess q w = (s.line i).backlog + (q * (s.line i).weight + (s.line i).rem) / w
      - min ((s.line i).backlog + (q * (s.line i).weight + (s.line i).rem) / w) (s.line i).limit := by
    unfold Line.excess Line.share Line.limit
    rw [if_pos h, if_pos h]
    omega
  unfold shareLine
  dsimp only
  rw [if_pos h, he]
  unfold Line.shared
  rw [if_pos h]
  rfl

theorem shareLine_of_not {q w : Nat} {i : LineNo} {s : State} (h : (s.line i).mode ≠ .track) : shareLine q w i s = s :=
  if_neg h

theorem shareLine_line (q w : Nat) (i j : LineNo) (s : State) :
    (shareLine q w i s).line j = if i = j then (s.line i).shared q w else s.line j := by
  by_cases h : (s.line i).mode = .track
  · rw [shareLine_of_track h]
    exact line_setLine _ _ _ _
  · rw [shareLine_of_not h]
    split
    · rename_i hij
      rw [← hij]
      exact (if_neg h).symm
    · rfl

theorem foldl_shareLine_line (q w : Nat) (j : LineNo) (l : List LineNo) (s : State) (hn : l.Nodup) :
    (l.foldl (fun s i => shareLine q w i s) s).line j = if j ∈ l then (s.line j).shared q w else s.line j := by
  induction l generalizing s with
  | nil => simp
  | cons i l ih =>
    obtain ⟨hi, hl⟩ := List.nodup_cons.mp hn
    rw [List.foldl_cons, ih _ hl, shareLine_line]
    by_cases hij : i = j
    · subst hij
      rw [if_neg hi, if_pos rfl, if_pos List.mem_cons_self]
    · simp [hij, Ne.symm hij]

/-- The record after one share: what passes the bound joins the unmet grout. -/
theorem shareLine_current {q w : Nat} {i : LineNo} {s : State} {r : Record} (h : s.ring.current = some r)
    (hu : r.unmet ≤ Config.max32) : ∃ r', (shareLine q w i s).ring.current = some r'
      ∧ r'.unmet = min (r.unmet + (s.line i).excess q w) Config.max32 ∧ r'.unassigned = r.unassigned := by
  by_cases ht : (s.line i).mode = .track
  · rw [shareLine_of_track ht]
    refine ⟨{ r with unmet := sat32 r.unmet ((s.line i).excess q w) }, ?_, rfl, rfl⟩
    change s.ring.current.map _ = _
    rw [h]
    rfl
  · have he : (s.line i).excess q w = 0 := if_neg ht
    rw [shareLine_of_not ht, he]
    exact ⟨r, h, (min_eq_left hu).symm, rfl⟩

theorem foldl_shareLine_current (q w : Nat) (l : List LineNo) (hn : l.Nodup) {s : State} {r : Record}
    (h : s.ring.current = some r) (hu : r.unmet ≤ Config.max32) :
    ∃ r', (l.foldl (fun s i => shareLine q w i s) s).ring.current = some r'
      ∧ r'.unmet = min (r.unmet + (l.map fun i => (s.line i).excess q w).sum) Config.max32
      ∧ r'.unassigned = r.unassigned := by
  induction l generalizing s r with
  | nil => exact ⟨r, h, (min_eq_left hu).symm, rfl⟩
  | cons i l ih =>
    obtain ⟨hi, hl⟩ := List.nodup_cons.mp hn
    obtain ⟨r1, h1, hu1, ha1⟩ := shareLine_current (q := q) (w := w) (i := i) h hu
    obtain ⟨r2, h2, hu2, ha2⟩ := ih hl h1 (by rw [hu1]; exact min_le_right _ _)
    have hm : (l.map fun j => ((shareLine q w i s).line j).excess q w) = l.map fun j => (s.line j).excess q w :=
      List.map_congr_left fun j hj => by rw [shareLine_line, if_neg fun e : i = j => hi (e ▸ hj)]
    refine ⟨r2, h2, ?_, ha2.trans ha1⟩
    rw [hu2, hm, hu1, List.map_cons, List.sum_cons]
    omega

/-! ## Nothing is lost to rounding (R75) -/

theorem sum_share (q w : Nat) (ls : List Line) :
    w * (ls.map (Line.share q w)).sum + (ls.map fun l => (l.shared q w).rem).sum
      = q * ((ls.filter (·.mode == .track)).map (·.weight)).sum + (ls.map (·.rem)).sum := by
  induction ls with
  | nil => rfl
  | cons l ls ih =>
    simp only [List.map_cons, List.sum_cons, List.filter_cons, beq_iff_eq]
    by_cases h : l.mode = .track
    · have hd := Nat.div_add_mod (q * l.weight + l.rem) w
      simp only [Line.share, Line.shared, h, if_true, List.map_cons, List.sum_cons, Nat.mul_add] at ih ⊢
      omega
    · simp only [Line.share, Line.shared, h, if_false, Nat.mul_add, Nat.mul_zero] at ih ⊢
      omega

theorem map_toList_lines {α : Type} (s : State) (f : Line → α) :
    s.lines.toList.map f = (List.finRange 6).map fun i => f (s.line i) := by
  rw [toList_eq_map_get, List.map_map]
  rfl

/-! ## The check for strokes leaves the shares (R78, R90) -/

/-- What is owed stands: each line's backlog and remainder, and what the record holds of them. -/
structure Owed (s t : State) : Prop where
  lines : ∀ i, (t.line i).backlog = (s.line i).backlog ∧ (t.line i).rem = (s.line i).rem
  figures : t.ring.current.map Record.grout = s.ring.current.map Record.grout

theorem Owed.refl (s : State) : Owed s s := ⟨fun _ => ⟨rfl, rfl⟩, rfl⟩

theorem Owed.trans {s t u : State} (h : Owed s t) (k : Owed t u) : Owed s u :=
  ⟨fun i => ⟨(k.lines i).1.trans (h.lines i).1, (k.lines i).2.trans (h.lines i).2⟩, k.figures.trans h.figures⟩

theorem owed_foldl {α : Type} {f : State → α → State} (h : ∀ s a, Owed s (f s a)) (l : List α) (s : State) :
    Owed s (l.foldl f s) := by
  induction l generalizing s with
  | nil => exact .refl s
  | cons a l ih => exact (h s a).trans (ih _)

theorem Spared.owed {s t : State} (h : Spared s t) : Owed s t :=
  ⟨fun i => by rw [h.line]; exact ⟨rfl, rfl⟩, h.figures⟩

theorem owed_setLine {i : LineNo} {l : Line} {s : State} (hb : l.backlog = (s.line i).backlog)
    (hr : l.rem = (s.line i).rem) : Owed s (setLine i l s) := by
  refine ⟨fun j => ?_, rfl⟩
  rw [line_setLine]
  split
  · rename_i hij
    subst hij
    exact ⟨hb, hr⟩
  · exact ⟨rfl, rfl⟩

theorem owed_faultLine (i : LineNo) (f : FaultFormat) (c : FaultCause) (told : LineCause) (s : State) :
    Owed s (faultLine i f c told s) := by
  have h := faultedLine_faultLine i f c told s
  refine ⟨fun j => ?_, h.figures⟩
  rw [h.line]
  split
  · rename_i hij
    subst hij
    exact ⟨rfl, rfl⟩
  · exact ⟨rfl, rfl⟩

theorem owed_loseLine (i : LineNo) (s : State) : Owed s (loseLine i s) := by
  have h0 : Owed s (setLine i { s.line i with phase := .none } s) := owed_setLine rfl rfl
  by_cases hs : (s.line i).state = .stopped
  · rw [loseLine_stopped hs]
    exact h0
  by_cases hf : (s.line i).state = .faulted
  · rw [loseLine_faulted hf]
    exact h0.trans (owed_setLine (by rw [line_setLine_self]; rfl) (by rw [line_setLine_self]; rfl))
  · rw [loseLine_running hs hf]
    exact h0.trans (owed_faultLine _ _ _ _ _)

theorem owed_losePump (p : PortNo) (s : State) : Owed s (losePump p s) :=
  (owed_foldl (fun s i => owed_loseLine i s) (linesOf p) s).trans (spared_writeGrout _).owed

theorem owed_issueStroke (i : LineNo) (s : State) : Owed s (issueStroke i s) := by
  by_cases hp : s.portUp (pumpPort i) = true
  · obtain ⟨-, ⟨ph, hl⟩, -, ha⟩ := issuing_issueStroke hp
    refine ⟨fun j => ?_, by rw [show (issueStroke i s).ring = s.ring from ha .ring (by simp)]⟩
    rw [line_of_lines hl]
    split
    · rename_i hij
      subst hij
      exact ⟨rfl, rfl⟩
    · exact ⟨rfl, rfl⟩
  · rw [issueStroke_lost (by simpa using hp)]
    exact owed_losePump _ _

theorem owed_checkTracking (s : State) : Owed s (checkTracking s) := by
  refine owed_foldl (fun s i => ?_) _ _
  split
  · unfold checkStroke
    split
    · exact owed_issueStroke _ _
    · exact .refl s
  · exact .refl s

/-- A record's figures where they stand. -/
theorem Owed.current {s t : State} (h : Owed s t) {r : Record} (hr : s.ring.current = some r) :
    ∃ r', t.ring.current = some r' ∧ r'.unassigned = r.unassigned ∧ r'.unmet = r.unmet := by
  have hf := h.figures
  rw [hr] at hf
  obtain ⟨r', hr', he⟩ := Option.map_eq_some_iff.mp hf
  simp only [Record.grout, Prod.mk.injEq] at he
  exact ⟨r', hr', he.1, he.2.1⟩

/-! ## The demand (R75) -/

/-- The state once the demand is credited: to the lines, or with no weight to the unassigned grout. -/
def demandCredited (q : Nat) (s : State) : State :=
  if trackWeight s.lines = 0 then contribute (fun r => { r with unassigned := sat32 r.unassigned q }) s
  else (List.finRange 6).foldl (fun t i => shareLine q (trackWeight s.lines) i t) s

theorem owed_takeDemand (q : Nat) (s : State) : Owed (demandCredited q s) (takeDemand q s) := by
  rw [takeDemand_eq]
  exact (owed_checkTracking _).trans (spared_writeGrout _).owed

theorem demandCredited_line {q : Nat} {s : State} (hw : trackWeight s.lines ≠ 0) (i : LineNo) :
    (demandCredited q s).line i = (s.line i).shared q (trackWeight s.lines) := by
  unfold demandCredited
  rw [if_neg hw, foldl_shareLine_line _ _ _ _ _ (List.nodup_finRange 6), if_pos (List.mem_finRange i)]

/-- Settles O23: the shares line by line, their sums by quotient and remainder, and the check for strokes leaves them. -/
theorem demandIsShared : Obligations.DemandIsShared := by
  unfold Obligations.DemandIsShared
  intro q s
  have ho := owed_takeDemand q s
  dsimp only
  refine ⟨fun hw => ?_, fun hw => ?_⟩
  · have hc : demandCredited q s = contribute (fun r => { r with unassigned := sat32 r.unassigned q }) s := if_pos hw
    refine ⟨fun i => ?_, fun r hr => ?_⟩
    · have := ho.lines i
      rwa [hc] at this
    · have hcur : (demandCredited q s).ring.current = some { r with unassigned := sat32 r.unassigned q } := by
        rw [hc]
        change s.ring.current.map _ = _
        rw [hr]
        rfl
      exact ho.current hcur
  · have hw' : trackWeight s.lines ≠ 0 := by omega
    have hline : ∀ i, ((takeDemand q s).line i).backlog = ((s.line i).shared q (trackWeight s.lines)).backlog
        ∧ ((takeDemand q s).line i).rem = ((s.line i).shared q (trackWeight s.lines)).rem := fun i => by
      rw [← demandCredited_line hw']
      exact ho.lines i
    refine ⟨fun i => ?_, fun r hr hu => ?_, ?_⟩
    · rw [(hline i).1, (hline i).2]
      unfold Line.shared
      split <;> exact ⟨rfl, rfl⟩
    · obtain ⟨r1, h1, hu1, ha1⟩ := foldl_shareLine_current q (trackWeight s.lines) _ (List.nodup_finRange 6) hr hu
      have hcur : (demandCredited q s).ring.current = some r1 := by
        unfold demandCredited
        rw [if_neg hw']
        exact h1
      obtain ⟨r2, h2, ha2, hu2⟩ := ho.current hcur
      exact ⟨r2, h2, hu2.trans hu1, ha2.trans ha1⟩
    · have hsum := sum_share q (trackWeight s.lines) s.lines.toList
      have hrem : remSum (takeDemand q s).lines
          = (s.lines.toList.map fun l => (l.shared q (trackWeight s.lines)).rem).sum := by
        unfold remSum
        rw [map_toList_lines, map_toList_lines]
        exact congrArg List.sum (List.map_congr_left fun i _ => (hline i).2)
      rw [map_toList_lines s (Line.share q (trackWeight s.lines)), ← hrem] at hsum
      exact hsum

end Sys2Proof.Machine

/-! SUPPORT. A stroke asked, and its outcome (R78, R79, R89, R90, R150). -/

namespace Sys2Proof.Machine

/-! ## The outcome of a stroke (R79) -/

theorem lines_of_line {s t : State} {i : LineNo} {l : Line} (h : ∀ j, t.line j = if i = j then l else s.line j) :
    t.lines = put s.lines i l := by
  refine Vector.ext fun k hk => ?_
  have := h ⟨k, hk⟩
  rw [← line_setLine i ⟨k, hk⟩ l s] at this
  exact this

theorem phase_names_some (ph : StrokePhase) (n : Nat) : ph.names (some n) = true ↔ ph = .requested n := by
  cases ph <;> simp [StrokePhase.names]

theorem strokeOutcome_ignored {i : LineNo} {n : Nat} {o : ReqOutcome} {s : State}
    (h : (s.line i).phase ≠ .requested n) : strokeOutcome i (some n) o s = s := by
  have hn : (s.line i).phase.names (some n) = false := by
    rw [← Bool.not_eq_true, phase_names_some]
    exact h
  unfold strokeOutcome
  dsimp only
  rw [hn]
  rfl

section
variable {i : LineNo} {n : Nat} {s : State}

theorem strokeOutcome_done (h : (s.line i).phase = .requested n) (vs : List Nat) :
    strokeOutcome i (some n) (.done vs) s = setLine i { s.line i with phase := .running } s := by
  unfold strokeOutcome
  dsimp only
  rw [(phase_names_some _ n).mpr h]
  rfl

theorem strokeOutcome_cancelled (h : (s.line i).phase = .requested n) :
    strokeOutcome i (some n) .cancelled s = checkStroke i (setLine i { s.line i with phase := .none } s) := by
  unfold strokeOutcome
  dsimp only
  rw [(phase_names_some _ n).mpr h]
  rfl

theorem strokeOutcome_portLost (h : (s.line i).phase = .requested n) :
    strokeOutcome i (some n) .portLost s = losePump (pumpPort i) s := by
  unfold strokeOutcome
  dsimp only
  rw [(phase_names_some _ n).mpr h]
  rfl

theorem strokeOutcome_failed (h : (s.line i).phase = .requested n) {o : ReqOutcome} {why : FaultCause × LineCause}
    (ho : strokeFailure o = some why) : strokeOutcome i (some n) o s =
      if (s.line i).state.running then
        writeGrout (faultLine i .actionFailed why.1 why.2 (setLine i { s.line i with phase := .none } s))
      else setLine i { s.line i with phase := .none } s := by
  unfold strokeOutcome
  dsimp only
  rw [(phase_names_some _ n).mpr h]
  cases o with
  | done _ | portLost | cancelled => exact absurd ho nofun
  | refused _ | busyExhausted | noAnswer =>
    cases ho
    rfl

end

/-- A failed stroke of a running line: the line FAULTED with its stroke gone, ACTION_FAILED and the LINE report (R79, R89). -/
theorem strokeFailed_running {i : LineNo} {s : State} (hr : (s.line i).state.running = true) (c : FaultCause)
    (told : LineCause) {t : State}
    (ht : t = writeGrout (faultLine i .actionFailed c told (setLine i { s.line i with phase := .none } s))) :
    t.lines = put s.lines i { s.line i with
        phase := .none, state := .faulted, timer := none, timings := (s.line i).staged.getD (s.line i).timings
        staged := none }
      ∧ FaultAdded ⟨.actionFailed, .grout, none, some (pumpPort i), some i.val, c, s.ring.number, s.adv.x⟩ s t
      ∧ Reported (.line i (s.line i).state .faulted (s.line i).mode told (s.line i).backlog .none s.ring.number) t
      ∧ Acted (.lines :: .out :: permitReach) s t := by
  subst ht
  have k := faultedLine_faultLine i .actionFailed c told (setLine i { s.line i with phase := .none } s)
  set u := setLine i { s.line i with phase := .none } s with hu
  have hl : u.line i = { s.line i with phase := .none } := line_setLine_self _ _ _
  generalize faultLine i .actionFailed c told u = v at k
  have hg : Grown s (writeGrout v) := (grown_setLine _ _ _).trans (k.grown.trans (inside_writeGrout v).grown)
  refine ⟨?_, ?_, ?_, hg.replies, hg.link, ?_⟩
  · rw [writeGrout_lines]
    refine lines_of_line fun j => ?_
    rw [k.line, hl]
    split
    · rfl
    · rename_i hij
      rw [hu, line_setLine, if_neg hij]
  · exact (k.added.before (u := s) rfl).writeGrout
  · have := k.reported (by rw [hl]; intro e; rw [show (s.line i).state = .faulted from e] at hr; exact absurd hr nofun)
    rw [hl] at this
    exact this.grown (inside_writeGrout v).grown
  · exact ((agree_setLine _ _ _).mono (by simp)).trans ((k.agree.mono (by simp +contextual)).trans
      ((agree_writeGrout v).mono (by simp +contextual)))

/-- Settles O24: the stroke where it is placed, the check by what is due, and the outcome by its kind. -/
theorem strokeRequestRule : Obligations.StrokeRequestRule := by
  unfold Obligations.StrokeRequestRule
  refine ⟨fun i s hp => ?_, fun i s => ⟨issueStroke_lost, ?_⟩, fun i n o s => ?_⟩
  · have k := issuing_issueStroke hp
    refine ⟨fun ht hm => ?_, fun h => ?_, k.image, k.agree⟩
    · rw [issueStroke_registered hp ⟨ht, hm⟩]
      exact ⟨rfl, rfl, rfl⟩
    · rw [issueStroke_waiting hp h]
      exact ⟨rfl, rfl, rfl⟩
  · unfold checkStroke
    simp only [due_iff]
  · dsimp only
    refine ⟨strokeOutcome_ignored, fun h => ⟨?_, ?_, ?_, fun why hw hr => ?_, fun why hw hr => ?_⟩⟩
    · rintro vs rfl
      exact strokeOutcome_done h vs
    · rintro rfl
      exact strokeOutcome_cancelled h
    · rintro rfl
      exact strokeOutcome_portLost h
    · have ho : strokeFailure o = some why := by cases o <;> exact hw
      rw [strokeOutcome_failed h ho, hr]
      rfl
    · have ho : strokeFailure o = some why := by cases o <;> exact hw
      refine strokeFailed_running hr why.1 why.2 ?_
      rw [strokeOutcome_failed h ho, if_pos hr]

end Sys2Proof.Machine

/-! SUPPORT. LINE_RUN and LINE_PRIME (R77, R83, R84, R85): the line as it starts, its first stroke, and the refusals. -/

namespace Sys2Proof.Machine

/-! ## The remainders (R77) -/

theorem clearRemainders_line (i : LineNo) (s : State) : (clearRemainders s).line i = { s.line i with rem := 0 } := by
  simp [clearRemainders, contribute, State.line]

theorem clearRemainders_current (s : State) : (clearRemainders s).ring.current
    = s.ring.current.map fun r => { r with unassigned := sat32 r.unassigned (remSum s.lines / trackWeight s.lines) } := rfl

theorem clearRemainders_unassigned (s : State) : (clearRemainders s).ring.current.map (·.unassigned)
    = s.ring.current.map fun r => min (r.unassigned + remSum s.lines / trackWeight s.lines) 4294967295 := by
  rw [clearRemainders_current, Option.map_map]
  rfl

theorem agree_clearRemainders (s : State) : AgreeBut [.lines, .ring] s (clearRemainders s) :=
  (agree_setLines (by simp) _ s).trans ((agree_contribute _ _).mono (by simp))

theorem grown_clearRemainders (s : State) : Grown s (clearRemainders s) := .of_link rfl

theorem number_clearRemainders (s : State) : (clearRemainders s).ring.number = s.ring.number :=
  frame_number (inside_clearRemainders s).frame

/-- The port stands as it stood where the Port Table does. -/
theorem portUp_of_ports {s t : State} (h : t.ports = s.ports) (p : PortNo) : t.portUp p = s.portUp p := by
  unfold State.portUp
  rw [h]

/-! ## The rows of the line commands, handed on (R180) -/

section
variable {s u : State} {tag : Byte} {st : Status} {data : List Byte} {line : Nat}

theorem exec_lineRun {mode : Nat} (h : handsOn s) (ht : takeLineRun line mode s = (u, st, data)) :
    exec (.lineRun tag line mode) s = .next (withReply tag 0x20 st data u) :=
  exec_command (c := .lineRun line mode) rfl h ht

theorem exec_linePrime (h : handsOn s) (ht : takeLinePrime line s = (u, st, data)) :
    exec (.linePrime tag line) s = .next (withReply tag 0x21 st data u) :=
  exec_command (c := .linePrime line) rfl h ht

theorem exec_lineStop (h : handsOn s) (ht : takeLineStop line s = (u, st, data)) :
    exec (.lineStop tag line) s = .next (withReply tag 0x22 st data u) :=
  exec_command (c := .lineStop line) rfl h ht

theorem exec_lineClear (h : handsOn s) (ht : takeLineClear line s = (u, st, data)) :
    exec (.lineClear tag line) s = .next (withReply tag 0x23 st data u) :=
  exec_command (c := .lineClear line) rfl h ht

theorem exec_setLine {weight vs pLimit lag tP tS tW : Nat} (h : handsOn s)
    (ht : takeSetLine line weight vs pLimit lag tP tS tW s = (u, st, data)) :
    exec (.setLine tag line weight vs pLimit lag tP tS tW) s = .next (withReply tag 0x24 st data u) :=
  exec_command (c := .setLine line weight vs pLimit lag tP tS tW) rfl h ht

theorem Reported.withReply {r : Report} {code : Byte} (h : Reported r u) : Reported r (withReply tag code st data u) := h

end

/-- The result data of a line in a mode and a state, whose codes spell the bytes given (R83). -/
theorem lineData_eq {l : Line} {bytes : List Byte} {mode : LineMode} {state : LineState} (hm : l.mode = mode)
    (hs : l.state = state) (hb : u8 mode.code ++ u8 state.code = bytes) : lineData l = bytes ++ u32 l.backlog := by
  subst hm hs hb
  rfl

/-! ## LINE_RUN (R83) -/

/-- The line started in TRACK or PULSE, before the check for its first stroke. -/
def lineStarted (i : LineNo) (mode : LineMode) (s : State) : State :=
  if mode = .track then moveLine i .tracking .track .none (clearRemainders s)
  else startTimer i .delivery (s.line i).timings.tP (moveLine i .pulseDeliver .pulse .none s)

section
variable {i : LineNo} {s : State}

theorem runLine_taken {mode : LineMode} (hm : s.out.mode = .normal) (hs : (s.line i).state = .stopped)
    (hp : s.portUp (pumpPort i) = true) :
    ∃ t, runLine i mode s = (t, .ok, lineData (t.line i)) ∧ t = writeGrout (checkStroke i (lineStarted i mode s)) := by
  refine ⟨_, ?_, rfl⟩
  unfold runLine
  dsimp only
  rw [if_neg (not_not.mpr hm), hs, if_neg (fun h => absurd h.2 nofun), if_neg (fun h => h.2.elim nofun nofun),
    if_neg (not_not.mpr rfl), hp, Bool.not_true, if_neg nofun]
  rfl

theorem takeLineRun_track (i : LineNo) (s : State) : takeLineRun i.val 1 s = runLine i .track s := by
  unfold takeLineRun
  rw [dif_pos i.isLt]
  rfl

theorem takeLineRun_pulse (i : LineNo) (s : State) : takeLineRun i.val 2 s = runLine i .pulse s := by
  unfold takeLineRun
  rw [dif_pos i.isLt]
  rfl

theorem lineStarted_track_line (i j : LineNo) (s : State) : (lineStarted i .track s).line j =
    if i = j then { s.line i with mode := .track, state := .tracking, rem := 0 } else { s.line j with rem := 0 } := by
  unfold lineStarted
  rw [if_pos rfl, moveLine_line, clearRemainders_line, clearRemainders_line]

theorem lineStarted_pulse_line (i j : LineNo) (s : State) : (lineStarted i .pulse s).line j =
    if i = j then { s.line i with
      mode := .pulse, state := .pulseDeliver, timer := some (.delivery, (s.line i).timings.tP) }
    else s.line j := by
  unfold lineStarted startTimer
  rw [if_neg nofun, line_setLine, moveLine_line, moveLine_line, if_pos rfl]
  split <;> rfl

theorem agree_startTimer (i : LineNo) (k : LineTimerKind) (d : Nat) (s : State) :
    AgreeBut [.lines] s (startTimer i k d s) := agree_setLine _ _ _

theorem agree_lineStarted_pulse (i : LineNo) (s : State) : AgreeBut [.link, .lines] s (lineStarted i .pulse s) :=
  (agree_moveLine _ _ _ _ s).trans ((agree_startTimer _ _ _ _).mono (by simp))

theorem agree_lineStarted_track (i : LineNo) (s : State) :
    AgreeBut [.link, .lines, .ring] s (lineStarted i .track s) :=
  ((agree_clearRemainders s).mono (by simp)).trans ((agree_moveLine _ _ _ _ _).mono (by simp))

theorem grown_lineStarted (i : LineNo) (mode : LineMode) (s : State) : Grown s (lineStarted i mode s) := by
  unfold lineStarted
  split
  · exact (grown_clearRemainders s).trans (grown_moveLine _ _ _ _ _)
  · exact (grown_moveLine _ _ _ _ s).trans (grown_setLine _ _ _)

theorem lineStarted_unassigned (i : LineNo) (s : State) : (lineStarted i .track s).ring.current.map (·.unassigned)
    = s.ring.current.map fun r => min (r.unassigned + remSum s.lines / trackWeight s.lines) 4294967295 := by
  rw [← clearRemainders_unassigned,
    ← show (lineStarted i .track s).ring = (clearRemainders s).ring from agree_moveLine _ _ _ _ _ .ring (by simp)]

theorem reported_lineStarted_track (hs : (s.line i).state = .stopped) :
    Reported (.line i .stopped .tracking .track .none (s.line i).backlog (s.line i).phase s.ring.number)
      (lineStarted i .track s) := by
  have h := moveLine_reported (i := i) (st := .tracking) (m := .track) (c := .none) (s := clearRemainders s)
    (by rw [clearRemainders_line]; dsimp only; rw [hs]; exact nofun)
  rw [clearRemainders_line, number_clearRemainders, hs] at h
  exact h

theorem reported_lineStarted_pulse (hs : (s.line i).state = .stopped) :
    Reported (.line i .stopped .pulseDeliver .pulse .none (s.line i).backlog (s.line i).phase s.ring.number)
      (lineStarted i .pulse s) := by
  have h := moveLine_reported (i := i) (st := .pulseDeliver) (m := .pulse) (c := .none) (s := s)
    (by rw [hs]; exact nofun)
  rw [hs] at h
  exact h.grown (grown_setLine _ _ _)

/-- LINE_RUN in TRACK on a stopped line whose pump is in service (R77, R78, R83, R94). -/
theorem lineRun_track {tag : Byte} (h : handsOn s) (hm : s.out.mode = .normal) (hs : (s.line i).state = .stopped)
    (hp : s.portUp (pumpPort i) = true) : ∃ t, exec (.lineRun tag i.val 1) s = .next t
      ∧ t.line i = { s.line i with mode := .track, state := .tracking, rem := 0, phase := (t.line i).phase }
      ∧ ((s.line i).phase = .none → (s.line i).vs ≤ (s.line i).backlog → StrokeIssued i t)
      ∧ (((s.line i).phase ≠ .none ∨ (s.line i).backlog < (s.line i).vs) → (t.line i).phase = (s.line i).phase)
      ∧ (∀ j, j ≠ i → t.line j = { s.line j with rem := 0 })
      ∧ t.ring.current.map (·.unassigned)
        = s.ring.current.map (fun r => min (r.unassigned + remSum s.lines / trackWeight s.lines) 4294967295)
      ∧ Reported (.line i .stopped .tracking .track .none (s.line i).backlog (s.line i).phase s.ring.number) t
      ∧ Answered (.lines :: permitReach) s t tag 0x20 .ok ([1, 3] ++ u32 (s.line i).backlog) := by
  have ha := agree_lineStarted_track i s
  have hl := lineStarted_track_line i (s := s)
  have hup : (lineStarted i .track s).portUp (pumpPort i) = true := by
    rw [portUp_of_ports (ha .ports (by simp)), hp]
  have k := stroked_checkStroke fun _ => hup
  obtain ⟨t, ht, hw⟩ := runLine_taken (mode := .track) hm hs hp
  rw [← hw] at k
  have hline : t.line i = { s.line i with
      mode := .track, state := .tracking, rem := 0, phase := (t.line i).phase } := by
    rw [k.line, hl, if_pos rfl]
  have hdata : lineData (t.line i) = [1, 3] ++ u32 (s.line i).backlog := by
    rw [lineData_eq (l := t.line i) (mode := .track) (state := .tracking) (by rw [hline]) (by rw [hline]) rfl, hline]
    rfl
  refine ⟨_, exec_lineRun h ((takeLineRun_track i s).trans ht), hline, fun hph hb => ?_,
    fun hd => ?_, fun j hj => ?_, ?_, ?_, ?_⟩
  · refine k.issued ((due_iff _).mpr ?_)
    rw [hl, if_pos rfl]
    exact ⟨hph, .inr ⟨rfl, hb⟩⟩
  · have hst := (k.still fun hdue => ?_).1
    · refine (congrArg Line.phase hst).trans ?_
      rw [hl, if_pos rfl]
    · rw [due_iff, hl, if_pos rfl] at hdue
      obtain ⟨hph, hx⟩ := hdue
      have hb : (s.line i).vs ≤ (s.line i).backlog := (hx.resolve_left nofun).2
      exact hd.elim (fun e => e hph) fun e => absurd hb (by omega)
  · refine (k.others j hj).trans ?_
    rw [hl, if_neg (Ne.symm hj)]
  · exact (map_figure (·.1) k.figures).trans (lineStarted_unassigned i s)
  · exact ((reported_lineStarted_track hs).grown k.grown).withReply
  · rw [hdata]
    exact .of_taken ((grown_lineStarted i .track s).trans k.grown)
      ((ha.mono (by simp [permitReach])).trans k.agree)

/-- LINE_RUN in PULSE on a stopped line whose pump is in service (R78, R83, R84, R94). -/
theorem lineRun_pulse {tag : Byte} (h : handsOn s) (hm : s.out.mode = .normal) (hs : (s.line i).state = .stopped)
    (hp : s.portUp (pumpPort i) = true) : ∃ t, exec (.lineRun tag i.val 2) s = .next t
      ∧ t.line i = { s.line i with
          mode := .pulse, state := .pulseDeliver, timer := some (.delivery, (s.line i).timings.tP)
          phase := (t.line i).phase }
      ∧ ((s.line i).phase = .none → StrokeIssued i t)
      ∧ ((s.line i).phase ≠ .none → (t.line i).phase = (s.line i).phase)
      ∧ (∀ j, j ≠ i → t.line j = s.line j)
      ∧ Reported (.line i .stopped .pulseDeliver .pulse .none (s.line i).backlog (s.line i).phase s.ring.number) t
      ∧ Answered (.lines :: permitReach) s t tag 0x20 .ok ([2, 4] ++ u32 (s.line i).backlog) := by
  have ha := agree_lineStarted_pulse i s
  have hl := lineStarted_pulse_line i (s := s)
  have hup : (lineStarted i .pulse s).portUp (pumpPort i) = true := by
    rw [portUp_of_ports (ha .ports (by simp)), hp]
  have k := stroked_checkStroke fun _ => hup
  obtain ⟨t, ht, hw⟩ := runLine_taken (mode := .pulse) hm hs hp
  rw [← hw] at k
  have hline : t.line i = { s.line i with
      mode := .pulse, state := .pulseDeliver, timer := some (.delivery, (s.line i).timings.tP)
      phase := (t.line i).phase } := by
    rw [k.line, hl, if_pos rfl]
  have hdata : lineData (t.line i) = [2, 4] ++ u32 (s.line i).backlog := by
    rw [lineData_eq (l := t.line i) (mode := .pulse) (state := .pulseDeliver) (by rw [hline]) (by rw [hline]) rfl, hline]
    rfl
  refine ⟨_, exec_lineRun h ((takeLineRun_pulse i s).trans ht), hline, fun hph => ?_,
    fun hd => ?_, fun j hj => ?_, ((reported_lineStarted_pulse hs).grown k.grown).withReply, ?_⟩
  · refine k.issued ((due_iff _).mpr ?_)
    rw [hl, if_pos rfl]
    exact ⟨hph, .inl rfl⟩
  · have hst := (k.still fun hdue => ?_).1
    · refine (congrArg Line.phase hst).trans ?_
      rw [hl, if_pos rfl]
    · rw [due_iff, hl, if_pos rfl] at hdue
      exact hd hdue.1
  · refine (k.others j hj).trans ?_
    rw [hl, if_neg (Ne.symm hj)]
  · rw [hdata]
    exact .of_taken ((grown_lineStarted i .pulse s).trans k.grown)
      ((ha.mono (by simp [permitReach])).trans k.agree)

end

/-! ## Entry into PRIME_STROKE (R78, R85) -/

/-- The line in PRIME_STROKE, before its stroke is issued. -/
def primeEntered (i : LineNo) (s : State) : State :=
  moveLine i .primeStroke (s.line i).mode .none (setLine i (s.line i).rest s)

theorem primeEntered_line (i j : LineNo) (s : State) : (primeEntered i s).line j =
    if i = j then { (s.line i).rest with state := .primeStroke } else s.line j := by
  unfold primeEntered
  rw [moveLine_line, line_setLine_self, line_setLine]
  split
  · rfl
  · rfl

theorem agree_primeEntered (i : LineNo) (s : State) : AgreeBut [.link, .lines] s (primeEntered i s) :=
  ((agree_setLine _ _ s).mono (by simp)).trans (agree_moveLine _ _ _ _ _)

theorem grown_primeEntered (i : LineNo) (s : State) : Grown s (primeEntered i s) :=
  (grown_setLine _ _ s).trans (grown_moveLine _ _ _ _ _)

theorem reported_primeEntered {i : LineNo} {s : State} (h : (s.line i).state ≠ .primeStroke) :
    Reported (.line i (s.line i).state .primeStroke (s.line i).mode .none (s.line i).backlog (s.line i).phase
      s.ring.number) (primeEntered i s) := by
  have hr := moveLine_reported (i := i) (st := .primeStroke) (m := (s.line i).mode) (c := .none)
    (s := setLine i (s.line i).rest s) (by rw [line_setLine_self]; exact h)
  rw [line_setLine_self] at hr
  exact hr

theorem primeStroke_eq (i : LineNo) (s : State) : primeStroke i s =
    if ((primeEntered i s).line i).phase = .none then issueStroke i (primeEntered i s) else primeEntered i s := rfl

theorem stroked_primeStroke {i : LineNo} {s : State}
    (hp : (s.line i).phase = .none → s.portUp (pumpPort i) = true) :
    Stroked ((s.line i).phase = .none) i (primeEntered i s) (writeGrout (primeStroke i s)) := by
  have hup : (s.line i).phase = .none → (primeEntered i s).portUp (pumpPort i) = true := fun h => by
    rw [portUp_of_ports (agree_primeEntered i s .ports (by simp)), hp h]
  have hph : ((primeEntered i s).line i).phase = (s.line i).phase := by
    rw [primeEntered_line, if_pos rfl]
    rfl
  rw [primeStroke_eq, hph]
  exact stroked_of_due hup

/-! ## LINE_PRIME (R85) -/

/-- The line in PRIME_WAIT with its timer started. -/
def primeWaiting (i : LineNo) (s : State) : State :=
  startTimer i .prime (s.line i).timings.tW (moveLine i .primeWait (s.line i).mode .none s)

theorem primeWaiting_line (i j : LineNo) (s : State) : (primeWaiting i s).line j =
    if i = j then { s.line i with state := .primeWait, timer := some (.prime, (s.line i).timings.tW) }
    else s.line j := by
  unfold primeWaiting startTimer
  rw [line_setLine, moveLine_line, moveLine_line, if_pos rfl]
  split <;> rfl

theorem agree_primeWaiting (i : LineNo) (s : State) : AgreeBut [.link, .lines] s (primeWaiting i s) :=
  (agree_moveLine _ _ _ _ s).trans ((agree_startTimer _ _ _ _).mono (by simp))

theorem grown_primeWaiting (i : LineNo) (s : State) : Grown s (primeWaiting i s) :=
  (grown_moveLine _ _ _ _ s).trans (grown_setLine _ _ _)

section
variable {i : LineNo} {s : State}

theorem reported_primeWaiting (hs : (s.line i).state = .stopped) (hph : (s.line i).phase = .none) :
    Reported (.line i .stopped .primeWait (s.line i).mode .none (s.line i).backlog .none s.ring.number)
      (primeWaiting i s) := by
  have h := moveLine_reported (i := i) (st := .primeWait) (m := (s.line i).mode) (c := .none) (s := s)
    (by rw [hs]; exact nofun)
  rw [hs, hph] at h
  exact h.grown (grown_setLine _ _ _)

theorem primeLine_taken (hm : s.out.mode = .normal) (hs : (s.line i).state = .stopped)
    (hph : (s.line i).phase = .none) (hp : s.portUp (pumpPort i) = true) : primeLine i s =
      (writeGrout (if (s.line i).timings.tW = 0 then primeStroke i (primeWaiting i s) else primeWaiting i s), .ok, []) := by
  unfold primeLine
  dsimp only
  rw [if_neg (not_not.mpr hm), hs, if_neg (fun h => h.elim nofun nofun), if_neg (not_not.mpr rfl),
    if_neg (not_not.mpr hph), hp, Bool.not_true, if_neg nofun]
  rfl

theorem takeLinePrime_line (i : LineNo) (s : State) : takeLinePrime i.val s = primeLine i s := dif_pos i.isLt

/-- LINE_PRIME with a wait (R85, R94). -/
theorem linePrime_waits {tag : Byte} (h : handsOn s) (hm : s.out.mode = .normal) (hs : (s.line i).state = .stopped)
    (hp : s.portUp (pumpPort i) = true) (hph : (s.line i).phase = .none) (hw : (s.line i).timings.tW ≠ 0) :
    ∃ t, exec (.linePrime tag i.val) s = .next t
      ∧ t.line i = { s.line i with state := .primeWait, timer := some (.prime, (s.line i).timings.tW) }
      ∧ (∀ j, j ≠ i → t.line j = s.line j)
      ∧ Reported (.line i .stopped .primeWait (s.line i).mode .none (s.line i).backlog .none s.ring.number) t
      ∧ Answered (.lines :: permitReach) s t tag 0x21 .ok [] := by
  have ht := primeLine_taken hm hs hph hp
  rw [if_neg hw] at ht
  have k := spared_writeGrout (primeWaiting i s)
  have hr := (reported_primeWaiting hs hph).grown k.grown
  refine ⟨_, exec_linePrime h ((takeLinePrime_line i s).trans ht), ?_, fun j hj => ?_, hr.withReply, ?_⟩
  · refine (k.line i).trans ?_
    rw [primeWaiting_line, if_pos rfl]
  · refine (k.line j).trans ?_
    rw [primeWaiting_line, if_neg (Ne.symm hj)]
  · exact .of_taken ((grown_primeWaiting i s).trans k.grown)
      (((agree_primeWaiting i s).mono (by simp)).trans ((agree_writeGrout _).mono (by simp +contextual)))

/-- LINE_PRIME with no wait: PRIME_WAIT, and PRIME_STROKE with its one stroke (R78, R85, R94). -/
theorem linePrime_strokes {tag : Byte} (h : handsOn s) (hm : s.out.mode = .normal) (hs : (s.line i).state = .stopped)
    (hp : s.portUp (pumpPort i) = true) (hph : (s.line i).phase = .none) (hw : (s.line i).timings.tW = 0) :
    ∃ t, exec (.linePrime tag i.val) s = .next t
      ∧ t.line i = { s.line i with
          state := .primeStroke, timer := none, timings := (s.line i).staged.getD (s.line i).timings
          staged := none, phase := (t.line i).phase }
      ∧ StrokeIssued i t ∧ (∀ j, j ≠ i → t.line j = s.line j)
      ∧ Reported (.line i .stopped .primeWait (s.line i).mode .none (s.line i).backlog .none s.ring.number) t
      ∧ Reported (.line i .primeWait .primeStroke (s.line i).mode .none (s.line i).backlog .none s.ring.number) t
      ∧ Answered (.lines :: permitReach) s t tag 0x21 .ok [] := by
  have ht := primeLine_taken hm hs hph hp
  rw [if_pos hw] at ht
  have hr := reported_primeWaiting hs hph
  have ha := agree_primeWaiting i s
  have hg := grown_primeWaiting i s
  have hl := primeWaiting_line i (s := s)
  generalize primeWaiting i s = w at ht hr ha hg hl
  have hli := hl i
  rw [if_pos rfl] at hli
  have hup : w.portUp (pumpPort i) = true := by rw [portUp_of_ports (ha .ports (by simp)), hp]
  have k := stroked_primeStroke fun _ => hup
  have hge := grown_primeEntered i w
  have hre := reported_primeEntered (i := i) (s := w) (by rw [hli]; exact nofun)
  rw [hli, show w.ring.number = s.ring.number from congrArg Ring.number (ha .ring (by simp)), hph] at hre
  have hge' := hge.trans k.grown
  generalize writeGrout (primeStroke i w) = t at ht k hge'
  refine ⟨_, exec_linePrime h ((takeLinePrime_line i s).trans ht), ?_, k.issued (by rw [hli]; exact hph),
    fun j hj => ?_, (hr.grown hge').withReply, (hre.grown k.grown).withReply, ?_⟩
  · refine k.line.trans ?_
    rw [primeEntered_line, if_pos rfl, hli]
    rfl
  · refine (k.others j hj).trans ?_
    rw [primeEntered_line, if_neg (Ne.symm hj), hl, if_neg (Ne.symm hj)]
  · exact .of_taken (hg.trans hge')
      ((ha.mono (by simp)).trans (((agree_primeEntered i w).mono (by simp)).trans k.agree))

end

/-! ## The refusals (R83, R85) -/

section
variable {i : LineNo} {s : State} {mode : LineMode}

theorem runLine_of_mode (h : s.out.mode ≠ .normal) : runLine i mode s = refuse .wrongState s := if_pos h

/-- The mode the line is already in (R83). -/
def runsIn (mode : LineMode) (st : LineState) : Prop :=
  mode = .track ∧ st = .tracking ∨ mode = .pulse ∧ (st = .pulseDeliver ∨ st = .pulsePause)

theorem runLine_already (hm : s.out.mode = .normal) (h : runsIn mode (s.line i).state) :
    runLine i mode s = refuse .already s := by
  unfold runLine
  dsimp only
  rw [if_neg (not_not.mpr hm)]
  rcases h with h | h
  · exact if_pos h
  · have ht : mode ≠ .track := by rw [h.1]; exact nofun
    rw [if_neg fun e => ht e.1]
    exact if_pos h

theorem runLine_wrongState (hm : s.out.mode = .normal) (hn : ¬ runsIn mode (s.line i).state)
    (h : (s.line i).state ≠ .stopped) : runLine i mode s = refuse .wrongState s := by
  unfold runLine
  dsimp only
  rw [if_neg (not_not.mpr hm), if_neg fun e => hn (.inl e), if_neg fun e => hn (.inr e)]
  exact if_pos h

theorem runLine_portNotReady (hm : s.out.mode = .normal) (hs : (s.line i).state = .stopped)
    (hp : s.portUp (pumpPort i) = false) : runLine i mode s = refuse .portNotReady s := by
  unfold runLine
  dsimp only
  rw [if_neg (not_not.mpr hm), hs, if_neg (fun h => absurd h.2 nofun), if_neg (fun h => h.2.elim nofun nofun),
    if_neg (not_not.mpr rfl), hp]
  rfl

theorem primeLine_of_mode (h : s.out.mode ≠ .normal) : primeLine i s = refuse .wrongState s := if_pos h

theorem primeLine_already (hm : s.out.mode = .normal)
    (h : (s.line i).state = .primeWait ∨ (s.line i).state = .primeStroke) : primeLine i s = refuse .already s := by
  unfold primeLine
  dsimp only
  rw [if_neg (not_not.mpr hm)]
  exact if_pos h

theorem primeLine_wrongState (hm : s.out.mode = .normal)
    (hn : ¬ ((s.line i).state = .primeWait ∨ (s.line i).state = .primeStroke)) (h : (s.line i).state ≠ .stopped) :
    primeLine i s = refuse .wrongState s := by
  unfold primeLine
  dsimp only
  rw [if_neg (not_not.mpr hm), if_neg hn]
  exact if_pos h

theorem primeLine_stroking (hm : s.out.mode = .normal) (hs : (s.line i).state = .stopped)
    (h : (s.line i).phase ≠ .none) : primeLine i s = refuse .wrongState s := by
  unfold primeLine
  dsimp only
  rw [if_neg (not_not.mpr hm), hs, if_neg (fun h => h.elim nofun nofun), if_neg (not_not.mpr rfl)]
  exact if_pos h

theorem primeLine_portNotReady (hm : s.out.mode = .normal) (hs : (s.line i).state = .stopped)
    (hph : (s.line i).phase = .none) (hp : s.portUp (pumpPort i) = false) :
    primeLine i s = refuse .portNotReady s := by
  unfold primeLine
  dsimp only
  rw [if_neg (not_not.mpr hm), hs, if_neg (fun h => h.elim nofun nofun), if_neg (not_not.mpr rfl),
    if_neg (not_not.mpr hph), hp]
  rfl

end

theorem takeLineRun_badValue {line mode : Nat} (s : State) (h : 5 < line ∨ (mode ≠ 1 ∧ mode ≠ 2)) :
    takeLineRun line mode s = refuse .badValue s := by
  unfold takeLineRun
  split
  · obtain ⟨h1, h2⟩ := h.resolve_left (by omega)
    rw [if_neg h1, if_neg h2]
  · rfl

/-- Settles O25: what is taken by the four rules above, and each refusal by the first condition that fails. -/
theorem linesStart : Obligations.LinesStart := by
  unfold Obligations.LinesStart
  refine ⟨fun tag i s h hm hs hp => ⟨lineRun_track h hm hs hp, lineRun_pulse h hm hs hp,
      linePrime_waits h hm hs hp, linePrime_strokes h hm hs hp⟩, fun tag i s h => ?_,
    fun tag line mode s h => ⟨fun hb => ?_, fun hb => ?_⟩⟩
  · dsimp only
    have run1 : ∀ st, runLine i .track s = refuse st s →
        exec (.lineRun tag i.val 1) s = .next (withReply tag 0x20 st [] s) := fun st e =>
      exec_lineRun h ((takeLineRun_track i s).trans e)
    have run2 : ∀ st, runLine i .pulse s = refuse st s →
        exec (.lineRun tag i.val 2) s = .next (withReply tag 0x20 st [] s) := fun st e =>
      exec_lineRun h ((takeLineRun_pulse i s).trans e)
    have prime : ∀ st, primeLine i s = refuse st s →
        exec (.linePrime tag i.val) s = .next (withReply tag 0x21 st [] s) := fun st e =>
      exec_linePrime h ((takeLinePrime_line i s).trans e)
    refine ⟨fun hm => ⟨run1 _ (runLine_of_mode hm), run2 _ (runLine_of_mode hm), prime _ (primeLine_of_mode hm)⟩,
      fun hm => ⟨fun hs => ?_, fun hs => ?_, fun hs => ?_,
        fun hs hp => ⟨run1 _ (runLine_portNotReady hm hs hp), run2 _ (runLine_portNotReady hm hs hp)⟩,
        fun hs => prime _ (primeLine_already hm hs), fun hs => ?_,
        fun hs hph => prime _ (primeLine_stroking hm hs hph),
        fun hs hph hp => prime _ (primeLine_portNotReady hm hs hph hp)⟩⟩
    · exact ⟨run1 _ (runLine_already hm (.inl ⟨rfl, hs⟩)),
        run2 _ (runLine_wrongState hm (by simp [runsIn, hs]) (by simp [hs]))⟩
    · exact ⟨run1 _ (runLine_wrongState hm (by rcases hs with e | e <;> simp [runsIn, e])
          (by rcases hs with e | e <;> simp [e])),
        run2 _ (runLine_already hm (.inr ⟨rfl, hs⟩))⟩
    · have hn : ∀ mode, ¬ runsIn mode (s.line i).state := fun mode => by
        rcases hs with e | e | e | e <;> simp [runsIn, e]
      have hne : (s.line i).state ≠ .stopped := by rcases hs with e | e | e | e <;> simp [e]
      exact ⟨run1 _ (runLine_wrongState hm (hn _) hne), run2 _ (runLine_wrongState hm (hn _) hne)⟩
    · exact prime _ (primeLine_wrongState hm (by rcases hs with e | e | e | e | e <;> simp [e])
        (by rcases hs with e | e | e | e | e <;> simp [e]))
  · exact exec_lineRun h (takeLineRun_badValue s hb)
  · exact exec_linePrime h (dif_neg (show ¬ line < 6 by omega))

end Sys2Proof.Machine

/-! SUPPORT. LINE_STOP and LINE_CLEAR (R77, R84, R86, R87): the line taken out of its mode, its stroke dropped. -/

namespace Sys2Proof.Machine

/-! ## What the sums over the lines read (R75, R77) -/

/-- What the sum of the weights and the sum of the remainders read of a line. -/
def Line.weighed (l : Line) : LineMode × Nat × Nat := (l.mode, l.weight, l.rem)

theorem trackWeight_eq (lines : Vector Line 6) : trackWeight lines =
    (((lines.toList.map Line.weighed).filter (·.1 == .track)).map (·.2.1)).sum := by
  rw [List.filter_map, List.map_map]
  rfl

theorem remSum_eq (lines : Vector Line 6) : remSum lines = ((lines.toList.map Line.weighed).map (·.2.2)).sum := by
  rw [List.map_map]
  rfl

/-- The volume that no line has been given, and which a clearing of the remainders hands on (R77). -/
def undistributed (s : State) : Nat := remSum s.lines / trackWeight s.lines

theorem undistributed_of_weighed {s t : State} (h : ∀ j, (t.line j).weighed = (s.line j).weighed) :
    undistributed t = undistributed s := by
  have hl : t.lines.toList.map Line.weighed = s.lines.toList.map Line.weighed := by
    rw [map_toList_lines, map_toList_lines]
    exact List.map_congr_left fun j _ => h j
  unfold undistributed
  rw [remSum_eq, remSum_eq, trackWeight_eq, trackWeight_eq, hl]

/-! ## A line taken out of TRACK (R77) -/

/-- The remainder of a line once line i has left its mode. -/
def remLeft (mode : LineMode) (l : Line) : Nat := if mode = .track then 0 else l.rem

/-- The unassigned grout of a record once a line has left its mode. -/
def unassignedLeft (mode : LineMode) (volume : Nat) (r : Record) : Nat :=
  if mode = .track then min (r.unassigned + volume) 4294967295 else r.unassigned

theorem line_leaveTrack (i j : LineNo) (s : State) :
    (leaveTrack i s).line j = { s.line j with rem := remLeft (s.line i).mode (s.line j) } := by
  unfold leaveTrack remLeft
  split
  · rw [clearRemainders_line]
  · rfl

theorem leaveTrack_unassigned (i : LineNo) (s : State) : (leaveTrack i s).ring.current.map (·.unassigned)
    = s.ring.current.map (unassignedLeft (s.line i).mode (undistributed s)) := by
  unfold leaveTrack unassignedLeft
  split
  · exact clearRemainders_unassigned s
  · rfl

theorem agree_leaveTrack (i : LineNo) (s : State) : AgreeBut [.lines, .ring] s (leaveTrack i s) := by
  unfold leaveTrack
  split
  · exact agree_clearRemainders s
  · exact .refl _ s

theorem number_leaveTrack (i : LineNo) (s : State) : (leaveTrack i s).ring.number = s.ring.number :=
  frame_number (inside_leaveTrack i s).frame

/-- Line i out of its mode and STOPPED, and the GROUT entry written (R77, R86, R87). -/
structure LineLeft (i : LineNo) (s t : State) : Prop where
  line : t.line i = { s.line i with mode := .none, state := .stopped, rem := remLeft (s.line i).mode (s.line i) }
  others : ∀ j, j ≠ i → t.line j = { s.line j with rem := remLeft (s.line i).mode (s.line j) }
  unassigned : t.ring.current.map (·.unassigned)
    = s.ring.current.map (unassignedLeft (s.line i).mode (undistributed s))
  reported : (s.line i).state ≠ .stopped → Reported (.line i (s.line i).state .stopped .none .none (s.line i).backlog
    (s.line i).phase s.ring.number) t
  grown : Grown s t
  agree : AgreeBut (.link :: .lines :: permitReach) s t

theorem lineLeft_moveLine (i : LineNo) (s : State) :
    LineLeft i s (writeGrout (moveLine i .stopped .none .none (leaveTrack i s))) := by
  have hl := fun j => line_leaveTrack i j s
  have hu := leaveTrack_unassigned i s
  have hn := number_leaveTrack i s
  have ha := agree_leaveTrack i s
  have hg := (inside_leaveTrack i s).grown
  generalize leaveTrack i s = u at hl hu hn ha hg
  have hm := agree_moveLine i .stopped .none .none u
  have k := spared_writeGrout (moveLine i .stopped .none .none u)
  refine ⟨?_, fun j hj => ?_, ?_, fun hs => ?_, hg.trans ((grown_moveLine _ _ _ _ u).trans k.grown), ?_⟩
  · rw [k.line, moveLine_line, if_pos rfl, hl]
  · rw [k.line, moveLine_line, if_neg (Ne.symm hj), hl]
  · refine (map_figure (·.1) k.figures).trans ?_
    rw [show (moveLine i .stopped .none .none u).ring = u.ring from hm .ring (by simp)]
    exact hu
  · have hr := moveLine_reported (i := i) (st := .stopped) (m := .none) (c := .none) (s := u) (by rw [hl]; exact hs)
    rw [hl, hn] at hr
    exact hr.grown k.grown
  · exact (ha.mono (by simp [permitReach])).trans ((hm.mono (by simp)).trans
      ((agree_writeGrout _).mono (by simp +contextual)))

/-! ## A stroke not yet sent is dropped (R86) -/

/-- The phase of a line once its stroke is dropped where it is not yet on the field line. -/
def StrokePhase.dropped (r : Requests) : StrokePhase → StrokePhase
  | .pending => .none
  | .requested n => if r.onLine n then .requested n else .none
  | ph => ph

theorem line_dropStroke (i j : LineNo) (s : State) : (dropStroke i s).line j =
    if i = j then { s.line i with phase := (s.line i).phase.dropped s.req } else s.line j := by
  have hkept : ∀ ph, (s.line i).phase = ph → s.line j = if i = j then { s.line i with phase := ph } else s.line j := by
    rintro _ rfl
    split
    · rename_i hij
      rw [hij]
    · rfl
  unfold dropStroke
  cases h : (s.line i).phase with
  | pending => exact line_setLine _ _ _ _
  | requested n =>
    dsimp only [StrokePhase.dropped]
    split
    · exact hkept _ h
    · exact line_setLine _ _ _ _
  | none | running | overdue => exact hkept _ h

theorem agree_dropStroke (i : LineNo) (s : State) : AgreeBut [.lines, .req] s (dropStroke i s) := by
  have hset : ∀ r l, AgreeBut [.lines, .req] s (setLine i l (s.setReq r)) := fun r l =>
    (agree_setReq (by simp) r s).trans ((agree_setLine i l _).mono (by simp))
  unfold dropStroke
  split
  · exact hset _ _
  · split
    · exact .refl _ s
    · exact hset _ _
  all_goals exact .refl _ s

/-! ## LINE_STOP and LINE_CLEAR (R86, R87) -/

section
variable {i : LineNo} {s : State}

theorem takeLineStop_taken (h : (s.line i).state ≠ .stopped) : ∃ t,
    takeLineStop i.val s = (t, .ok, lineData (t.line i) ++ u8 (t.line i).phase.code) ∧ t = writeGrout (stopLine i s) := by
  refine ⟨_, ?_, rfl⟩
  unfold takeLineStop
  rw [dif_pos i.isLt]
  exact if_neg h

theorem takeLineStop_already (h : (s.line i).state = .stopped) : takeLineStop i.val s = refuse .already s := by
  unfold takeLineStop
  rw [dif_pos i.isLt]
  exact if_pos h

theorem takeLineClear_taken (h : (s.line i).state = .blocked ∨ (s.line i).state = .faulted) : takeLineClear i.val s =
    (writeGrout (moveLine i .stopped .none .none (leaveTrack i s)), .ok, []) := by
  unfold takeLineClear
  rw [dif_pos i.isLt]
  exact if_pos h

theorem takeLineClear_wrongState (h : ¬ ((s.line i).state = .blocked ∨ (s.line i).state = .faulted)) :
    takeLineClear i.val s = refuse .wrongState s := by
  unfold takeLineClear
  rw [dif_pos i.isLt]
  exact if_neg h

/-- The line at rest with its stroke dropped, before it leaves its mode. -/
def strokeDropped (i : LineNo) (s : State) : State := dropStroke i (setLine i (s.line i).rest s)

theorem strokeDropped_line (i j : LineNo) (s : State) : (strokeDropped i s).line j =
    if i = j then { (s.line i).rest with phase := (s.line i).phase.dropped s.req } else s.line j := by
  unfold strokeDropped
  rw [line_dropStroke, line_setLine_self, line_setLine]
  split <;> rfl

theorem agree_strokeDropped (i : LineNo) (s : State) : AgreeBut [.lines, .req] s (strokeDropped i s) :=
  ((agree_setLine _ _ s).mono (by simp)).trans (agree_dropStroke _ _)

theorem grown_strokeDropped (i : LineNo) (s : State) : Grown s (strokeDropped i s) :=
  .of_link (agree_strokeDropped i s .link (by simp))

theorem undistributed_strokeDropped (i : LineNo) (s : State) :
    undistributed (strokeDropped i s) = undistributed s :=
  undistributed_of_weighed fun j => by
    rw [strokeDropped_line]
    split
    · rename_i hij
      subst hij
      rfl
    · rfl

/-- LINE_STOP on a line that is not STOPPED (R77, R86, R94). -/
theorem lineStop_taken {tag : Byte} (h : handsOn s) (hs : (s.line i).state ≠ .stopped) :
    ∃ t, exec (.lineStop tag i.val) s = .next t
      ∧ t.line i = { (s.line i).rest with
          mode := .none, state := .stopped, rem := remLeft (s.line i).mode (s.line i)
          phase := (s.line i).phase.dropped s.req }
      ∧ (∀ j, j ≠ i → t.line j = { s.line j with rem := remLeft (s.line i).mode (s.line j) })
      ∧ t.ring.current.map (·.unassigned)
        = s.ring.current.map (unassignedLeft (s.line i).mode (undistributed s))
      ∧ Reported (.line i (s.line i).state .stopped .none .none (s.line i).backlog (t.line i).phase s.ring.number) t
      ∧ Answered (.lines :: permitReach) s t tag 0x22 .ok
          ([0, 0] ++ u32 (s.line i).backlog ++ u8 (t.line i).phase.code) := by
  obtain ⟨t, ht, hw⟩ := takeLineStop_taken hs
  have k := lineLeft_moveLine i (strokeDropped i s)
  have ha := agree_strokeDropped i s
  have hl := fun j => strokeDropped_line i j s
  have hu := undistributed_strokeDropped i s
  have hg := grown_strokeDropped i s
  rw [show writeGrout (moveLine i .stopped .none .none (leaveTrack i (strokeDropped i s))) = t from hw.symm] at k
  generalize strokeDropped i s = u at k ha hl hu hg
  have hi : u.line i = { (s.line i).rest with phase := (s.line i).phase.dropped s.req } := by rw [hl, if_pos rfl]
  have hring : u.ring = s.ring := ha .ring (by simp)
  have hline : t.line i = { (s.line i).rest with
      mode := .none, state := .stopped, rem := remLeft (s.line i).mode (s.line i)
      phase := (s.line i).phase.dropped s.req } := by
    rw [k.line, hi]
    rfl
  have hdata : lineData (t.line i) = [0, 0] ++ u32 (s.line i).backlog := by
    rw [lineData_eq (l := t.line i) (mode := .none) (state := .stopped) (by rw [hline]) (by rw [hline]) rfl, hline]
    rfl
  refine ⟨_, exec_lineStop h ht, hline, fun j hj => ?_, ?_, ?_, ?_⟩
  · refine (k.others j hj).trans ?_
    rw [hi, hl, if_neg (Ne.symm hj)]
    rfl
  · refine k.unassigned.trans ?_
    rw [hi, hu, hring]
    rfl
  · have hr := k.reported (by rw [hi]; exact hs)
    rw [hi, hring] at hr
    rw [show ((withReply tag 0x22 .ok _ t).line i).phase = _ from congrArg Line.phase hline]
    exact hr.withReply
  · rw [hdata]
    exact .of_taken (hg.trans k.grown) ((ha.mono (by simp [permitReach])).trans k.agree)

/-- LINE_CLEAR on a BLOCKED or FAULTED line (R77, R87, R94). -/
theorem lineClear_taken {tag : Byte} (h : handsOn s) (hs : (s.line i).state = .blocked ∨ (s.line i).state = .faulted) :
    ∃ t, exec (.lineClear tag i.val) s = .next t
      ∧ t.line i = { s.line i with mode := .none, state := .stopped, rem := remLeft (s.line i).mode (s.line i) }
      ∧ (∀ j, j ≠ i → t.line j = { s.line j with rem := remLeft (s.line i).mode (s.line j) })
      ∧ t.ring.current.map (·.unassigned)
        = s.ring.current.map (unassignedLeft (s.line i).mode (undistributed s))
      ∧ Reported (.line i (s.line i).state .stopped .none .none (s.line i).backlog (s.line i).phase s.ring.number) t
      ∧ Answered (.lines :: permitReach) s t tag 0x23 .ok [] := by
  have ht := takeLineClear_taken hs
  have k := lineLeft_moveLine i s
  generalize writeGrout (moveLine i .stopped .none .none (leaveTrack i s)) = t at ht k
  exact ⟨_, exec_lineClear h ht, k.line, k.others, k.unassigned,
    (k.reported (by rcases hs with e | e <;> rw [e] <;> exact nofun)).withReply, .of_taken k.grown k.agree⟩

end

/-- Settles O26: a line stopped or cleared as above, and each refusal by the first condition that fails. -/
theorem linesStop : Obligations.LinesStop := by
  unfold Obligations.LinesStop
  refine ⟨fun tag line s h hb => ?_, fun tag i s h => ?_⟩
  · have hn : ¬ line < 6 := by omega
    exact ⟨exec_lineStop h (dif_neg hn), exec_lineClear h (dif_neg hn)⟩
  · dsimp only
    refine ⟨fun hs => ?_, fun hs => exec_lineStop h (takeLineStop_already hs), fun hs => lineClear_taken h hs,
      fun hb hf => exec_lineClear h (takeLineClear_wrongState fun e => e.elim hb hf)⟩
    obtain ⟨t, he, hline, hrest⟩ := lineStop_taken (tag := tag) h hs
    refine ⟨t, he, hline.trans ?_, hrest⟩
    cases (s.line i).phase <;> rfl

end Sys2Proof.Machine

/-! SUPPORT. SET_LINE (R76, R77, R84, R88): the settings of a line, the trimmed backlog, the remainders cleared. -/

namespace Sys2Proof.Machine

theorem lineRanges_iff {weight vs pLimit lag tP tS tW : Nat} : lineRanges weight vs pLimit lag tP tS tW = true ↔
    weight ≤ 100 ∧ (500 ≤ vs ∧ vs ≤ 20000) ∧ (1000 ≤ pLimit ∧ pLimit ≤ 15000)
      ∧ (lag = 0 ∨ (1000 ≤ lag ∧ lag ≤ 100000)) ∧ (1 ≤ tP ∧ tP ≤ 600) ∧ (1 ≤ tS ∧ tS ≤ 3600) ∧ tW ≤ 600 := by
  unfold lineRanges
  simp only [Bool.and_eq_true, Bool.or_eq_true, inRange_iff, beq_iff_eq, Nat.zero_le, true_and]
  simp only [and_assoc]

section
variable {i : LineNo} {s : State} {weight vs pLimit lag tP tS tW : Nat}

/-- The line set, and the record credited, before the GROUT entry is written. -/
def lineSet (i : LineNo) (weight vs pLimit lag : Nat) (t : Timings) (s : State) : State :=
  contribute (fun r => { r with unmet := sat32 r.unmet ((s.line i).backlog - 16 * vs) })
    (setLine i (((clearRemainders s).line i).set weight vs pLimit lag t) (clearRemainders s))

theorem lineSet_line (i j : LineNo) (weight vs pLimit lag : Nat) (t : Timings) (s : State) :
    (lineSet i weight vs pLimit lag t s).line j =
      if i = j then { (s.line i).set weight vs pLimit lag t with rem := 0 } else { s.line j with rem := 0 } := by
  change (setLine i (((clearRemainders s).line i).set weight vs pLimit lag t) (clearRemainders s)).line j = _
  rw [line_setLine, clearRemainders_line, clearRemainders_line]
  rfl

theorem lineSet_figures (i : LineNo) (weight vs pLimit lag : Nat) (t : Timings) (s : State) :
    (lineSet i weight vs pLimit lag t s).ring.current.map (fun r => (r.unassigned, r.unmet))
      = s.ring.current.map fun r => (min (r.unassigned + remSum s.lines / trackWeight s.lines) 4294967295,
          min (r.unmet + ((s.line i).backlog - 16 * vs)) 4294967295) := by
  change ((clearRemainders s).ring.current.map _).map _ = _
  rw [clearRemainders_current, Option.map_map, Option.map_map]
  rfl

theorem agree_lineSet (i : LineNo) (weight vs pLimit lag : Nat) (t : Timings) (s : State) :
    AgreeBut [.lines, .ring] s (lineSet i weight vs pLimit lag t s) :=
  (agree_clearRemainders s).trans (((agree_setLine _ _ _).mono (by simp)).trans
    ((agree_contribute _ _).mono (by simp)))

theorem takeSetLine_badValue (h : lineRanges weight vs pLimit lag tP tS tW = false) :
    takeSetLine i.val weight vs pLimit lag tP tS tW s = refuse .badValue s := by
  unfold takeSetLine
  dsimp only
  rw [dif_pos i.isLt, h]
  rfl

theorem takeSetLine_wrongState (hr : lineRanges weight vs pLimit lag tP tS tW = true)
    (h : (s.line i).state ≠ .stopped ∧ (weight ≠ (s.line i).weight ∨ vs ≠ (s.line i).vs)) :
    takeSetLine i.val weight vs pLimit lag tP tS tW s = refuse .wrongState s := by
  unfold takeSetLine
  dsimp only
  rw [dif_pos i.isLt, hr, Bool.not_true, if_neg nofun]
  exact if_pos h

theorem takeSetLine_taken (hr : lineRanges weight vs pLimit lag tP tS tW = true)
    (h : ¬ ((s.line i).state ≠ .stopped ∧ (weight ≠ (s.line i).weight ∨ vs ≠ (s.line i).vs))) : ∃ t,
    takeSetLine i.val weight vs pLimit lag tP tS tW s
        = (t, .ok, settingsData (t.line i) ((s.line i).backlog - 16 * vs))
      ∧ t = writeGrout (lineSet i weight vs pLimit lag ⟨tP, tS, tW⟩ s) := by
  refine ⟨_, ?_, rfl⟩
  unfold takeSetLine
  dsimp only
  rw [dif_pos i.isLt, hr, Bool.not_true, if_neg nofun]
  exact if_neg h

end

/-- Settles O27: the refusals in order, and the line as set, its result data read from the line. -/
theorem lineIsSet : Obligations.LineIsSet := by
  unfold Obligations.LineIsSet
  refine ⟨fun tag line weight vs pLimit lag tP tS tW s h hb => exec_setLine h (dif_neg (show ¬ line < 6 by omega)),
    fun tag i weight vs pLimit lag tP tS tW s h => ?_⟩
  dsimp only
  rw [← lineRanges_iff]
  refine ⟨fun hr => exec_setLine h (takeSetLine_badValue (by simpa using hr)),
    fun hr hs hc => exec_setLine h (takeSetLine_wrongState hr ⟨hs, hc⟩), fun hr hc => ?_⟩
  obtain ⟨t, ht, hw⟩ := takeSetLine_taken (i := i) (s := s) hr
    (fun ⟨hs, hd⟩ => hc.elim (fun e => hs e) fun e => hd.elim (fun n => n e.1) fun n => n e.2)
  have k := spared_writeGrout (lineSet i weight vs pLimit lag ⟨tP, tS, tW⟩ s)
  have hl := fun j => lineSet_line i j weight vs pLimit lag ⟨tP, tS, tW⟩ s
  have hf := lineSet_figures i weight vs pLimit lag ⟨tP, tS, tW⟩ s
  have ha := agree_lineSet i weight vs pLimit lag ⟨tP, tS, tW⟩ s
  have hg : AgreeBut (.link :: permitReach) _ _ := agree_writeGrout (lineSet i weight vs pLimit lag ⟨tP, tS, tW⟩ s)
  rw [← hw] at k hg
  generalize lineSet i weight vs pLimit lag ⟨tP, tS, tW⟩ s = u at k hl hf ha hg
  have hline : t.line i = { (s.line i).set weight vs pLimit lag ⟨tP, tS, tW⟩ with rem := 0 } := by
    rw [k.line, hl, if_pos rfl]
  refine ⟨_, exec_setLine h ht, hline, fun j hj => ?_, (map_figure (fun x => (x.1, x.2.1)) k.figures).trans hf, ?_⟩
  · refine (k.line j).trans ?_
    rw [hl, if_neg (Ne.symm hj)]
  · have hdata : settingsData (t.line i) ((s.line i).backlog - 16 * vs) =
        u8 weight ++ u16 vs ++ u16 pLimit ++ u32 (if lag = 0 then 3 * vs else lag)
          ++ u16 (t.line i).timings.tP ++ u16 (t.line i).timings.tS ++ u16 (t.line i).timings.tW
          ++ flag (t.line i).staged.isSome ++ u32 ((s.line i).backlog - 16 * vs) := by
      rw [hline]
      rfl
    rw [hdata]
    exact .of_taken ((Grown.of_link (ha .link (by simp))).trans k.grown)
      ((ha.mono (by simp [permitReach])).trans (hg.mono (by simp +contextual)))

end Sys2Proof.Machine

/-! SUPPORT. STROKE_DONE (R78, R80, R81, R89): the accounting of a stroke, the line's state after it, the next stroke. -/

namespace Sys2Proof.Machine

/-! ## A line at rest in another state -/

/-- A line that leaves its timed state for another state: what changes of it, and the report. -/
structure RestMoved (i : LineNo) (st : LineState) (m : LineMode) (c : LineCause) (s t : State) : Prop where
  line : ∀ j, t.line j = if i = j then { (s.line i).rest with state := st, mode := m } else s.line j
  reported : st ≠ (s.line i).state →
    Reported (.line i (s.line i).state st m c (s.line i).backlog (s.line i).phase s.ring.number) t
  grown : Grown s t
  agree : AgreeBut [.link, .lines] s t

theorem restMoved (i : LineNo) (st : LineState) (m : LineMode) (c : LineCause) (s : State) :
    RestMoved i st m c s (moveLine i st m c (setLine i (s.line i).rest s)) where
  line j := by
    rw [moveLine_line, line_setLine_self, line_setLine]
    split <;> rfl
  reported h := by
    have hr := moveLine_reported (i := i) (st := st) (m := m) (c := c) (s := setLine i (s.line i).rest s)
      (by rw [line_setLine_self]; exact Ne.symm h)
    rw [line_setLine_self] at hr
    exact hr
  grown := (grown_setLine _ _ s).trans (grown_moveLine _ _ _ _ _)
  agree := ((agree_setLine _ _ s).mono (by simp)).trans (agree_moveLine _ _ _ _ _)

/-! ## The line's state after an accounted stroke (R81) -/

/-- The stroke of a priming line, its pressure within the limit. -/
abbrev Line.primed (peak : Nat) (l : Line) : Prop := ¬ l.pLimit < peak ∧ l.state = .primeStroke

/-- The line leaves its timed state. -/
abbrev Line.rests (peak : Nat) (l : Line) : Prop :=
  l.primed peak ∨ (l.pLimit < peak ∧ l.state ≠ .faulted ∧ l.state ≠ .blocked)

/-- The line after an accounted stroke with its peak pressure. -/
def Line.settled (peak : Nat) (l : Line) : Line :=
  { l with
    state := if l.primed peak then .stopped else if l.rests peak then .blocked else l.state
    mode := if l.primed peak then .none else l.mode
    timer := if l.rests peak then none else l.timer
    timings := if l.rests peak then l.staged.getD l.timings else l.timings
    staged := if l.rests peak then none else l.staged }

theorem settled_of_primed {l : Line} {peak : Nat} (h : l.primed peak) :
    l.settled peak = { l.rest with state := .stopped, mode := .none } := by
  unfold Line.settled
  simp only [if_pos h, if_pos (show l.rests peak from .inl h)]
  rfl

theorem settled_of_high {l : Line} {peak : Nat} (hp : l.pLimit < peak) (h : l.state ≠ .faulted ∧ l.state ≠ .blocked) :
    l.settled peak = { l.rest with state := .blocked, mode := l.mode } := by
  unfold Line.settled
  simp only [if_neg (show ¬ l.primed peak from fun e => e.1 hp), if_pos (show l.rests peak from .inr ⟨hp, h⟩)]
  rfl

theorem settled_of_stands {l : Line} {peak : Nat} (h : ¬ l.rests peak) : l.settled peak = l := by
  unfold Line.settled
  simp only [if_neg h, if_neg (show ¬ l.primed peak from fun e => h (.inl e))]

section
variable {i : LineNo} {peak : Nat} {s : State}

theorem settleLine_primed (h : (s.line i).primed peak) :
    settleLine i peak s = moveLine i .stopped .none .none (setLine i (s.line i).rest s) := by
  unfold settleLine
  dsimp only
  rw [if_neg h.1, h.2]

theorem settleLine_low (h : ¬ (s.line i).pLimit < peak) (hs : (s.line i).state ≠ .primeStroke) :
    settleLine i peak s = s := by
  unfold settleLine
  dsimp only
  rw [if_neg h]
  split
  · exact absurd ‹_› hs
  all_goals rfl

/-- The record of a peak above the limit (R81, R89). -/
def peakRecorded (i : LineNo) (peak : Nat) (s : State) : State :=
  handFault (lineRecord .lineFault i (.overpressure peak) s) s

theorem settleLine_blocks (h : (s.line i).pLimit < peak)
    (hs : (s.line i).state ≠ .faulted ∧ (s.line i).state ≠ .blocked) :
    settleLine i peak s = moveLine i .blocked (s.line i).mode .overpressure
      (setLine i ((peakRecorded i peak s).line i).rest (peakRecorded i peak s)) := by
  unfold settleLine
  dsimp only
  rw [if_pos h]
  split
  · exact absurd ‹_› hs.1
  · exact absurd ‹_› hs.2
  all_goals rfl

theorem settleLine_blocked (h : (s.line i).pLimit < peak)
    (hs : (s.line i).state = .faulted ∨ (s.line i).state = .blocked) : settleLine i peak s = peakRecorded i peak s := by
  unfold settleLine
  dsimp only
  rw [if_pos h]
  rcases hs with e | e <;> rw [e] <;> rfl

end

/-- What the settling of a line does: the line's state, a peak above the limit with its record, the LINE report. -/
structure LineSettled (i : LineNo) (peak : Nat) (s t : State) : Prop where
  line : ∀ j, t.line j = if i = j then (s.line i).settled peak else s.line j
  reported : ((s.line i).settled peak).state ≠ (s.line i).state →
    Reported (.line i (s.line i).state ((s.line i).settled peak).state ((s.line i).settled peak).mode
      (if (s.line i).pLimit < peak then .overpressure else .none) (s.line i).backlog (s.line i).phase s.ring.number) t
  added : (s.line i).pLimit < peak → FaultAdded (lineRecord .lineFault i (.overpressure peak) s) s t
  quiet : ¬ (s.line i).pLimit < peak → t.out = s.out
  grown : Grown s t
  ports : t.ports = s.ports
  waits : t.req.waits = s.req.waits
  figures : t.ring.current.map Record.grout = s.ring.current.map Record.grout
  agree : AgreeBut (.lines :: .out :: .link :: permitReach) s t

/-- A line that stands where it is. -/
theorem line_eq_settled {i : LineNo} {peak : Nat} {s : State} (h : ¬ (s.line i).rests peak) (j : LineNo) :
    s.line j = if i = j then (s.line i).settled peak else s.line j := by
  rw [settled_of_stands h]
  split
  · rename_i hij
    rw [hij]
  · rfl

theorem lineSettled_settleLine (i : LineNo) (peak : Nat) (s : State) : LineSettled i peak s (settleLine i peak s) := by
  by_cases hp : (s.line i).pLimit < peak
  · obtain ⟨hadd, hagree⟩ := handFault_added (lineRecord .lineFault i (.overpressure peak) s) s
    have hk := spared_handFault (lineRecord .lineFault i (.overpressure peak) s) s
    by_cases hs : (s.line i).state = .faulted ∨ (s.line i).state = .blocked
    · rw [settleLine_blocked hp hs]
      have hst : ¬ (s.line i).rests peak := fun h => h.elim (fun e => e.1 hp) fun e => hs.elim e.2.1 e.2.2
      refine ⟨fun j => (hk.line j).trans (line_eq_settled hst j), fun hne => ?_, fun _ => hadd, fun h => absurd hp h,
        hk.grown, frame_ports hk.frame, hk.waits, hk.figures, hagree.mono fun _ => List.mem_cons_of_mem _⟩
      exact absurd (congrArg Line.state (settled_of_stands hst)) hne
    · have hs' := not_or.mp hs
      rw [settleLine_blocks hp hs']
      unfold peakRecorded
      generalize handFault (lineRecord .lineFault i (.overpressure peak) s) s = u at hadd hagree hk
      have hu := hk.line i
      have k := restMoved i .blocked (s.line i).mode .overpressure u
      generalize moveLine i .blocked (s.line i).mode .overpressure (setLine i (u.line i).rest u) = t at k
      refine ⟨fun j => ?_, fun _ => ?_, fun _ => hadd.after k.grown ?_ ?_, fun h => absurd hp h, hk.grown.trans k.grown,
        ?_, ?_, ?_, (hagree.mono fun _ => List.mem_cons_of_mem _).trans (k.agree.mono (by simp))⟩
      · rw [k.line, settled_of_high hp hs', hu, hk.line]
      · have hr := k.reported (by rw [hu]; exact Ne.symm hs'.2)
        rw [hu, frame_number hk.frame] at hr
        rw [settled_of_high hp hs', if_pos hp]
        exact hr
      · rw [k.agree .out (by simp)]
      · rw [show t.permit = u.permit from k.agree .permit (by simp)]
      · exact (k.agree .ports (by simp)).trans (frame_ports hk.frame)
      · rw [show t.req = u.req from k.agree .req (by simp), hk.waits]
      · rw [show t.ring = u.ring from k.agree .ring (by simp), hk.figures]
  · by_cases hs : (s.line i).state = .primeStroke
    · have hpr : (s.line i).primed peak := ⟨hp, hs⟩
      rw [settleLine_primed hpr]
      have k := restMoved i .stopped .none .none s
      generalize moveLine i .stopped .none .none (setLine i (s.line i).rest s) = t at k
      refine ⟨fun j => ?_, fun _ => ?_, fun h => absurd h hp, fun _ => k.agree .out (by simp), k.grown,
        k.agree .ports (by simp), ?_, ?_, k.agree.mono (by simp)⟩
      · rw [k.line, settled_of_primed hpr]
      · rw [settled_of_primed hpr, if_neg hp]
        exact k.reported (by rw [hs]; exact nofun)
      · rw [show t.req = s.req from k.agree .req (by simp)]
      · rw [show t.ring = s.ring from k.agree .ring (by simp)]
    · have hst : ¬ (s.line i).rests peak := fun h => h.elim (fun e => hs e.2) fun e => hp e.1
      rw [settleLine_low hp hs]
      exact ⟨line_eq_settled hst, fun hne => absurd (congrArg Line.state (settled_of_stands hst)) hne,
        fun h => absurd h hp, fun _ => rfl, .refl s, rfl, rfl, rfl, .refl _ s⟩

/-! ## The accounting (R80) -/

/-- The line and the record accounted, before the line is settled. -/
def accounted (i : LineNo) (volume : Nat) (s : State) : State :=
  let l := (s.line i).delivered volume (s.ring.state != .none)
  if (s.ring.state != .none) = true then
    contribute (fun r => { r with delivered := put r.delivered i l.ringDelivered }) (setLine i l s)
  else setLine i l s

theorem accountStroke_eq (i : LineNo) (volume peak : Nat) (s : State) :
    accountStroke i volume peak s = writeGrout (checkStroke i (settleLine i peak (accounted i volume s))) := rfl

section
variable {i : LineNo} {volume : Nat} {s : State}

theorem accounted_line (i j : LineNo) (volume : Nat) (s : State) : (accounted i volume s).line j =
    if i = j then (s.line i).delivered volume (s.ring.state != .none) else s.line j := by
  unfold accounted
  dsimp only
  split <;> exact line_setLine _ _ _ _

theorem agree_accounted (i : LineNo) (volume : Nat) (s : State) : AgreeBut [.lines, .ring] s (accounted i volume s) := by
  have h : ∀ l, AgreeBut [.lines, .ring] s (setLine i l s) := fun l => (agree_setLine i l s).mono (by simp)
  unfold accounted
  dsimp only
  split
  · exact (h _).trans ((agree_contribute _ _).mono (by simp))
  · exact h _

theorem accounted_number (i : LineNo) (volume : Nat) (s : State) :
    (accounted i volume s).ring.number = s.ring.number := by
  unfold accounted
  dsimp only
  split
  · refine frame_number (s := setLine i _ s) (inside_contribute ?_ _).frame
    exact fun _ => by simp only [Record.account]
  · rfl

theorem accounted_delivered {r : Record} (hr : s.ring.current = some r) (ho : s.ring.state ≠ .none) :
    (accounted i volume s).ring.current.map (·.delivered)
      = some (put r.delivered i (min ((s.line i).ringDelivered + volume) 4294967295)) := by
  have hb : (s.ring.state != .none) = true := bne_iff_ne.mpr ho
  unfold accounted
  dsimp only
  rw [if_pos hb]
  change (s.ring.current.map _).map _ = _
  rw [hr, hb]
  rfl

end

/-! ## STROKE_DONE at the Grout Unit (R80, R139) -/

theorem strokeExpected_iff (p : PortNo) (i : LineNo) (s : State) : strokeExpected p i s = true ↔ pumpPort i = p ∧
    ((s.line i).phase = .running ∨ (s.line i).phase = .overdue
      ∨ ∃ n, (s.line i).phase = .requested n ∧ s.req.onLine n = true) := by
  unfold strokeExpected
  cases (s.line i).phase <;> simp

theorem takeStrokeDone_expected {i : LineNo} {s : State} (volume peak : Nat)
    (h : strokeExpected (pumpPort i) i s = true) : ∃ t, takeStrokeDone (pumpPort i) i.val volume peak s
      = (t, .status .ok) ∧ t = accountStroke i volume peak s := by
  refine ⟨_, ?_, rfl⟩
  unfold takeStrokeDone
  rw [dif_pos i.isLt]
  exact if_pos h

theorem takeStrokeDone_notExpected {p : PortNo} {line : Nat} {s : State} (volume peak : Nat)
    (h : ∀ i : LineNo, i.val = line → strokeExpected p i s = false) :
    takeStrokeDone p line volume peak s = (s, .notExpected) := by
  unfold takeStrokeDone
  split
  · rename_i hl
    rw [h ⟨line, hl⟩ rfl]
    rfl
  · rfl

theorem portClass_pumpPort (i : LineNo) : Config.portClass (pumpPort i) = .groutPump := by
  revert i
  decide

theorem takeEvent_taken {p : PortNo} {e : StationEvent} {s t : State} {a : EventStatus} (seq : Byte)
    (hp : s.portUp p = true) (hc : Config.portClass p = e.sentBy) (h : passEvent p e s = (t, a)) :
    takeEvent p seq e s = sendField p (eventAnswerFrame seq a) t := by
  unfold takeEvent
  dsimp only
  rw [if_pos (by rw [hp, hc, beq_self_eq_true]; rfl), h]

theorem powered_of_portUp {p : PortNo} {s : State} (h : s.portUp p = true) : (s.ports.get p).state.powered = true := by
  unfold State.portUp at h
  revert h
  cases (s.ports.get p).state <;> decide

/-- A STROKE_DONE that no line expects from the port (R80, R139). -/
theorem strokeDone_notExpected {p : PortNo} {line : Nat} {s : State} (seq : Byte) (volume peak : Nat)
    (hp : s.portUp p = true) (h : ∀ i : LineNo, i.val = line → strokeExpected p i s = false) :
    exec (.strokeDone p seq line volume peak) s = .next (sendField p (eventAnswerFrame seq .notExpected) s) := by
  refine (exec_eventRow p seq (.strokeDone line volume peak) s).trans (congrArg _ ?_)
  by_cases hc : Config.portClass p = .groutPump
  · exact takeEvent_taken seq hp hc (takeStrokeDone_notExpected volume peak h)
  · rw [takeEvent_notExpected seq (.inr hc)]
    exact if_pos (powered_of_portUp hp)

/-- What an accepted STROKE_DONE does of the Grout Unit's, before its answer is sent. -/
structure Accounted (i : LineNo) (volume peak : Nat) (s t : State) (left : Line) : Prop where
  stroked : ∃ u, Stroked ((u.line i).due = true) i u t ∧ u.line i = left.settled peak
    ∧ u.req.waits = s.req.waits
  others : ∀ j, j ≠ i → t.line j = s.line j
  reported : (left.settled peak).state ≠ left.state → Reported (.line i left.state (left.settled peak).state
    (left.settled peak).mode (if left.pLimit < peak then .overpressure else .none) left.backlog .none s.ring.number) t
  delivered : ∀ r, s.ring.current = some r → s.ring.state ≠ .none →
    t.ring.current.map (·.delivered)
      = some (put r.delivered i (min ((s.line i).ringDelivered + volume) 4294967295))
  quiet : ¬ left.pLimit < peak → t.out = s.out
  added : left.pLimit < peak → FaultAdded (lineRecord .lineFault i (.overpressure peak) s) s t
  grown : Grown s t
  agree : AgreeBut (.lines :: .out :: .link :: permitReach) s t

theorem accounted_accountStroke (i : LineNo) (volume peak : Nat) {s : State} (hp : s.portUp (pumpPort i) = true) :
    Accounted i volume peak s (accountStroke i volume peak s)
      ((s.line i).delivered volume (s.ring.state != .none)) := by
  rw [accountStroke_eq]
  have ha := agree_accounted i volume s
  have hl := fun j => accounted_line i j volume s
  have hn := accounted_number i volume s
  have hd := fun r hr ho => accounted_delivered (i := i) (volume := volume) (s := s) (r := r) hr ho
  generalize accounted i volume s = v at ha hl hn hd
  have k := lineSettled_settleLine i peak v
  generalize settleLine i peak v = u at k
  have hup : u.portUp (pumpPort i) = true := by
    rw [portUp_of_ports (k.ports.trans (ha .ports (by simp))), hp]
  have w := stroked_checkStroke (i := i) fun _ => hup
  have hi := hl i
  rw [if_pos rfl] at hi
  generalize writeGrout (checkStroke i u) = t at w
  have hrec : lineRecord .lineFault i (.overpressure peak) v = lineRecord .lineFault i (.overpressure peak) s := by
    unfold lineRecord
    rw [hn, show v.adv = s.adv from ha .adv (by simp)]
  have hout : v.out = s.out := ha .out (by simp)
  refine ⟨⟨u, w, ?_, ?_⟩, fun j hj => ?_, fun hne => ?_, fun r hr ho => ?_, fun h => ?_, fun h => ?_, ?_, ?_⟩
  · rw [k.line, if_pos rfl, hi]
  · rw [k.waits, show v.req = s.req from ha .req (by simp)]
  · rw [w.others j hj, k.line, if_neg (Ne.symm hj), hl, if_neg (Ne.symm hj)]
  · have hr := k.reported (by rw [hi]; exact hne)
    rw [hi, hn] at hr
    exact hr.grown w.grown
  · rw [← hd r hr ho]
    exact map_figure (·.2.2) (w.figures.trans k.figures)
  · rw [w.out, k.quiet (by rw [hi]; exact h), hout]
  · have hadd := k.added (by rw [hi]; exact h)
    rw [hrec] at hadd
    exact (hadd.before (by rw [hout])).after w.grown (by rw [w.out]) (by rw [w.backlog])
  · exact (Grown.of_link (ha .link (by simp))).trans (k.grown.trans w.grown)
  · exact (ha.mono (by simp [permitReach])).trans (k.agree.trans (w.agree.mono (by simp [permitReach])))

theorem grown_sendField (p : PortNo) (bytes : List Byte) (s : State) : Grown s (sendField p bytes s) := .of_link rfl

theorem agree_sendField (p : PortNo) (bytes : List Byte) (s : State) : AgreeBut [.fieldLine] s (sendField p bytes s) :=
  fun q hq => by
    cases q with
    | fieldLine => exact absurd (List.mem_singleton_self _) hq
    | _ => rfl

/-- Settles O28: a STROKE_DONE not expected, and one accounted, settled, and followed by the next stroke. -/
theorem strokeDoneIsAccounted : Obligations.StrokeDoneIsAccounted := by
  unfold Obligations.StrokeDoneIsAccounted
  refine ⟨fun p seq line delivered peak s hp h => strokeDone_notExpected seq delivered peak hp fun i hi => ?_,
    fun i seq delivered peak s hp h => ?_⟩
  · rw [← Bool.not_eq_true, strokeExpected_iff]
    rintro ⟨hpi, hph⟩
    rcases h i hi hpi with e | e | ⟨n, e, hn⟩ <;> rw [e] at hph
    · simp at hph
    · simp at hph
    · simp [hn] at hph
  · obtain ⟨t, ht, hw⟩ := takeStrokeDone_expected delivered peak ((strokeExpected_iff _ i s).mpr ⟨rfl, h⟩)
    have k := accounted_accountStroke i delivered peak hp
    rw [← hw] at k
    have he : exec (.strokeDone (pumpPort i) seq i.val delivered peak) s
        = .next (sendField (pumpPort i) (eventAnswerFrame seq (.status .ok)) t) :=
      (exec_eventRow (pumpPort i) seq (.strokeDone i.val delivered peak) s).trans
        (congrArg _ (takeEvent_taken seq hp (portClass_pumpPort i) ht))
    obtain ⟨⟨u, w, hu, hwaits⟩, others, reported, hdel, quiet, added, grown, agree⟩ := k
    have hring : (t.line i).ringDelivered = if s.ring.state = .none then (s.line i).ringDelivered
        else min ((s.line i).ringDelivered + delivered) 4294967295 := by
      rw [w.line, hu]
      change (if (s.ring.state != .none) = true then _ else _) = _
      by_cases hn : s.ring.state = .none
      · simp [hn]
      · simp [hn, sat32, Config.max32]
    have hdue : (u.line i).due = true ↔ ((u.line i).state = .pulseDeliver
        ∨ (u.line i).state = .tracking ∧ (s.line i).vs ≤ (s.line i).backlog - delivered) := by
      rw [due_iff, hu]
      exact and_iff_right rfl
    rw [hu] at hdue
    dsimp only
    refine ⟨_, he, ?_, ?_, fun hd => w.issued (hu ▸ hdue.mpr hd), fun hd => ?_, reported, fun r hr ho => ?_, quiet,
      fun hh => (added hh).after (grown_sendField _ _ t) rfl rfl,
      others, ?_⟩
    · change t.fieldLine ++ _ = _
      rw [show t.fieldLine = s.fieldLine from agree .fieldLine (by simp [permitReach])]
    · refine Eq.trans (b := t.line i) rfl (w.line.trans ?_)
      rw [← hring, hu]
      have : (t.line i).ringDelivered
          = (((s.line i).delivered delivered (s.ring.state != .none)).settled peak).ringDelivered := by
        rw [w.line, hu]
      rw [this]
      rfl
    · obtain ⟨hl, hws⟩ := w.still fun e => hd (hdue.mp (hu ▸ e))
      refine ⟨(congrArg Line.phase (hl.trans hu)).trans rfl, hws.trans hwaits⟩
    · obtain ⟨r', hr', hd'⟩ := Option.map_eq_some_iff.mp (hdel r hr ho)
      refine ⟨r', hr', hd'.trans ?_⟩
      rw [show ((sendField _ _ t).line i).ringDelivered = _ from hring, if_neg ho]
    · have hg := grown.trans (grown_sendField (pumpPort i) (eventAnswerFrame seq (.status .ok)) t)
      exact ⟨hg.replies, hg.link, (agree.mono (by simp +contextual)).trans ((agree_sendField _ _ t).mono (by simp))⟩

end Sys2Proof.Machine

/-! SUPPORT. The timers of a line at their expiry (R78, R82, R84, R85, R90). -/

namespace Sys2Proof.Machine

theorem writeGrout_level (s : State) :
    ((writeGrout s).permit.table.get Source.grout.idx).level = (groutLevel s.ring.state s.lines).1 :=
  writeEntry_level _ _ _ s

/-! ## The stroke timer (R82) -/

theorem strokeTimeout_running {i : LineNo} {s : State} (h : (s.line i).phase = .running) : strokeTimeout i s =
    writeGrout (faultLine i .lineFault .strokeTimeout .strokeTimeout
      (setLine i { s.line i with phase := .overdue } s)) := by
  unfold strokeTimeout
  rw [h]

/-- The stroke of a line is overdue: the line FAULTED with its record and its report (R82, R89, R94). -/
structure StrokeOverdue (i : LineNo) (s t : State) : Prop where
  line : t.line i = { (s.line i).rest with phase := .overdue, state := .faulted }
  added : FaultAdded ⟨.lineFault, .grout, none, some (pumpPort i), some i.val, .strokeTimeout, s.ring.number,
    s.adv.x⟩ s t
  reported : (s.line i).state ≠ .faulted → Reported (.line i (s.line i).state .faulted (s.line i).mode .strokeTimeout
    (s.line i).backlog .overdue s.ring.number) t
  others : ∀ j, j ≠ i → t.line j = s.line j
  acted : Acted (.lines :: .out :: permitReach) s t

theorem strokeOverdue_strokeTimeout {i : LineNo} {s : State} (h : (s.line i).phase = .running) :
    StrokeOverdue i s (strokeTimeout i s) := by
  rw [strokeTimeout_running h]
  have hl := fun j => line_setLine i j { s.line i with phase := .overdue } s
  have ha := agree_setLine i { s.line i with phase := .overdue } s
  have hg := grown_setLine i { s.line i with phase := .overdue } s
  have k := faultedLine_faultLine i .lineFault .strokeTimeout .strokeTimeout
    (setLine i { s.line i with phase := .overdue } s)
  have hrec : lineRecord .lineFault i .strokeTimeout (setLine i { s.line i with phase := .overdue } s)
      = lineRecord .lineFault i .strokeTimeout s := rfl
  rw [hrec] at k
  generalize faultLine i .lineFault .strokeTimeout .strokeTimeout (setLine i { s.line i with phase := .overdue } s) = v at k
  have hnum : (setLine i { s.line i with phase := .overdue } s).ring.number = s.ring.number := rfl
  have hout : (setLine i { s.line i with phase := .overdue } s).out = s.out := rfl
  generalize setLine i { s.line i with phase := .overdue } s = u at *
  have hi : u.line i = { s.line i with phase := .overdue } := by rw [hl, if_pos rfl]
  have w := spared_writeGrout v
  have hgs := hg.trans (k.grown.trans w.grown)
  refine ⟨?_, (k.added.before (by rw [hout])).writeGrout, fun hs => ?_, fun j hj => ?_, hgs.replies, hgs.link, ?_⟩
  · rw [w.line, k.line, if_pos rfl, hi]
    rfl
  · have hr := k.reported (by rw [hi]; exact hs)
    rw [hi, hnum] at hr
    exact hr.grown w.grown
  · rw [w.line, k.line, if_neg (Ne.symm hj), hl, if_neg (Ne.symm hj)]
  · exact (ha.mono (by simp)).trans ((k.agree.mono (by simp +contextual)).trans
      ((agree_writeGrout v).mono (by simp +contextual)))

/-! ## A line enters another state of its pulse or its priming (R84, R85) -/

/-- Line i enters a state, and stands as given; the LINE report shows the phase before a stroke is issued (log 15). -/
structure LineEntered (i : LineNo) (st : LineState) (l : Line) (s u : State) : Prop where
  line : ∀ j, u.line j = if i = j then l else s.line j
  reported : (s.line i).state ≠ st → Reported (.line i (s.line i).state st (s.line i).mode .none (s.line i).backlog
    (s.line i).phase s.ring.number) u
  grown : Grown s u
  agree : AgreeBut [.link, .lines] s u

/-- A timer is started in the state entered. -/
theorem LineEntered.startTimer {i : LineNo} {st : LineState} {l : Line} {s u : State} (h : LineEntered i st l s u)
    (k : LineTimerKind) (d : Nat) : LineEntered i st { l with timer := some (k, d) } s (startTimer i k d u) where
  line j := by
    unfold Machine.startTimer
    rw [line_setLine, h.line, h.line, if_pos rfl]
    split <;> rfl
  reported hs := (h.reported hs).grown (grown_setLine _ _ _)
  grown := h.grown.trans (grown_setLine _ _ _)
  agree := h.agree.trans ((agree_startTimer _ _ _ _).mono (by simp))

theorem lineEntered_moveLine (i : LineNo) (st : LineState) (s : State) : LineEntered i st
    { s.line i with state := st, mode := (s.line i).mode } s (moveLine i st (s.line i).mode .none s) where
  line j := moveLine_line i j st (s.line i).mode .none s
  reported := moveLine_reported
  grown := grown_moveLine _ _ _ _ s
  agree := agree_moveLine _ _ _ _ s

/-- The line leaves its timed state for another. -/
theorem lineEntered_rest (i : LineNo) (st : LineState) (s : State) : LineEntered i st
    { (s.line i).rest with state := st, mode := (s.line i).mode } s
    (moveLine i st (s.line i).mode .none (setLine i (s.line i).rest s)) :=
  have k := restMoved i st (s.line i).mode .none s
  ⟨k.line, fun h => k.reported (Ne.symm h), k.grown, k.agree⟩

/-! ## The delivery timer (R84) -/

theorem pulsePause_entered {i : LineNo} {s : State} {d : Nat} (h : (s.line i).timer = some (.delivery, d)) : ∃ u,
    pulsePause i s = writeGrout u
      ∧ LineEntered i .pulsePause { s.line i with
          state := .pulsePause, timer := some (.pause, (s.line i).timings.tS) } s u := by
  refine ⟨_, ?_, (lineEntered_moveLine i .pulsePause s).startTimer .pause (s.line i).timings.tS⟩
  unfold pulsePause
  dsimp only
  rw [h]

/-! ## The pause timer and the prime timer (R84, R85) -/

/-- The line once it delivers again. -/
def Line.delivering (l : Line) : Line :=
  { l.rest with state := .pulseDeliver, timer := some (.delivery, l.rest.timings.tP) }

theorem pulseDeliver_entered {i : LineNo} {s : State} {d : Nat} (h : (s.line i).timer = some (.pause, d)) : ∃ u,
    pulseDeliver i s = writeGrout (checkStroke i u)
      ∧ LineEntered i .pulseDeliver (s.line i).delivering s u := by
  refine ⟨_, ?_, (lineEntered_rest i .pulseDeliver s).startTimer .delivery (s.line i).rest.timings.tP⟩
  unfold pulseDeliver
  dsimp only
  rw [h]

theorem primeExpiry_prime {i : LineNo} {s : State} {d : Nat} (h : (s.line i).timer = some (.prime, d)) :
    primeExpiry i s = writeGrout (primeStroke i s) := by
  unfold primeExpiry
  rw [h]

/-- The line once it delivers its priming stroke. -/
def Line.stroking (l : Line) : Line := { l.rest with state := .primeStroke }

theorem lineEntered_primeEntered (i : LineNo) (s : State) :
    LineEntered i .primeStroke (s.line i).stroking s (primeEntered i s) := lineEntered_rest i .primeStroke s

/-- A state entered, and the stroke issued where it is due on a pump in service. -/
theorem LineEntered.stroked {i : LineNo} {st : LineState} {l : Line} {s u t : State} {due : Prop}
    (h : LineEntered i st l s u) (k : Stroked due i u t) : t.line i = { l with phase := (t.line i).phase }
      ∧ ((s.line i).state ≠ st → Reported (.line i (s.line i).state st (s.line i).mode .none (s.line i).backlog
        (s.line i).phase s.ring.number) t)
      ∧ (∀ j, j ≠ i → t.line j = s.line j) ∧ Acted (.lines :: permitReach) s t := by
  have hg := h.grown.trans k.grown
  refine ⟨?_, fun hs => (h.reported hs).grown k.grown, fun j hj => ?_, hg.replies, hg.link, ?_⟩
  · rw [k.line, h.line, if_pos rfl]
  · rw [k.others j hj, h.line, if_neg (Ne.symm hj)]
  · exact (h.agree.mono (by simp)).trans k.agree

/-! ## The stroke on a pump out of service (R90, R150) -/

/-- Line i entered a state, its stroke was PORT_LOST, and both lines of its pump are lost. -/
structure LostEntering (i : LineNo) (st : LineState) (s t : State) : Prop where
  line : ∀ j, t.line j =
    if pumpPort j ≠ pumpPort i then s.line j
    else if j ≠ i ∧ (s.line j).state = .stopped then { s.line j with phase := .none }
    else { (s.line j).rest with phase := .none, state := .faulted }
  entered : (s.line i).state ≠ st → Reported (.line i (s.line i).state st (s.line i).mode .none (s.line i).backlog
    .none s.ring.number) t
  told : ∀ j, pumpPort j = pumpPort i → j = i ∨ (s.line j).state ≠ .stopped ∧ (s.line j).state ≠ .faulted →
    Recorded ⟨.lineFault, .grout, none, some (pumpPort i), some j.val, .portLost, s.ring.number, s.adv.x⟩ t
      ∧ Reported (.line j (if j = i then st else (s.line j).state) .faulted (s.line j).mode .portLost
          (s.line j).backlog .none s.ring.number) t
  level : (t.permit.table.get Source.grout.idx).level = (groutLevel s.ring.state t.lines).1
  acted : Acted (.lines :: .out :: permitReach) s t

/-- The line entered differs from the line at rest in its state and its timer alone. -/
structure EnteredFrom (st : LineState) (l l' : Line) : Prop where
  state : l'.state = st
  mode : l'.mode = l.mode
  backlog : l'.backlog = l.backlog
  lost : l'.lost = { l.rest with phase := .none, state := .faulted }

theorem enteredFrom_delivering (l : Line) : EnteredFrom .pulseDeliver l l.delivering := ⟨rfl, rfl, rfl, rfl⟩

theorem enteredFrom_stroking (l : Line) : EnteredFrom .primeStroke l l.stroking := ⟨rfl, rfl, rfl, rfl⟩

theorem lostEntering_losePump {i : LineNo} {st : LineState} {l : Line} {s u : State} (h : LineEntered i st l s u)
    (hl : EnteredFrom st (s.line i) l) (hs : st ≠ .stopped ∧ st ≠ .faulted) (hph : (s.line i).phase = .none) :
    LostEntering i st s (writeGrout (losePump (pumpPort i) u)) := by
  have hi : u.line i = l := by rw [h.line, if_pos rfl]
  have hring : u.ring = s.ring := h.agree .ring (by simp)
  have hadv : u.adv = s.adv := h.agree .adv (by simp)
  have kl := inside_losePump (pumpPort i) u
  have w := spared_writeGrout (losePump (pumpPort i) u)
  have hlev := writeGrout_level (losePump (pumpPort i) u)
  rw [show (losePump (pumpPort i) u).ring.state = s.ring.state from
    (congrArg Meter.ring kl.meter).trans (congrArg Ring.state hring), ← writeGrout_lines] at hlev
  have hg := h.grown.trans (kl.grown.trans w.grown)
  have hline := fun j => losePump_line (pumpPort i) j u
  have ha : AgreeBut (.link :: permitReach) _ _ := agree_writeGrout (losePump (pumpPort i) u)
  have htold := fun j hj hs hf => (toldFaulted_losePump (p := pumpPort i) (i := j) (s := u) hj hs hf).mono w.grown
    (stays_writeGrout _)
  generalize writeGrout (losePump (pumpPort i) u) = t at w hlev hg ha htold
  generalize losePump (pumpPort i) u = v at kl w hline ha
  refine ⟨fun j => ?_, fun he => ?_, fun j hj hd => ?_, hlev, hg.replies, hg.link, ?_⟩
  · rw [w.line, hline]
    by_cases hj : pumpPort j = pumpPort i
    · rw [if_pos hj, if_neg (not_not.mpr hj), h.line]
      by_cases hij : i = j
      · subst hij
        rw [if_pos rfl, hl.lost, if_neg fun e => e.1 rfl]
      · rw [if_neg hij]
        simp only [Line.lost, Ne.symm hij, ne_eq, not_false_eq_true, true_and]
        rfl
    · have hij : i ≠ j := fun e => hj (e ▸ rfl)
      rw [if_neg hj, if_pos hj, h.line, if_neg hij]
  · have hr := h.reported he
    rw [hph] at hr
    exact hr.grown (kl.grown.trans w.grown)
  · have hu : (u.line j).state ≠ .stopped ∧ (u.line j).state ≠ .faulted := by
      rw [h.line]
      by_cases hij : i = j
      · rw [if_pos hij, hl.state]
        exact hs
      · rw [if_neg hij]
        exact hd.resolve_left (Ne.symm hij)
    have k := htold j hj hu.1 hu.2
    rw [hring, hadv] at k
    refine ⟨hj ▸ k.recorded, ?_⟩
    have hr := k.reported
    rw [h.line] at hr
    by_cases hij : i = j
    · subst hij
      rw [if_pos rfl, hl.state, hl.mode, hl.backlog] at hr
      rw [if_pos rfl]
      exact hr
    · rw [if_neg hij] at hr
      rw [if_neg (Ne.symm hij)]
      exact hr
  · exact (h.agree.mono (by simp)).trans (kl.acted.frame.trans (ha.mono (by simp +contextual)))

/-- Settles O29: each timer at its expiry, and the stroke on a pump out of service. -/
theorem lineTimersExpire : Obligations.LineTimersExpire := by
  unfold Obligations.LineTimersExpire
  intro i s
  dsimp only
  refine ⟨fun h => ?_, fun d h => ?_, fun d h hp => ?_, fun d h hp => ?_, fun hp hph => ⟨fun d h => ?_, fun d h => ?_⟩⟩
  · have k := strokeOverdue_strokeTimeout h
    exact ⟨_, rfl, k.line, k.added, k.reported, k.others, k.acted⟩
  · obtain ⟨u, hu, k⟩ := pulsePause_entered h
    have w := spared_writeGrout u
    have hg := k.grown.trans w.grown
    rw [← hu] at w hg
    refine ⟨pulsePause i s, rfl, ?_, fun hs => (k.reported hs).grown w.grown, fun j hj => ?_, hg.replies, hg.link, ?_⟩
    · rw [w.line, k.line, if_pos rfl]
    · rw [w.line, k.line, if_neg (Ne.symm hj)]
    · rw [hu]
      exact (k.agree.mono (by simp)).trans ((agree_writeGrout u).mono (by simp +contextual))
  · obtain ⟨u, hu, k⟩ := pulseDeliver_entered h
    have hi : u.line i = (s.line i).delivering := by rw [k.line, if_pos rfl]
    have hdue : (u.line i).due = true ↔ (s.line i).phase = .none := by
      rw [due_iff, hi]
      exact and_iff_left (.inl rfl)
    have w := stroked_checkStroke (i := i) (s := u) fun e => by
      rw [portUp_of_ports (k.agree .ports (by simp))]
      exact hp.resolve_right (not_not.mpr (hdue.mp e))
    rw [← hu] at w
    obtain ⟨hline, hrep, hoth, hact⟩ := k.stroked w
    refine ⟨pulseDeliver i s, rfl, hline, hrep, fun e => w.issued (hdue.mpr e), fun e => ?_, hoth, hact⟩
    rw [(w.still fun d => e (hdue.mp d)).1, hi]
    rfl
  · have w := stroked_primeStroke (i := i) (s := s) fun e => hp.resolve_right (not_not.mpr e)
    rw [← primeExpiry_prime h] at w
    have k := lineEntered_primeEntered i s
    obtain ⟨hline, hrep, hoth, hact⟩ := k.stroked w
    refine ⟨primeExpiry i s, rfl, hline, hrep, w.issued, fun e => ?_, hoth, hact⟩
    rw [(w.still e).1, k.line, if_pos rfl]
    rfl
  · obtain ⟨u, hu, k⟩ := pulseDeliver_entered h
    have hi : u.line i = (s.line i).delivering := by rw [k.line, if_pos rfl]
    have hdue : (u.line i).due = true := by
      rw [due_iff, hi]
      exact ⟨hph, .inl rfl⟩
    have hdown : u.portUp (pumpPort i) = false := by
      rw [portUp_of_ports (k.agree .ports (by simp)), hp]
    have w := lostEntering_losePump k (enteredFrom_delivering _) ⟨nofun, nofun⟩ hph
    rw [← issueStroke_lost hdown, ← show checkStroke i u = issueStroke i u from if_pos hdue, ← hu] at w
    exact ⟨pulseDeliver i s, rfl, w.line, w.entered, fun j hj hd => (w.told j hj hd).imp_right fun hr _ => hr, w.level,
      w.acted⟩
  · have k := lineEntered_primeEntered i s
    have hdown : (primeEntered i s).portUp (pumpPort i) = false := by
      rw [portUp_of_ports (k.agree .ports (by simp)), hp]
    have hphe : ((primeEntered i s).line i).phase = .none := by
      rw [k.line, if_pos rfl]
      exact hph
    have w := lostEntering_losePump k (enteredFrom_stroking _) ⟨nofun, nofun⟩ hph
    rw [← issueStroke_lost hdown, ← show primeStroke i s = issueStroke i (primeEntered i s) from if_pos hphe,
      ← primeExpiry_prime h] at w
    exact ⟨primeExpiry i s, rfl, w.line, w.entered, fun j hj hd => (w.told j hj hd).imp_right fun hr _ => hr, w.level,
      w.acted⟩

end Sys2Proof.Machine

/-! SUPPORT. The table fill (R148, R150, R151, R157, R159): one waiting request registered after another. -/

namespace Sys2Proof.Machine

/-! ## The first of a list and of an ascending range -/

theorem takeFirst_of_forall {α : Type} {q : α → Bool} {l : List α} (h : ∀ x ∈ l, q x = false) : takeFirst q l = none := by
  simpa [takeFirst] using takeFirst_append_of_none [] h

theorem takeFirst_append_cons {α : Type} {q : α → Bool} {a : List α} {x : α} (b : List α) (h : ∀ y ∈ a, q y = false)
    (hx : q x = true) : takeFirst q (a ++ x :: b) = some (x, a ++ b) := by
  rw [takeFirst_append_of_none _ h, takeFirst, if_pos hx]
  rfl

theorem findSome?_finRange {β : Type} {n : Nat} {f : Fin n → Option β} {p : Fin n} {b : β} (hp : f p = some b)
    (h : ∀ q, q < p → f q = none) : (List.finRange n).findSome? f = some b := by
  obtain ⟨a, c, hac⟩ := List.append_of_mem (List.mem_finRange p)
  have hs := (List.sortedLT_finRange n).pairwise
  rw [hac] at hs ⊢
  refine List.findSome?_eq_some_iff.mpr ⟨a, p, c, rfl, hp, fun q hq => h q ?_⟩
  exact (List.pairwise_append.mp hs).2.2 q hq p List.mem_cons_self

/-! ## What can register (R150, R151, R157) -/

/-- The item can register, but for room. -/
def WaitItem.ready (s : State) (w : WaitItem) : Prop :=
  (s.out.mode = .normal ∨ w.origin = .host ∨ w.origin = .safe ∨ w.origin = .port ∧ s.out.mode ≠ .released)
    ∧ (s.portUp w.port = true
        ∨ (s.ports.get w.port).state = .identifying ∧ w.origin = .port ∧ ∃ period, w.kind = .action (.identify period))

theorem admits_iff (m : OutMode) (o : Origin) :
    m.admits o = true ↔ m = .normal ∨ o = .host ∨ o = .safe ∨ o = .port ∧ m ≠ .released := by
  cases m <;> cases o <;> decide

theorem isIdentify_iff (o : Origin) (k : ReqKind) :
    isIdentify o k = true ↔ o = .port ∧ ∃ period, k = .action (.identify period) := by
  unfold isIdentify
  split
  · simp
  · rename_i h
    refine iff_of_false Bool.false_ne_true ?_
    rintro ⟨ho, period, hk⟩
    exact h period ho hk

theorem ableItem_iff (s : State) (w : WaitItem) : ableItem s w = true ↔ w.ready s := by
  unfold ableItem PortState.takes
  rw [Bool.and_eq_true, admits_iff, Bool.or_eq_true, Bool.and_eq_true, beq_iff_eq, isIdentify_iff]
  rfl

theorem ableItem_of_not {s : State} {w : WaitItem} (h : ¬ w.ready s) : ableItem s w = false := by
  rw [← Bool.not_eq_true, ableItem_iff]
  exact h

/-- The point can register: DIRTY, owned by a job, with a commanded value. -/
def PointAble (s : State) (p : PortNo) (i : Fin 16) : Prop :=
  (s.req.point p i).state = .dirty ∧ s.out.mode = .normal ∧ s.portUp p = true
    ∧ Config.pointOwner p i.val ≠ .free ∧ (s.req.point p i).commanded ≠ none

/-- The origin in which an owned point is written (R151). -/
def ownerOrigin (p : PortNo) (i : Fin 16) : Origin :=
  if Config.pointOwner p i.val = .pressure then .pressure else .advance

theorem ablePoint_of_able {s : State} {p : PortNo} {i : Fin 16} {v : Nat} (h : PointAble s p i)
    (hv : (s.req.point p i).commanded = some v) : ablePoint s p i = some (ownerOrigin p i, v) := by
  obtain ⟨hd, hm, hp, hf, -⟩ := h
  unfold ablePoint ownerOrigin
  dsimp only
  rw [if_pos ⟨hd, hm, hp⟩, hv]
  cases ho : Config.pointOwner p i.val with
  | free => exact absurd ho hf
  | advance | pressure => rfl

theorem ablePoint_of_not {s : State} {p : PortNo} {i : Fin 16} (h : ¬ PointAble s p i) : ablePoint s p i = none := by
  unfold ablePoint
  dsimp only
  split
  · rename_i hc
    obtain ⟨hd, hm, hp⟩ := hc
    cases ho : Config.pointOwner p i.val with
    | free => rfl
    | advance | pressure =>
      cases hv : (s.req.point p i).commanded with
      | none => rfl
      | some v => exact absurd ⟨hd, hm, hp, by simp [ho], by simp [hv]⟩ h
  · rfl

theorem firstPoint_of_first {s : State} {p : PortNo} {i : Fin 16} {v : Nat} (h : PointAble s p i)
    (hv : (s.req.point p i).commanded = some v) (hf : ∀ q j, q < p ∨ q = p ∧ j < i → ¬ PointAble s q j) :
    firstPoint s = some (p, i, ownerOrigin p i, v) := by
  refine findSome?_finRange (p := p) (findSome?_finRange (p := i) ?_ fun j hj => ?_) fun q hq => ?_
  · rw [ablePoint_of_able h hv]
    rfl
  · rw [ablePoint_of_not (hf p j (.inr ⟨rfl, hj⟩))]
    rfl
  · rw [List.findSome?_eq_none_iff]
    intro j _
    rw [ablePoint_of_not (hf q j (.inl hq))]
    rfl

theorem firstPoint_none_iff (s : State) : firstPoint s = none ↔ ∀ p i, ¬ PointAble s p i := by
  unfold firstPoint
  simp only [List.findSome?_eq_none_iff, List.mem_finRange, true_implies, Option.map_eq_none_iff]
  refine forall_congr' fun p => forall_congr' fun i => ⟨fun h ha => ?_, ablePoint_of_not⟩
  obtain ⟨v, hv⟩ := Option.ne_none_iff_exists'.mp ha.2.2.2.2
  rw [ablePoint_of_able ha hv] at h
  exact absurd h nofun

/-! ## An item registered (R120, R148, R151, R159) -/

theorem strokeRegistered_lines (i : LineNo) (n : Nat) (s : State) : (strokeRegistered i n s).lines =
    if (s.line i).phase = .pending then put s.lines i { s.line i with phase := .requested n } else s.lines := by
  unfold strokeRegistered
  split <;> rfl

theorem agree_strokeRegistered (i : LineNo) (n : Nat) (s : State) : AgreeBut [.lines] s (strokeRegistered i n s) := by
  unfold strokeRegistered
  split
  · exact agree_setLine _ _ s
  · exact .refl _ s

theorem stepRegistered_build (n : Nat) (s : State) : (stepRegistered n s).build =
    match s.build.step with
    | some st =>
      if st.action = .pending then
        { s.build with step := some { st with action := .requested n, timer := some (phaseTime st.state) } }
      else s.build
    | none => s.build := by
  unfold stepRegistered
  cases s.build.step with
  | none => rfl
  | some st =>
    dsimp only
    split <;> rfl

theorem agree_stepRegistered (n : Nat) (s : State) : AgreeBut [.build] s (stepRegistered n s) := by
  unfold stepRegistered
  split
  · exact .refl _ s
  · split
    · exact agree_setBuild (by simp) _ s
    · exact .refl _ s

/-- A waiting item registered out of its list: the newest entry, its points, and its owner told. -/
structure ItemRegistered (w : WaitItem) (rest : List WaitItem) (s u : State) : Prop where
  counter : u.req.counter = s.req.nextSeq
  waits : u.req.waits = rest
  seqBytes : u.req.seqBytes = s.req.seqBytes
  table : u.req.table = s.req.table ++ [⟨w.origin, none, w.port, w.kind, .queued, 1, s.req.nextSeq⟩]
  written : ∀ pairs, w.kind = .write pairs → (pairs.map (·.1)).Nodup → ∀ (i : Fin 16) (v : Nat), (i.val, v) ∈ pairs →
    u.req.point w.port i = { s.req.point w.port i with commanded := some v, state := .pending }
  others : ∀ (q : PortNo) (j : Fin 16), (q ≠ w.port ∨ ∀ pairs, w.kind = .write pairs → ∀ v, (j.val, v) ∉ pairs) →
    u.req.point q j = s.req.point q j
  lines : u.lines = (match w.origin, w.kind with
    | .grout, .action (.stroke i _) =>
      if (s.line i).phase = .pending then put s.lines i { s.line i with phase := .requested s.req.nextSeq } else s.lines
    | _, _ => s.lines)
  build : u.build = (match w.origin, s.build.step with
    | .build, some st =>
      if st.action = .pending then
        { s.build with step := some { st with action := .requested s.req.nextSeq, timer := some (phaseTime st.state) } }
      else s.build
    | _, _ => s.build)
  agree : AgreeBut [.req, .lines, .build] s u

/-- The Request Unit once the item stands in its table. -/
def itemEntered (w : WaitItem) (rest : List WaitItem) (s : State) : State :=
  s.setReq (({ s.req with waits := rest } : Requests).enter w.origin none w.port w.kind)

/-- The owner of a registered item is told. -/
def tellOwner (w : WaitItem) (n : Nat) (s : State) : State :=
  match w.origin, w.kind with
  | .grout, .action (.stroke i _) => strokeRegistered i n s
  | .build, _ => stepRegistered n s
  | _, _ => s

theorem registerItem_eq (w : WaitItem) (rest : List WaitItem) (s : State) :
    registerItem w (s.setReq { s.req with waits := rest }) = tellOwner w s.req.nextSeq (itemEntered w rest s) := rfl

section
variable (w : WaitItem) (n : Nat) (s : State)

theorem tellOwner_req : (tellOwner w n s).req = s.req := by
  unfold tellOwner
  split
  · exact strokeRegistered_req _ _ _
  · exact stepRegistered_req _ _
  · rfl

theorem tellOwner_lines : (tellOwner w n s).lines = (match w.origin, w.kind with
    | .grout, .action (.stroke i _) =>
      if (s.line i).phase = .pending then put s.lines i { s.line i with phase := .requested n } else s.lines
    | _, _ => s.lines) := by
  unfold tellOwner
  split
  · rename_i ho hk
    rw [ho, hk]
    exact strokeRegistered_lines _ _ _
  · rename_i ho
    rw [ho]
    exact agree_stepRegistered n s .lines (by simp)
  · rename_i hn
    split
    · rename_i ho hk
      exact absurd hk (hn _ _ ho)
    · rfl

theorem tellOwner_build : (tellOwner w n s).build = (match w.origin, s.build.step with
    | .build, some st =>
      if st.action = .pending then
        { s.build with step := some { st with action := .requested n, timer := some (phaseTime st.state) } }
      else s.build
    | _, _ => s.build) := by
  unfold tellOwner
  split
  · rename_i ho _
    rw [ho, show (strokeRegistered _ n s).build = s.build from agree_strokeRegistered _ n s .build (by simp)]
  · rename_i ho
    rw [ho, stepRegistered_build]
    cases s.build.step <;> rfl
  · rename_i hb _
    split
    · exact absurd ‹w.origin = .build› hb
    · rfl

theorem agree_tellOwner : AgreeBut [.lines, .build] s (tellOwner w n s) := by
  unfold tellOwner
  split
  · exact (agree_strokeRegistered _ _ s).mono (by simp)
  · exact (agree_stepRegistered _ s).mono (by simp)
  · exact .refl _ s

end

theorem itemRegistered_registerItem (w : WaitItem) (rest : List WaitItem) (s : State) :
    ItemRegistered w rest s (registerItem w (s.setReq { s.req with waits := rest })) := by
  rw [registerItem_eq]
  have hreq : (tellOwner w s.req.nextSeq (itemEntered w rest s)).req
      = ({ s.req with waits := rest } : Requests).enter w.origin none w.port w.kind := tellOwner_req _ _ _
  have himage := modWritten_image (({ s.req with waits := rest } : Requests).register w.origin none w.port w.kind)
    w.port w.kind fun _ => Point.asked
  refine ⟨?_, ?_, ?_, ?_, fun pairs hk hn i v hv => ?_, fun q j h => ?_, tellOwner_lines _ _ _, tellOwner_build _ _ _,
    (agree_setReq (by simp) _ s).trans ((agree_tellOwner _ _ _).mono (by simp))⟩
  · rw [hreq]
    unfold Requests.enter
    rw [himage]
    rfl
  · rw [hreq]
    exact modWritten_waits _ _ _ _
  · rw [hreq]
    unfold Requests.enter
    rw [himage]
    rfl
  · rw [hreq, enter_table]
    rfl
  · rw [hreq, hk]
    exact point_modWritten _ _ _ _ _ _ hn hv
  · rw [hreq]
    unfold Requests.enter
    cases hk : w.kind with
    | write pairs =>
      refine point_modWritten_ne _ _ _ _ _ _ (h.imp_right fun hp hm => ?_)
      obtain ⟨⟨_, v⟩, hv, rfl⟩ := List.mem_map.mp hm
      exact hp pairs hk v hv
    | read | action => rfl

/-! ## One request registered (R151) -/

section
variable {s u : State}

/-- The fill's test for a safe item. -/
theorem safeAble_of_not {w : WaitItem} (h : w.origin ≠ .safe ∨ ¬ w.ready s) :
    (w.origin == .safe && ableItem s w) = false := by
  rcases h with h | h
  · rw [beq_eq_false_iff_ne.mpr h, Bool.false_and]
  · rw [ableItem_of_not h, Bool.and_false]

theorem fillOne_safe {before after : List WaitItem} {w : WaitItem} (hs : s.req.waits = before ++ w :: after)
    (ho : w.origin = .safe) (hw : w.ready s) (hb : ∀ b ∈ before, b.origin ≠ .safe ∨ ¬ b.ready s) :
    fillOne s = some (registerItem w (s.setReq { s.req with waits := before ++ after })) := by
  unfold fillOne
  rw [hs, takeFirst_append_cons after (fun b h => safeAble_of_not (hb b h))
    (by rw [ho, (ableItem_iff s w).mpr hw, beq_self_eq_true]; rfl)]

theorem fillOne_item {before after : List WaitItem} {w : WaitItem} (hs : s.req.waits = before ++ w :: after)
    (hw : w.ready s) (hn : ∀ b ∈ s.req.waits, b.origin ≠ .safe ∨ ¬ b.ready s) (hb : ∀ b ∈ before, ¬ b.ready s) :
    fillOne s = some (registerItem w (s.setReq { s.req with waits := before ++ after })) := by
  unfold fillOne
  rw [takeFirst_of_forall fun b h => safeAble_of_not (hn b h), hs,
    takeFirst_append_cons after (fun b h => ableItem_of_not (hb b h)) ((ableItem_iff s w).mpr hw)]

/-- The state with the DIRTY point registered. -/
def pointRegistered (s : State) (p : PortNo) (i : Fin 16) (o : Origin) (v : Nat) : State :=
  s.setReq ((s.req.register o none p (.write [(i.val, v)])).setPoint p i { s.req.point p i with state := .pending })

theorem fillOne_point (h : ∀ b ∈ s.req.waits, ¬ b.ready s) :
    fillOne s = (firstPoint s).map fun x => pointRegistered s x.1 x.2.1 x.2.2.1 x.2.2.2 := by
  unfold fillOne
  rw [takeFirst_of_forall fun b hb => safeAble_of_not (.inr (h b hb)),
    takeFirst_of_forall fun b hb => ableItem_of_not (h b hb)]
  cases firstPoint s <;> rfl

/-- One request registered: one entry joins the table, and nothing changes but the Request Unit and the owner told. -/
structure OneRegistered (s u : State) : Prop where
  table : ∃ e, u.req.table = s.req.table ++ [e]
  agree : AgreeBut [.req, .lines, .build] s u

theorem ItemRegistered.one {w : WaitItem} {rest : List WaitItem} (h : ItemRegistered w rest s u) : OneRegistered s u :=
  ⟨⟨_, h.table⟩, h.agree⟩

theorem oneRegistered_fillOne (h : fillOne s = some u) : OneRegistered s u := by
  unfold fillOne at h
  split at h
  · cases h
    exact (itemRegistered_registerItem _ _ s).one
  · split at h
    · cases h
      exact (itemRegistered_registerItem _ _ s).one
    · split at h
      · cases h
        exact ⟨⟨_, rfl⟩, agree_setReq (by simp) _ s⟩
      · exact absurd h nofun

theorem OneRegistered.length (h : OneRegistered s u) : u.req.table.length = s.req.table.length + 1 := by
  obtain ⟨⟨e, he⟩, -⟩ := h
  rw [he, List.length_append]
  rfl

/-! ## The table filled (R151) -/

theorem fillTable_succ (fuel : Nat) (h : fillOne s = some u) : fillTable (fuel + 1) s = fillTable fuel u := by
  rw [fillTable, h]

theorem fillTable_none (fuel : Nat) (h : fillOne s = none) : fillTable fuel s = s := by
  cases fuel with
  | zero => rfl
  | succ fuel => rw [fillTable, h]

theorem tableFill_step (hl : s.req.table.length < 32) (h : fillOne s = some u) : tableFill s = tableFill u := by
  have hu := (oneRegistered_fillOne h).length
  change fillTable (32 - s.req.table.length) s = fillTable (32 - u.req.table.length) u
  rw [show 32 - s.req.table.length = 32 - u.req.table.length + 1 by omega]
  exact fillTable_succ _ h

theorem tableFill_stands (h : ¬ s.req.table.length < 32 ∨ fillOne s = none) : tableFill s = s := by
  rcases h with h | h
  · change fillTable (32 - s.req.table.length) s = s
    rw [show 32 - s.req.table.length = 0 by omega]
    rfl
  · exact fillTable_none _ h

end

/-- The table as filled: full or with nothing more that can register, its earlier entries in their places. -/
structure Filled (fuel : Nat) (s t : State) : Prop where
  done : t.req.table.length = s.req.table.length + fuel ∨ fillOne t = none
  table : s.req.table <+: t.req.table
  length : t.req.table.length ≤ s.req.table.length + fuel
  agree : AgreeBut [.req, .lines, .build] s t

theorem filled_fillTable (fuel : Nat) (s : State) : Filled fuel s (fillTable fuel s) := by
  induction fuel generalizing s with
  | zero => exact ⟨.inl rfl, List.prefix_rfl, le_rfl, .refl _ s⟩
  | succ fuel ih =>
    cases h : fillOne s with
    | none =>
      rw [fillTable_none _ h]
      exact ⟨.inr h, List.prefix_rfl, Nat.le_add_right _ _, .refl _ s⟩
    | some u =>
      rw [fillTable_succ fuel h]
      have one := oneRegistered_fillOne h
      obtain ⟨done, table, length, agree⟩ := ih u
      have hl := one.length
      obtain ⟨e, he⟩ := one.table
      exact ⟨done.imp_left (by omega), (he ▸ List.prefix_append _ _).trans table, by omega, one.agree.trans agree⟩

theorem exec_tableFill (s : State) : exec .tableFill s = .next (tableFill s) := rfl

/-- Settles O51: the fill one request at a time, and which request each time. -/
theorem tableFillRule : Obligations.TableFillRule := by
  unfold Obligations.TableFillRule
  intro s
  dsimp only
  have registers : ∀ {w : WaitItem} {rest : List WaitItem},
      fillOne s = some (registerItem w (s.setReq { s.req with waits := rest })) →
      ∃ u, fillOne s = some u ∧ ItemRegistered w rest s u := fun h => ⟨_, h, itemRegistered_registerItem _ _ s⟩
  refine ⟨fun u hl h => ?_, fun h => ?_, fun hl => ?_,
    fun before w after hs ho hw hb => ?_, fun before w after hs hw hn hb => ?_, fun hn => ⟨?_, fun p i v h hv hf => ?_⟩⟩
  · rw [exec_tableFill, exec_tableFill, tableFill_step hl h]
  · rw [exec_tableFill, tableFill_stands h]
  · have k := filled_fillTable (32 - s.req.table.length) s
    have hg : Grown s (tableFill s) := .of_link (k.agree .link (by simp))
    exact ⟨tableFill s, rfl, k.done.imp_left fun e => e.trans (by omega), k.table, k.length.trans (by omega),
      hg.replies, hg.link, k.agree.mono (by simp)⟩
  · obtain ⟨u, hu, k⟩ := registers (fillOne_safe hs ho hw hb)
    exact ⟨u, hu, k.counter, k.waits, k.seqBytes, k.table, k.written, k.others, k.lines, k.build, k.agree⟩
  · obtain ⟨u, hu, k⟩ := registers (fillOne_item hs hw hn hb)
    exact ⟨u, hu, k.counter, k.waits, k.seqBytes, k.table, k.written, k.others, k.lines, k.build, k.agree⟩
  · rw [fillOne_point hn, Option.map_eq_none_iff]
    exact firstPoint_none_iff s
  · refine ⟨pointRegistered s p i (ownerOrigin p i) v, ?_, rfl, rfl, rfl, ?_, fun q j hq => ?_,
      agree_setReq (by simp) _ s⟩
    · rw [fillOne_point hn, firstPoint_of_first h hv hf]
      rfl
    · exact (point_setPoint _ _ _ _ _ _).trans (if_pos ⟨rfl, rfl⟩)
    · exact (point_setPoint _ _ _ _ _ _).trans (if_neg fun e => hq.elim (fun n => n e.1.symm) fun n => n e.2.symm)

end Sys2Proof.Machine

/-! SUPPORT. The end of an entry on a port's line (R141, R154, R155): the answers that bring it, the units that follow before
its owner is told, and the owners of writes, of steps and of strokes (R79, R121, R155, R160, R162). -/

namespace Sys2Proof.Machine

theorem agree_setTick {ps : List Part} (hp : .tick ∈ ps) (v : Nat) (s : State) : AgreeBut ps s (s.setTick v) := by
  intro p h
  cases p with
  | tick => exact absurd hp h
  | _ => rfl

theorem agree_setPorts {ps : List Part} (hp : .ports ∈ ps) (v : Vector Port 16) (s : State) :
    AgreeBut ps s (s.setPorts v) := by
  intro p h
  cases p with
  | ports => exact absurd hp h
  | _ => rfl

theorem agree_report (r : Report) (s : State) : AgreeBut [.link] s (report r s) := agree_setLink (by simp) _ s

/-! ## The tellings of an outcome, at most two -/

theorem tellAll_pair (f g : State → State) (s : State) :
    tellAll [f, g] s = g (f (s.setTick (s.tick + 1))) ∨ tellAll [f, g] s = f (g (s.setTick (s.tick + 1))) := by
  have hall : tellAll [f, g] s = applyInOrder 1 (Config.tellingOrder s.tick / 2)
      ([f, g].eraseIdx (Config.tellingOrder s.tick % 2))
      (([f, g].getD (Config.tellingOrder s.tick % 2) id) (s.setTick (s.tick + 1))) := rfl
  rcases Nat.mod_two_eq_zero_or_one (Config.tellingOrder s.tick) with h | h
  · rw [h] at hall
    exact .inl hall
  · rw [h] at hall
    exact .inr hall

/-! ## The entry on the line (R153, R154) -/

theorem takeFirst_erase {α : Type} [BEq α] [LawfulBEq α] {l : List α} {x : α} (h : x ∈ l) :
    takeFirst (fun d => d == x) l = some (x, l.erase x) := by
  induction l with
  | nil => exact absurd h List.not_mem_nil
  | cons y l ih =>
    rw [List.erase_cons]
    by_cases hy : (y == x) = true
    · rw [takeFirst, if_pos hy, if_pos hy, eq_of_beq hy]
    · have hx : x ∈ l := (List.mem_cons.mp h).resolve_left fun e => hy (by rw [e, beq_self_eq_true])
      rw [takeFirst_cons_of_neg (by simpa using hy), ih hx, if_neg hy]
      rfl

/-- The entry stands on the line of the port, under a sequence byte. -/
structure OnLine (p : PortNo) (e : Entry) (seq : Byte) (s : State) : Prop where
  flying : s.req.flying p = some e
  state : e.state = .inFlight seq

/-- The requests once the entry has left the table. -/
def leftBy (e : Entry) (s : State) : Requests := { s.req with table := s.req.table.erase e }

/-- The entry has left, and the image and the no-answer count have followed, before anyone is told (R141, R155). -/
def ended (e : Entry) (o : ReqOutcome) (s : State) : State :=
  (countOutcome e o (s.setReq ((leftBy e s).endWrite e.port e.kind o))).setTick (s.tick + 1)

section
variable {p : PortNo} {e : Entry} {seq : Byte} {s : State} {o : ReqOutcome}

theorem OnLine.mem (h : OnLine p e seq s) : e ∈ s.req.table := List.mem_of_find?_eq_some h.flying

theorem OnLine.port (h : OnLine p e seq s) : e.port = p := by
  have := List.find?_some h.flying
  rw [Bool.and_eq_true, beq_iff_eq] at this
  exact this.1

theorem OnLine.attemptsMade (h : OnLine p e seq s) : e.attemptsMade = e.attempts := by
  unfold Entry.attemptsMade
  rw [h.state]
  rfl

theorem finishEntry_eq (h : OnLine p e seq s) (o : ReqOutcome) : finishEntry e o s =
    tellAll (outcomeTellings e o (ended e o s))
      (countOutcome e o (s.setReq ((leftBy e s).endWrite e.port e.kind o))) := by
  unfold finishEntry
  rw [takeFirst_erase h.mem]
  rfl

theorem exec_answerFrame (p : PortNo) (seq : Byte) (body : List Byte) (s : State) :
    exec (.answerFrame p seq body) s = .next (takeAnswer p seq body s) := rfl

theorem exec_answerTimerExpiry (p : PortNo) (s : State) : exec (.answerTimerExpiry p) s = .next (answerTimeout p s) :=
  rfl

theorem exec_done (h : OnLine p e seq s) {data : List Byte} {values : List Nat}
    (hd : answerData e.kind data = some values) :
    exec (.answerFrame p seq (0 :: data)) s = .next (finishEntry e (.done values) s) := by
  rw [exec_answerFrame]
  unfold takeAnswer answerEntry
  rw [h.flying]
  dsimp only
  rw [if_pos h.state, show answerBody (0 :: data) = .done data from rfl]
  dsimp only
  rw [hd]

theorem exec_refused (h : OnLine p e seq s) (reason : Byte) :
    exec (.answerFrame p seq [1, reason]) s = .next (finishEntry e (.refused reason) s) := by
  rw [exec_answerFrame]
  unfold takeAnswer answerEntry
  rw [h.flying]
  dsimp only
  rw [if_pos h.state, show answerBody [1, reason] = .refused reason from rfl]

theorem exec_noAnswer (h : OnLine p e seq s) :
    exec (.answerTimerExpiry p) s = .next (finishEntry e .noAnswer s) := by
  rw [exec_answerTimerExpiry]
  unfold answerTimeout
  rw [h.flying]

/-! ## The units before the owner is told -/

theorem ended_req (h : OnLine p e seq s) : (ended e o s).req = (leftBy e s).endWrite p e.kind o := by
  rw [← h.port]
  rfl

theorem ended_ports (h : OnLine p e seq s) : (ended e o s).ports =
    put s.ports p { s.ports.get p with noAnswer := countAnswer o (s.ports.get p).noAnswer } := by
  rw [← h.port]
  rfl

theorem agree_ended (e : Entry) (o : ReqOutcome) (s : State) : AgreeBut [.req, .ports, .tick] s (ended e o s) :=
  (agree_setReq (by simp) _ s).trans ((agree_setPorts (by simp) _ _).trans (agree_setTick (by simp) _ _))

theorem grown_ended (e : Entry) (o : ReqOutcome) (s : State) : Grown s (ended e o s) := .of_link rfl

/-- A station that answers is not silent (R141). -/
def Answering (o : ReqOutcome) : Prop := ∀ n, countAnswer o n = 0

theorem answering_done (values : List Nat) : Answering (.done values) := fun _ => rfl

theorem answering_refused (reason : Byte) : Answering (.refused reason) := fun _ => rfl

theorem silent_ended (h : OnLine p e seq s) (ho : Answering o) : silent e.port (ended e o s) = false := by
  unfold silent
  rw [h.port, ended_ports h, get_put_self]
  dsimp only
  rw [ho]
  rfl

/-- The tellings of an answered request that is not the port's own. -/
theorem outcomeTellings_eq (h : OnLine p e seq s) (ho : Answering o) (hp : e.origin ≠ .port) :
    outcomeTellings e o (ended e o s) =
      (if (recordedFailure e o).isSome then [recordFailure e o] else [])
        ++ (match e.origin with
          | .advance | .pressure | .port => []
          | .host | .grout | .build | .safe => [handOutcome e o]) := by
  have ha : awaitsIdentity e (ended e o s) = false := by
    unfold awaitsIdentity
    rw [show isIdentify e.origin e.kind = false by
      rw [← Bool.not_eq_true, isIdentify_iff]
      exact fun k => hp k.1]
    rfl
  unfold outcomeTellings
  rw [ha, silent_ended h ho]
  exact List.append_nil _

/-- The one telling to the party that asked. -/
theorem finishEntry_told (h : OnLine p e seq s) (ho : Answering o) (hf : recordedFailure e o = none)
    (hw : e.origin = .host ∨ e.origin = .grout ∨ e.origin = .build ∨ e.origin = .safe) :
    finishEntry e o s = handOutcome e o (ended e o s) := by
  rw [finishEntry_eq h, outcomeTellings_eq h ho (by rcases hw with k | k | k | k <;> rw [k] <;> exact nofun), hf]
  rcases hw with k | k | k | k <;> rw [k] <;> rfl

/-- No telling: a job's write ended well. -/
theorem finishEntry_untold (h : OnLine p e seq s) (ho : Answering o) (hf : recordedFailure e o = none)
    (hw : e.origin = .advance ∨ e.origin = .pressure) : finishEntry e o s = ended e o s := by
  rw [finishEntry_eq h, outcomeTellings_eq h ho (by rcases hw with k | k <;> rw [k] <;> exact nofun), hf]
  rcases hw with k | k <;> rw [k] <;> rfl

theorem recordedFailure_done (e : Entry) (values : List Nat) : recordedFailure e (.done values) = none := by
  unfold recordedFailure
  split <;> rfl

theorem recordedFailure_action {a : Action} (h : e.kind = .action a) (o : ReqOutcome) : recordedFailure e o = none := by
  unfold recordedFailure
  rw [h]

theorem recordedFailure_safe (h : e.origin = .safe) (o : ReqOutcome) : recordedFailure e o = none := by
  unfold recordedFailure
  rw [h]
  cases e.kind <;> rfl

theorem recordedFailure_write {pairs : List (Nat × Nat)} (hk : e.kind = .write pairs) (ho : e.origin ≠ .safe)
    (reason : Byte) : recordedFailure e (.refused reason) = some (.refused reason) := by
  unfold recordedFailure
  rw [hk]
  cases h : e.origin with
  | safe => exact absurd h ho
  | _ => rfl

theorem Grown.acted {ps : List Part} {t : State} (g : Grown s t) (a : AgreeBut (.link :: ps) s t) : Acted ps s t :=
  ⟨g.replies, g.link, a⟩

theorem acted_ended (e : Entry) (o : ReqOutcome) (s : State) : Acted [.req, .ports, .tick] s (ended e o s) :=
  (grown_ended e o s).acted ((agree_ended e o s).mono (by simp))

/-! ## A write ended (R155, R159, R160, R162) -/

theorem handFault_req {f : FaultRec} (h : s.out.faults.length < 8) : (handFault f s).req = s.req := by
  unfold handFault
  rw [if_pos (show s.out.faults.length < Config.faultCap from h)]
  rfl

/-- The host is reported to (R162). -/
theorem reported_handOutcome (h : OnLine p e seq s) {tag : Byte} (ho : e.origin = .host) (ht : e.tag = some tag)
    (u : State) : Reported (.requestDone tag e.seqNo p e.kind o e.attempts) (handOutcome e o u) := by
  unfold handOutcome
  rw [ho, ht, h.attemptsMade, h.port]
  exact reported_report _ _

theorem handOutcome_host (ho : e.origin = .host) (u : State) :
    ∃ r, handOutcome e o u = report r u := by
  unfold handOutcome
  rw [ho]
  exact ⟨_, rfl⟩

/-- The failure of a write recorded: what follows of it. -/
structure WriteFailed (e : Entry) (cause : FaultCause) (s t : State) : Prop where
  added : FaultAdded ⟨.writeFailed, e.origin, e.tag, some e.port, e.kind.firstPoint, cause, s.ring.number, s.adv.x⟩ s t
  req : s.out.faults.length < 8 → t.req = s.req
  grown : Grown s t
  agree : AgreeBut (.out :: .link :: permitReach) s t

theorem writeFailed_recordFailure {cause : FaultCause} (h : recordedFailure e o = some cause) (u : State) :
    WriteFailed e cause u (recordFailure e o u) := by
  unfold recordFailure
  rw [h]
  exact ⟨(handFault_added _ u).1, handFault_req, (inside_handFault _ u).grown, (handFault_added _ u).2⟩

/-- A failure recorded before or after a report. -/
theorem WriteFailed.report_after {cause : FaultCause} {u t : State} (h : WriteFailed e cause u t) (r : Report) :
    WriteFailed e cause u (report r t) where
  added := h.added.after (grown_report _ _) rfl rfl
  req := h.req
  grown := h.grown.trans (grown_report _ _)
  agree := h.agree.trans ((agree_report r t).mono (by simp))

theorem WriteFailed.report_before {cause : FaultCause} {u t : State} {r : Report}
    (h : WriteFailed e cause (report r u) t) : WriteFailed e cause u t where
  added := h.added.before rfl
  req := h.req
  grown := (grown_report _ _).trans h.grown
  agree := ((agree_report r u).mono (by simp)).trans h.agree

/-- A refused write of the host: its record and its report, in either order. -/
theorem finishEntry_refused_host (h : OnLine p e seq s) {pairs : List (Nat × Nat)} (hk : e.kind = .write pairs)
    (ho : e.origin = .host) (reason : Byte) :
    finishEntry e (.refused reason) s
        = handOutcome e (.refused reason) (recordFailure e (.refused reason) (ended e (.refused reason) s))
      ∨ finishEntry e (.refused reason) s
        = recordFailure e (.refused reason) (handOutcome e (.refused reason) (ended e (.refused reason) s)) := by
  have hl : outcomeTellings e (.refused reason) (ended e (.refused reason) s)
      = [recordFailure e (.refused reason), handOutcome e (.refused reason)] := by
    rw [outcomeTellings_eq h (answering_refused reason) (by rw [ho]; exact nofun),
      recordedFailure_write hk (by rw [ho]; exact nofun), ho]
    rfl
  rw [finishEntry_eq h, hl]
  exact tellAll_pair _ _ _

/-- A refused write of a job: its record. -/
theorem finishEntry_refused_job (h : OnLine p e seq s) {pairs : List (Nat × Nat)} (hk : e.kind = .write pairs)
    (ho : e.origin = .advance ∨ e.origin = .pressure) (reason : Byte) :
    finishEntry e (.refused reason) s = recordFailure e (.refused reason) (ended e (.refused reason) s) := by
  have hl : outcomeTellings e (.refused reason) (ended e (.refused reason) s) = [recordFailure e (.refused reason)] := by
    rw [outcomeTellings_eq h (answering_refused reason) (by rcases ho with k | k <;> rw [k] <;> exact nofun),
      recordedFailure_write hk (by rcases ho with k | k <;> rw [k] <;> exact nofun)]
    rcases ho with k | k <;> rw [k] <;> rfl
  rw [finishEntry_eq h, hl]
  rfl

/-- The end of a refused write, whoever asked: its record, and the host's report. -/
theorem finishEntry_writeRefused (h : OnLine p e seq s) {pairs : List (Nat × Nat)} (hk : e.kind = .write pairs)
    (hw : e.origin = .host ∨ e.origin = .advance ∨ e.origin = .pressure) (reason : Byte) :
    WriteFailed e (.refused reason) (ended e (.refused reason) s) (finishEntry e (.refused reason) s)
      ∧ ∀ tag, e.origin = .host → e.tag = some tag →
        Reported (.requestDone tag e.seqNo p e.kind (.refused reason) e.attempts) (finishEntry e (.refused reason) s) := by
  have hf := recordedFailure_write hk (by rcases hw with k | k | k <;> rw [k] <;> exact nofun) reason
  rcases hw with ho | ho
  · rcases finishEntry_refused_host h hk ho reason with hc | hc
    · obtain ⟨r, hr⟩ := handOutcome_host (o := .refused reason) ho
        (recordFailure e (.refused reason) (ended e (.refused reason) s))
      rw [hc]
      exact ⟨hr ▸ (writeFailed_recordFailure hf _).report_after r, fun tag _ ht => reported_handOutcome h ho ht _⟩
    · obtain ⟨r, hr⟩ := handOutcome_host (o := .refused reason) ho (ended e (.refused reason) s)
      rw [hc]
      refine ⟨?_, fun tag _ ht => (reported_handOutcome h ho ht _).grown (writeFailed_recordFailure hf _).grown⟩
      rw [hr]
      exact (writeFailed_recordFailure hf _).report_before
  · rw [finishEntry_refused_job h hk ho]
    refine ⟨writeFailed_recordFailure hf _, fun tag k => ?_⟩
    rw [k] at ho
    exact ho.elim nofun nofun

/-- The end of a write answered DONE. -/
theorem finishEntry_writeDone (h : OnLine p e seq s)
    (hw : e.origin = .host ∨ e.origin = .advance ∨ e.origin = .pressure) (values : List Nat) :
    ∃ t, finishEntry e (.done values) s = t ∧ t.req = (leftBy e s).endWrite p e.kind (.done values)
      ∧ (∀ tag, e.origin = .host → e.tag = some tag →
        Reported (.requestDone tag e.seqNo p e.kind (.done values) e.attempts) t)
      ∧ Acted [.req, .ports, .tick] s t := by
  refine ⟨_, rfl, ?_⟩
  by_cases ho : e.origin = .host
  · rw [finishEntry_told h (answering_done values) (recordedFailure_done _ _) (.inl ho)]
    refine ⟨?_, fun tag _ ht => reported_handOutcome h ho ht _, ?_⟩
    · obtain ⟨r, hr⟩ := handOutcome_host (o := .done values) ho (ended e (.done values) s)
      rw [hr]
      exact ended_req h
    · obtain ⟨r, hr⟩ := handOutcome_host (o := .done values) ho (ended e (.done values) s)
      rw [hr]
      exact ((grown_ended _ _ s).trans (grown_report _ _)).acted
        (((agree_ended _ _ s).mono (by simp)).trans ((agree_report _ _).mono (by simp)))
  · rw [finishEntry_untold h (answering_done values) (recordedFailure_done _ _) (hw.resolve_left ho)]
    exact ⟨ended_req h, fun tag k => absurd k ho, acted_ended _ _ s⟩

/-! ## The step's action (R121, R124) -/

theorem writeEntry_step (src : Source) (l : Level) (c : RCause) (s : State) :
    (writeEntry src l c s).build.step = s.build.step := by
  have hp : (permitWritten src l c s).build.step = s.build.step := (calm_permitWritten src l c s).step
  rw [writeEntry_eq]
  split
  · rw [show (tellMuckLevel l (permitWritten src l c s)).build = _ from agree_tellMuckLevel l _ .build (by simp)]
    exact hp
  · exact hp

theorem handFault_step (f : FaultRec) (s : State) : (handFault f s).build.step = s.build.step := by
  unfold handFault
  split
  · rfl
  · exact writeEntry_step _ _ _ s

/-- The fault of a running step: its record, its report, its entry withdrawn (R124). -/
structure StepFaulted (st : Step) (c : StepCause) (s t : State) : Prop where
  step : t.build.step = some (st.faulted c)
  added : FaultAdded ⟨.stepFault, .build, none, some (phasePort st.state st.sector), none, c.record, s.ring.number,
    s.adv.x⟩ s t
  grown : Grown s t
  agree : AgreeBut (.out :: .link :: permitReach) s t

theorem agree_withdrawStep (st : Step) (s : State) : AgreeBut [.req] s (withdrawStep st s) := by
  unfold withdrawStep
  split
  · exact agree_setReq (by simp) _ s
  · exact agree_setReq (by simp) _ s
  · exact .refl _ s
  · exact .refl _ s

theorem stepFaulted_stepFault {st : Step} (hs : s.build.step = some st) (hr : st.state.running = true) (c : StepCause) :
    StepFaulted st c s (stepFault c s) := by
  have hg := (inside_stepFault c s).grown
  have ha : AgreeBut [.req, .build] s (setStep (some (st.faulted c)) (withdrawStep st s)) :=
    ((agree_withdrawStep st s).mono (by simp)).trans (agree_setBuild (by simp) _ _)
  unfold stepFault at hg ⊢
  rw [hs] at hg ⊢
  dsimp only at hg ⊢
  rw [if_pos hr] at hg ⊢
  have hstep : (setStep (some (st.faulted c)) (withdrawStep st s)).build.step = some (st.faulted c) := rfl
  generalize setStep (some (st.faulted c)) (withdrawStep st s) = u at ha hg hstep ⊢
  rw [show u.ring = s.ring from ha .ring (by simp), show u.adv = s.adv from ha .adv (by simp)] at hg ⊢
  obtain ⟨hadd, hagree⟩ := handFault_added
    ⟨.stepFault, .build, none, some (phasePort st.state st.sector), none, c.record, s.ring.number, s.adv.x⟩ u
  refine ⟨(handFault_step _ u).trans hstep, ?_, hg,
    (ha.mono (by simp [permitReach])).trans (hagree.trans ((agree_report _ _).mono (by simp)))⟩
  exact (hadd.before (u := s) (by rw [show u.out = s.out from ha .out (by simp)])).after (grown_report _ _) rfl rfl

theorem stepOutcome_ignored {n : Nat} (h : s.build.step = none ∨ ∃ st, s.build.step = some st
    ∧ (st.state.running = false ∨ st.action ≠ .requested n)) : stepOutcome (some n) o s = s := by
  unfold stepOutcome
  rcases h with h | ⟨st, h, hn⟩
  · rw [h]
  · rw [h]
    refine if_neg fun hc => ?_
    rw [Bool.and_eq_true] at hc
    refine hn.elim (fun k => by simp [hc.1] at k) fun k => k ?_
    cases ha : st.action with
    | requested m =>
      rw [ha] at hc
      rw [show m = n by simpa [StepAction.names] using hc.2]
    | none | pending | accepted =>
      rw [ha] at hc
      exact absurd hc.2 nofun

section
variable {st : Step} {n : Nat}

theorem stepOutcome_done (hs : s.build.step = some st) (hr : st.state.running = true) (ha : st.action = .requested n)
    (values : List Nat) : stepOutcome (some n) (.done values) s = setStep (some { st with action := .accepted }) s := by
  unfold stepOutcome
  rw [hs]
  exact if_pos (by rw [hr, ha]; simp [StepAction.names])

theorem stepOutcome_refused (hs : s.build.step = some st) (hr : st.state.running = true)
    (ha : st.action = .requested n) (reason : Byte) :
    stepOutcome (some n) (.refused reason) s = stepFault (.refused reason) s := by
  unfold stepOutcome
  rw [hs]
  exact if_pos (by rw [hr, ha]; simp [StepAction.names])

end

/-- The outcome of a step's action, at the step. -/
theorem finishEntry_build (h : OnLine p e seq s) (ho : Answering o) (hb : e.origin = .build) {a : Action}
    (hk : e.kind = .action a) : finishEntry e o s = stepOutcome (some e.seqNo) o (ended e o s) := by
  rw [finishEntry_told h ho (recordedFailure_action hk o) (.inr (.inr (.inl hb)))]
  unfold handOutcome
  rw [hb]

theorem answerData_nil {k : ReqKind} (hr : ∀ points, k ≠ .read points) (hi : ∀ period, k ≠ .action (.identify period)) :
    answerData k [] = some [] := by
  unfold answerData
  split
  · exact absurd rfl (hr _)
  · exact absurd rfl (hi _)
  · rfl

/-! ## A line's stroke (R79) -/

theorem finishEntry_stroke (h : OnLine p e seq s) (hg : e.origin = .grout) {i : LineNo} {volume : Nat}
    (hk : e.kind = .action (.stroke i volume)) (hph : (s.line i).phase = .requested e.seqNo) (values : List Nat) :
    finishEntry e (.done values) s = setLine i { s.line i with phase := .running } (ended e (.done values) s) := by
  rw [finishEntry_told h (answering_done values) (recordedFailure_done _ _) (.inr (.inl hg))]
  unfold handOutcome
  rw [hg, hk]
  exact strokeOutcome_done (s := ended e (.done values) s) hph values

end

end Sys2Proof.Machine

/-! SUPPORT. The outcome of a safe write or a RELINQUISH (R170, R171), and the outcomes of O48 at each owner but the Port
Manager. -/

namespace Sys2Proof.Machine

theorem put_eq_self {α : Type} {n : Nat} {v : Vector α n} {i : Fin n} {x : α} (h : v.get i = x) : put v i x = v := by
  subst h
  exact Vector.set_getElem_self _

/-- The last safe write outstanding ends while CLAMPING (R170). -/
abbrev passesToClamped (p : PortNo) (o : Output) : Prop :=
  o.mode = .clamping ∧ o.outstanding.get p = true ∧ ∀ q, q ≠ p → o.outstanding.get q = false

/-- What the port's leaving the outstanding set does. -/
structure SafeLeft (p : PortNo) (s t : State) : Prop where
  outstanding : t.out.outstanding = put s.out.outstanding p false
  passed : passesToClamped p s.out → t.out.mode = .clamped
    ∧ Reported (.outputMode .clamping .clamped s.out.cause s.out.estop 0) t
  stays : ¬ passesToClamped p s.out → t.out.mode = s.out.mode
  cause : t.out.cause = s.out.cause
  faults : t.out.faults = s.out.faults
  backlog : t.permit.table.get Source.faultBacklog.idx = s.permit.table.get Source.faultBacklog.idx
  req : t.req = s.req
  grown : Grown s t
  agree : AgreeBut (.out :: .link :: permitReach) s t

/-- The entry into CLAMPED: the mode, the OUTPUT entry and the report; the Request Unit stands (R34, R169). -/
structure ClampedEntered (s t : State) : Prop where
  out : t.out = { s.out with mode := .clamped }
  reported : Reported (.outputMode .clamping .clamped s.out.cause s.out.estop s.out.outstandingCount) t
  backlog : t.permit.table.get Source.faultBacklog.idx = s.permit.table.get Source.faultBacklog.idx
  req : t.req = s.req
  grown : Grown s t
  agree : AgreeBut (.out :: .link :: permitReach) s t

theorem clampedEntered_enterClamped (s : State) : ClampedEntered s (enterClamped s) := by
  have hw : AgreeBut [.out] s (s.setOut { s.out with mode := .clamped }) := agree_setOut (by simp) _ s
  have hm : (s.setOut { s.out with mode := .clamped }).out.mode ≠ .normal := nofun
  have hreq := writeEntry_req_of_not_normal .output .stop s.out.cause.restriction hm
  have hback := writeEntry_backlog (src := .output) .stop s.out.cause.restriction
    (s.setOut { s.out with mode := .clamped }) nofun
  have ha := agree_writeEntry .output .stop s.out.cause.restriction (s.setOut { s.out with mode := .clamped })
  have hg : Grown s (s.setOut { s.out with mode := .clamped }) := .of_link rfl
  exact ⟨enterClamped_out s, enterClamped_reported s, hback, hreq, hg.trans (inside_enterClamped s).grown,
    (hw.mono (by simp)).trans ((ha.mono (by simp +contextual)).trans ((agree_report _ _).mono (by simp)))⟩

theorem safeLeft_enterClamped {p : PortNo} {s : State} (h : passesToClamped p s.out) :
    SafeLeft p s (enterClamped (s.setOut { s.out with outstanding := put s.out.outstanding p false })) := by
  have hu : AgreeBut [.out] s (s.setOut { s.out with outstanding := put s.out.outstanding p false }) :=
    agree_setOut (by simp) _ s
  have ho : (s.setOut { s.out with outstanding := put s.out.outstanding p false }).out
      = { s.out with outstanding := put s.out.outstanding p false } := rfl
  generalize s.setOut { s.out with outstanding := put s.out.outstanding p false } = u at hu ho
  have hcount : u.out.outstandingCount = 0 := by
    rw [outstandingCount_eq_zero_iff]
    intro q
    rw [ho, get_put]
    split
    · rfl
    · rename_i hq
      exact h.2.2 q (Ne.symm hq)
  have k := clampedEntered_enterClamped u
  generalize enterClamped u = t at k
  obtain ⟨hout, hrep, hback, hreq, hg, ha⟩ := k
  rw [hcount, ho] at hrep
  rw [ho] at hout
  have hg' : Grown s u := .of_link (hu .link (by simp))
  exact ⟨congrArg Output.outstanding hout, fun _ => ⟨congrArg Output.mode hout, hrep⟩, fun k => absurd h k,
    by rw [hout], by rw [hout],
    hback.trans (by rw [show u.permit = s.permit from hu .permit (by simp)]), hreq.trans (hu .req (by simp)),
    hg'.trans hg, (hu.mono (by simp)).trans ha⟩

theorem safeLeft_leaveOutstanding (p : PortNo) (s : State) : SafeLeft p s (leaveOutstanding p s) := by
  unfold leaveOutstanding
  split
  · rename_i hp
    dsimp only
    split
    · rename_i hc
      obtain ⟨hm, h0⟩ := hc
      refine safeLeft_enterClamped ⟨hm, hp, fun q hq => ?_⟩
      have := (outstandingCount_eq_zero_iff _).mp h0 q
      rw [State.setOut_out, get_put_ne _ (Ne.symm hq)] at this
      exact this
    · rename_i hc
      have hn : ¬ passesToClamped p s.out := fun h => hc ⟨h.1, (outstandingCount_eq_zero_iff _).mpr fun q => by
        rw [State.setOut_out, get_put]
        split
        · rfl
        · rename_i hq
          exact h.2.2 q (Ne.symm hq)⟩
      exact ⟨rfl, fun h => absurd h hn, fun _ => rfl, rfl, rfl, rfl, rfl, .of_link rfl, agree_setOut (by simp) _ s⟩
  · rename_i hp
    have hn : ¬ passesToClamped p s.out := fun h => hp h.2.1
    exact ⟨(put_eq_self (by simpa using hp)).symm, fun h => absurd h hn, fun _ => rfl, rfl, rfl, rfl, rfl, .refl s,
      .refl _ s⟩

theorem handFault_out (f : FaultRec) (s : State) :
    (handFault f s).out = { s.out with faults := (handFault f s).out.faults } := by
  unfold handFault
  split
  · rfl
  · rw [writeEntry_out]

/-- The record of a failed safe write (R170). -/
def safeRecord (p : PortNo) (k : ReqKind) (c : FaultCause) (s : State) : FaultRec :=
  ⟨.safeFailed, .safe, none, some p, k.firstPoint, c, s.ring.number, s.adv.x⟩

theorem safeOutcome_done (p : PortNo) (k : ReqKind) (values : List Nat) (s : State) :
    safeOutcome p k (.done values) s = leaveOutstanding p s := rfl

theorem safeOutcome_refused (p : PortNo) (k : ReqKind) (reason : Byte) (s : State) :
    safeOutcome p k (.refused reason) s = leaveOutstanding p (handFault (safeRecord p k (.refused reason) s) s) := rfl

section
variable {p : PortNo} {e : Entry} {seq : Byte} {s : State} {o : ReqOutcome}

/-- The outcome of a SAFE request, at the Output Unit. -/
theorem finishEntry_safe (h : OnLine p e seq s) (ho : Answering o) (hs : e.origin = .safe) :
    finishEntry e o s = safeOutcome p e.kind o (ended e o s) := by
  rw [finishEntry_told h ho (recordedFailure_safe hs o) (.inr (.inr (.inr hs))), ← h.port]
  unfold handOutcome
  rw [hs]

/-- What a SAFE request leaves at its end, answered DONE or refused (R159, R170). -/
structure SafeEnded (p : PortNo) (e : Entry) (o : ReqOutcome) (s t : State) : Prop where
  outstanding : t.out.outstanding = put s.out.outstanding p false
  req : s.out.faults.length < 8 → t.req = (leftBy e s).endWrite p e.kind o
  passed : passesToClamped p s.out → t.out.mode = .clamped
    ∧ Reported (.outputMode .clamping .clamped s.out.cause s.out.estop 0) t
  stays : ¬ passesToClamped p s.out → t.out.mode = s.out.mode
  cause : t.out.cause = s.out.cause
  acted : Acted (.ports :: .out :: .tick :: permitReach) s t

theorem safeEnded_done (h : OnLine p e seq s) (hs : e.origin = .safe) (values : List Nat) :
    SafeEnded p e (.done values) s (finishEntry e (.done values) s)
      ∧ (finishEntry e (.done values) s).out.faults = s.out.faults := by
  rw [finishEntry_safe h (answering_done values) hs, safeOutcome_done]
  have k := safeLeft_leaveOutstanding p (ended e (.done values) s)
  have ha := agree_ended e (.done values) s
  have hout : (ended e (.done values) s).out = s.out := ha .out (by simp)
  have hr := ended_req h (o := .done values)
  have hg := grown_ended e (.done values) s
  generalize ended e (.done values) s = u at k ha hout hr hg
  obtain ⟨hos, hpass, hst, hcause, hfaults, -, hreq, hgr, hagree⟩ := k
  rw [hout] at hos hpass hst hcause hfaults
  exact ⟨⟨hos, fun _ => hreq.trans hr, hpass, hst, hcause,
    (hg.trans hgr).acted ((ha.mono (by simp [permitReach])).trans (hagree.mono (by simp +contextual)))⟩, hfaults⟩

theorem safeEnded_refused (h : OnLine p e seq s) (hs : e.origin = .safe) (reason : Byte) :
    SafeEnded p e (.refused reason) s (finishEntry e (.refused reason) s)
      ∧ FaultAdded (safeRecord p e.kind (.refused reason) s) s (finishEntry e (.refused reason) s) := by
  rw [finishEntry_safe h (answering_refused reason) hs, safeOutcome_refused]
  have ha := agree_ended e (.refused reason) s
  have hrec : safeRecord p e.kind (.refused reason) (ended e (.refused reason) s)
      = safeRecord p e.kind (.refused reason) s := rfl
  rw [hrec]
  have hout : (ended e (.refused reason) s).out = s.out := ha .out (by simp)
  have hr := ended_req h (o := .refused reason)
  have hg := grown_ended e (.refused reason) s
  generalize ended e (.refused reason) s = u at ha hout hr hg
  obtain ⟨hadd, hfa⟩ := handFault_added (safeRecord p e.kind (.refused reason) s) u
  have hfo := handFault_out (safeRecord p e.kind (.refused reason) s) u
  have hfr := handFault_req (s := u) (f := safeRecord p e.kind (.refused reason) s)
  have hfg := (inside_handFault (safeRecord p e.kind (.refused reason) s) u).grown
  generalize handFault (safeRecord p e.kind (.refused reason) s) u = v at hadd hfa hfo hfr hfg
  have k := safeLeft_leaveOutstanding p v
  generalize leaveOutstanding p v = t at k
  obtain ⟨hos, hpass, hst, hcause, hfaults, hback, hreq, hgr, hagree⟩ := k
  have hpc : passesToClamped p v.out ↔ passesToClamped p s.out := by
    rw [hfo, hout]
  rw [hpc] at hpass hst
  rw [hfo, hout] at hos hpass hst hcause
  refine ⟨⟨hos, fun h8 => ?_, hpass, hst, hcause, (hg.trans (hfg.trans hgr)).acted ?_⟩, ?_⟩
  · rw [hreq, hfr (by rw [hout]; exact h8), hr]
  · exact (ha.mono (by simp [permitReach])).trans
      ((hfa.mono (by simp +contextual)).trans (hagree.mono (by simp +contextual)))
  · exact (hadd.before (u := s) (by rw [hout])).after hgr hfaults (by rw [hback])

end

end Sys2Proof.Machine

/-! SUPPORT. The IDENTIFY of a port that ends in REFUSED or FAULTED (R137, R138, R141, R143, R144, R156): the port's record, and
what every telling of a lost port keeps. -/

namespace Sys2Proof.Machine

/-! ## What every telling of a lost port keeps (R143) -/

/-- The ports stand, no entry comes to a port out of service, no fault record is lost, and the place in the ring is the
same. -/
structure LossTold (p : PortNo) (s t : State) : Prop where
  grown : Grown s t
  agree : AgreeBut (.link :: portReach) s t
  ports : t.ports = s.ports
  number : t.ring.number = s.ring.number
  x : t.adv.x = s.adv.x
  sub : s.portUp p = false → (t.req.stayingOf p).Sublist (s.req.stayingOf p)
  recorded : ∀ f, Recorded f s → Recorded f t

section
variable {p : PortNo} {s t u : State}

theorem LossTold.refl (p : PortNo) (s : State) : LossTold p s s :=
  ⟨.refl s, .refl _ s, rfl, rfl, rfl, fun _ => List.Sublist.refl _, fun _ => id⟩

theorem LossTold.trans (h : LossTold p s t) (k : LossTold p t u) : LossTold p s u where
  grown := h.grown.trans k.grown
  agree := h.agree.trans k.agree
  ports := k.ports.trans h.ports
  number := k.number.trans h.number
  x := k.x.trans h.x
  sub hp := (k.sub (by rw [portUp_of_ports h.ports, hp])).trans (h.sub hp)
  recorded f := k.recorded f ∘ h.recorded f

/-- An inner operation that keeps the entries as they stay. -/
theorem LossTold.of_inside {n : Option Nat} (h : Inside s t) (k : Stays p n s t) : LossTold p s t where
  grown := h.grown
  agree := (agree_of_frame h.frame).mono (by simp +contextual [portReach])
  ports := k.ports
  number := frame_number h.frame
  x := by rw [frame_adv h.frame]
  sub := k.sub
  recorded _ := k.recorded

/-- A write to the Restriction Table, other than of the Output Unit or of a full Fault List. -/
theorem lossTold_writeEntry {src : Source} (l : Level) (c : RCause) (s : State) (ho : src ≠ .output)
    (hf : src ≠ .faultBacklog) : LossTold p s (writeEntry src l c s) :=
  .of_inside (n := none) (inside_writeEntry l c s ho) (stays_writeEntry c s fun e => absurd e hf)

/-- An update of the readings of a lost sensor, or of the screw's or the scale's marks. -/
theorem LossTold.of_same (hl : t.link = s.link) (ha : AgreeBut portReach s t) (hp : t.ports = s.ports)
    (hr : t.ring = s.ring) (hx : t.adv.x = s.adv.x) (hq : t.req = s.req) (ho : t.out = s.out)
    (hm : t.permit = s.permit) : LossTold p s t where
  grown := .of_link hl
  agree := ha.mono (by simp +contextual)
  ports := hp
  number := by rw [hr]
  x := hx
  sub _ := by rw [hq]
  recorded f h := by
    unfold Recorded at h ⊢
    rw [ho, hm]
    exact h

theorem lossTold_setAdv {v : Advance} (h : v.x = s.adv.x) : LossTold p s (s.setAdv v) :=
  .of_same rfl (agree_setAdv (by simp [portReach, permitReach]) v s) rfl rfl h rfl rfl rfl

theorem lossTold_setPres (v : Pressure) (s : State) : LossTold p s (s.setPres v) :=
  .of_same rfl (agree_setPres (by simp [portReach, permitReach]) v s) rfl rfl rfl rfl rfl rfl

theorem lossTold_setMuck (v : Muck) (s : State) : LossTold p s (s.setMuck v) :=
  .of_same rfl (agree_setMuck (by simp [portReach]) v s) rfl rfl rfl rfl rfl rfl

theorem lossTold_setTick (v : Nat) (s : State) : LossTold p s (s.setTick v) :=
  .of_same rfl (agree_setTick (by simp [portReach]) v s) rfl rfl rfl rfl rfl rfl

theorem lossTold_handFault (f : FaultRec) (s : State) : LossTold p s (handFault f s) :=
  .of_inside (n := none) (inside_handFault f s) (stays_handFault f s)

theorem lossTold_loseStroke (s : State) : LossTold p s (loseStroke s) := by
  unfold loseStroke
  refine LossTold.trans ?_ (lossTold_writeEntry _ _ _ nofun nofun)
  exact lossTold_setAdv rfl

theorem lossTold_loseChamber (s : State) : LossTold p s (loseChamber s) := by
  unfold loseChamber
  exact (lossTold_setPres _ s).trans (lossTold_writeEntry _ _ _ nofun nofun)

theorem lossTold_loseCutter (s : State) : LossTold p s (loseCutter s) := by
  have h : LossTold p s (stopCutter s) := .of_inside (n := none) (inside_stopCutter s) (stays_stopCutter s)
  unfold loseCutter
  dsimp only
  generalize stopCutter s = u at h
  refine h.trans (LossTold.trans ?_ (lossTold_writeEntry _ _ _ nofun nofun))
  exact lossTold_setAdv rfl

theorem lossTold_loseScale (s : State) : LossTold p s (loseScale s) := by
  unfold loseScale
  exact (lossTold_setMuck _ s).trans (lossTold_writeEntry _ _ _ nofun nofun)

theorem lossTold_losePump (q : PortNo) (s : State) : LossTold p s (losePump q s) :=
  .of_inside (n := none) (inside_losePump q s) (stays_losePump q s)

/-- The number of the entry that the step waits for. -/
def StepAction.number : StepAction → Option Nat
  | .requested n => some n
  | .none | .pending | .accepted => Option.none

theorem lossTold_loseStepPort (q : PortNo) (s : State) : LossTold p s (loseStepPort q s) := by
  have hin := inside_loseStepPort q s
  unfold loseStepPort at hin ⊢
  split
  · exact .refl p s
  · rename_i st hs
    rw [hs] at hin
    dsimp only at hin
    split
    · rename_i hc
      rw [if_pos hc] at hin
      exact .of_inside hin (stays_stepFault (n := st.action.number) hs fun m hm => by rw [hm]; rfl)
    · exact .refl p s

theorem lossTold_stationTelling (s : State) : LossTold p s (stationTelling s) :=
  lossTold_writeEntry (src := .station) _ _ s nofun nofun

theorem lossTold_recordPort (q : PortNo) (c : Option FaultCause) (s : State) : LossTold p s (recordPort q c s) := by
  unfold recordPort
  split
  · exact .refl p s
  · exact lossTold_handFault _ s

/-- The lost port's own requests complete: none of them is left (R156). -/
theorem lossTold_loseRequests (p : PortNo) (s : State) : LossTold p s (loseRequests p s) := by
  have hin := inside_loseRequests p s
  refine ⟨hin.grown, (agree_of_frame hin.frame).mono (by simp +contextual [portReach]), frame_ports hin.frame,
    frame_number hin.frame, by rw [frame_adv hin.frame], fun hp => ?_, fun f hf => ?_⟩
  · rw [show (loseRequests p s).req.stayingOf p = [] from lostRequests_staying hp]
    exact List.nil_sublist _
  · have h1 : Recorded f (completeAll (fun e => e.port == p) .portLost s) := by
      rw [completeAll_portLost]
      exact recorded_loseAll _ hf
    exact (stays_completeWaits p _ _).recorded h1

theorem lossTold_jobLoss {f : State → State} (h : f ∈ jobLoss p) (s : State) : LossTold p s (f s) := by
  unfold jobLoss at h
  split at h <;> simp only [List.mem_cons, List.not_mem_nil, or_false] at h <;> subst h
  · exact lossTold_loseStroke s
  · exact lossTold_loseChamber s
  · exact lossTold_loseCutter s
  · exact lossTold_loseScale s
  · exact lossTold_losePump _ s
  · exact lossTold_loseStepPort _ s
  · exact lossTold_loseStepPort _ s

end

/-! ## The tellings of an identification that fails -/

section
variable {p : PortNo} {new : PortState} {c : Option FaultCause} {f : State → State}

/-- Who is told when an IDENTIFYING port is lost. -/
theorem mem_lossTellings (hn : new = .refused ∨ new = .faulted) (h : f ∈ portTellings p .identifying new c) :
    f = recordPort p c ∨ f = loseRequests p ∨ f = stationTelling ∨ f ∈ jobLoss p := by
  unfold portTellings recordTelling unitTellings jobTellings at h
  simp only [List.mem_append, List.mem_ite_nil_right, List.mem_ite_nil_left, List.mem_cons, List.not_mem_nil,
    or_false] at h
  rcases h with (⟨-, rfl⟩ | ⟨-, rfl⟩ | ⟨⟨-, hr⟩, -⟩) | ((⟨-, rfl⟩ | ⟨-, h⟩) | ⟨⟨-, -, hr⟩, -⟩) | ⟨⟨-, hr⟩, -⟩
  · exact .inl rfl
  · exact .inr (.inl rfl)
  · rcases hn with e | e <;> rw [e] at hr <;> exact absurd hr nofun
  · exact .inr (.inr (.inl rfl))
  · exact .inr (.inr (.inr h))
  · rcases hn with e | e <;> rw [e] at hr <;> exact absurd hr nofun
  · exact absurd hr nofun

theorem lossTold_tellings (hn : new = .refused ∨ new = .faulted) (h : f ∈ portTellings p .identifying new c)
    (s : State) : LossTold p s (f s) := by
  rcases mem_lossTellings hn h with rfl | rfl | rfl | h
  · exact lossTold_recordPort _ _ s
  · exact lossTold_loseRequests p s
  · exact lossTold_stationTelling s
  · exact lossTold_jobLoss h s

theorem loseRequests_mem (hn : new = .refused ∨ new = .faulted) :
    loseRequests p ∈ portTellings p .identifying new c := by
  rw [mem_portTellings]
  refine .inr (.inl ?_)
  rcases hn with rfl | rfl <;> exact List.mem_append_left _ (List.mem_singleton_self _)

theorem recordPort_mem {o : PortState} (cause : FaultCause) :
    recordPort p (some cause) ∈ portTellings p o new (some cause) := by
  rw [mem_portTellings]
  exact .inl (List.mem_singleton_self _)

end

/-! ## The port's change (R133, R146) -/

/-- The port in its new state, its report queued, before the tellings. -/
def portEntered (p : PortNo) (new : PortState) (cause : PortCause) (outcome : Option ReqOutcome) (s : State) : State :=
  let u := portReport p (s.ports.get p).state outcome (modPort p (Port.enter new cause) s)
  if Config.portClass p = .beltScale then markLate (s.ports.get p).state new u else u

theorem changePort_entered (p : PortNo) (new : PortState) (cause : PortCause) (outcome : Option ReqOutcome) (s : State) :
    changePort p new cause outcome s =
      tellAll (portTellings p (s.ports.get p).state new (portRecord (s.ports.get p).state cause outcome))
        (portEntered p new cause outcome s) := rfl

section
variable {p : PortNo} {new : PortState} {cause : PortCause} {outcome : Option ReqOutcome} {s : State}

theorem portEntered_ports (p : PortNo) (new : PortState) (cause : PortCause) (outcome : Option ReqOutcome) (s : State) :
    (portEntered p new cause outcome s).ports = put s.ports p ((s.ports.get p).enter new cause) := by
  unfold portEntered
  dsimp only
  split <;> rfl

theorem agree_portEntered (p : PortNo) (new : PortState) (cause : PortCause) (outcome : Option ReqOutcome) (s : State) :
    AgreeBut [.link, .muck, .ports] s (portEntered p new cause outcome s) := by
  have h : AgreeBut [.link, .muck, .ports] s
      (portReport p (s.ports.get p).state outcome (modPort p (Port.enter new cause) s)) :=
    (agree_setPorts (by simp) _ s).trans ((agree_report _ _).mono (by simp))
  unfold portEntered
  dsimp only
  split
  · exact h.trans (agree_setMuck (by simp) _ _)
  · exact h

theorem grown_portEntered (p : PortNo) (new : PortState) (cause : PortCause) (outcome : Option ReqOutcome) (s : State) :
    Grown s (portEntered p new cause outcome s) := by
  have h : Grown s (portReport p (s.ports.get p).state outcome (modPort p (Port.enter new cause) s)) :=
    Grown.trans (t := modPort p (Port.enter new cause) s) (.of_link rfl) (grown_report _ _)
  unfold portEntered
  dsimp only
  split
  · exact h.trans (.of_link rfl)
  · exact h

theorem reported_portEntered (p : PortNo) (new : PortState) (cause : PortCause) (outcome : Option ReqOutcome)
    (s : State) : Reported (.port p (s.ports.get p).state new cause new.powered
      (if (s.ports.get p).state = .identifying ∧ new = .ready then ((s.ports.get p).enter new cause).identity else none)
      outcome) (portEntered p new cause outcome s) := by
  have h := reported_report (.port p (s.ports.get p).state new cause new.powered
    (if (s.ports.get p).state = .identifying ∧ new = .ready then ((s.ports.get p).enter new cause).identity else none)
    outcome) (modPort p (Port.enter new cause) s)
  have he : portReport p (s.ports.get p).state outcome (modPort p (Port.enter new cause) s)
      = report (.port p (s.ports.get p).state new cause new.powered
        (if (s.ports.get p).state = .identifying ∧ new = .ready then ((s.ports.get p).enter new cause).identity
          else none) outcome) (modPort p (Port.enter new cause) s) := by
    unfold portReport
    dsimp only
    rw [show (modPort p (Port.enter new cause) s).ports.get p = (s.ports.get p).enter new cause from get_put_self _ _ _]
    rfl
  unfold portEntered
  dsimp only
  rw [he]
  by_cases hb : Config.portClass p = .beltScale
  · rw [if_pos hb]
    exact h.grown (.of_link rfl)
  · rw [if_neg hb]
    exact h

end

/-- An IDENTIFYING port that enters REFUSED or FAULTED: its entry, its report, its requests gone, the record when there is
one (R133, R143, R144, R146, R156). -/
structure IdentifyLost (p : PortNo) (new : PortState) (cause : PortCause) (outcome : Option ReqOutcome) (s t : State) :
    Prop where
  ports : t.ports = put s.ports p ((s.ports.get p).enter new cause)
  reported : Reported (.port p .identifying new cause false none outcome) t
  table : ∀ d ∈ t.req.table, d.port ≠ p
  recorded : ∀ c, portRecord .identifying cause outcome = some c →
    Recorded ⟨.portLost, .port, none, some p, none, c, s.ring.number, s.adv.x⟩ t
  grown : Grown s t
  agree : AgreeBut (.link :: portReach) s t

theorem identifyLost_changePort {p : PortNo} {new : PortState} (cause : PortCause) (outcome : Option ReqOutcome)
    {s : State} (hn : new = .refused ∨ new = .faulted) (hs : (s.ports.get p).state = .identifying) :
    IdentifyLost p new cause outcome s (changePort p new cause outcome s) := by
  have hports := portEntered_ports p new cause outcome s
  have hagree := agree_portEntered p new cause outcome s
  have hgrown := grown_portEntered p new cause outcome s
  have hrep := reported_portEntered p new cause outcome s
  rw [changePort_entered, hs]
  rw [hs, if_neg (fun e => by rcases hn with k | k <;> rw [k] at e <;> exact absurd e.2 nofun),
    show new.powered = false by rcases hn with k | k <;> rw [k] <;> rfl] at hrep
  generalize portEntered p new cause outcome s = u at hports hagree hgrown hrep
  have htold := fun f hf => lossTold_tellings (p := p) (c := portRecord .identifying cause outcome) (f := f) hn hf
  have hk : LossTold p u (tellAll (portTellings p .identifying new (portRecord .identifying cause outcome)) u) :=
    tellAll_keeps (LossTold p u) (fun f hf t ht => ht.trans (htold f hf t)) (lossTold_setTick _ u)
  have hdown : u.portUp p = false := by
    unfold State.portUp
    rw [hports, get_put_self]
    rcases hn with rfl | rfl <;> rfl
  have hgone : (tellAll (portTellings p .identifying new (portRecord .identifying cause outcome)) u).req.stayingOf p
      = [] := by
    refine tellAll_brings (fun t => t.portUp p = false) (fun t => t.req.stayingOf p = [])
      (fun f hf t ht => by rw [portUp_of_ports (htold f hf t).ports, ht]) (fun f hf t ht hq => ?_)
      ⟨_, loseRequests_mem hn, fun t ht => lostRequests_staying ht⟩ hdown
    have := (htold f hf t).sub ht
    rw [hq] at this
    exact List.sublist_nil.mp this
  refine ⟨hk.ports.trans hports, hrep.grown hk.grown, fun d hd hdp => ?_, fun c hc => ?_, hgrown.trans hk.grown,
    (hagree.mono (by simp [portReach])).trans hk.agree⟩
  · have := mem_stayingOf hd hdp
    rw [hgone] at this
    exact absurd this List.not_mem_nil
  · rw [hc] at htold ⊢
    have hnum : u.ring.number = s.ring.number := by rw [show u.ring = s.ring from hagree .ring (by simp)]
    have hx : u.adv.x = s.adv.x := by rw [show u.adv = s.adv from hagree .adv (by simp)]
    refine tellAll_brings (fun t => t.ring.number = s.ring.number ∧ t.adv.x = s.adv.x)
      (fun t => Recorded ⟨.portLost, .port, none, some p, none, c, s.ring.number, s.adv.x⟩ t)
      (fun f hf t ht => ⟨(htold f hf t).number.trans ht.1, (htold f hf t).x.trans ht.2⟩)
      (fun f hf t _ hq => (htold f hf t).recorded _ hq) ⟨_, recordPort_mem c, fun t ht => ?_⟩ ⟨hnum, hx⟩
    rw [← ht.1, ← ht.2]
    exact recorded_handFault _ t

/-! ## The outcome of the IDENTIFY (R137, R138) -/

section
variable {p : PortNo} {e : Entry} {seq : Byte} {s : State}

/-- The outcome of a port's IDENTIFY is the Port Manager's alone. -/
theorem finishEntry_identify (h : OnLine p e seq s) (ho : e.origin = .port) {period : Nat}
    (hk : e.kind = .action (.identify period)) (hs : (s.ports.get p).state = .identifying) (o : ReqOutcome) :
    finishEntry e o s = identifyOutcome p o (ended e o s) := by
  have hst : ((ended e o s).ports.get e.port).state = .identifying := by
    rw [ended_ports h, h.port, get_put_self]
    exact hs
  have ha : awaitsIdentity e (ended e o s) = true := by
    unfold awaitsIdentity
    rw [(isIdentify_iff _ _).mpr ⟨ho, period, hk⟩, hst]
    rfl
  have hl : outcomeTellings e o (ended e o s) = [portOutcome e o] := by
    unfold outcomeTellings
    rw [recordedFailure_action hk, ho, ha]
    rfl
  rw [finishEntry_eq h, hl]
  change portOutcome e o (ended e o s) = _
  unfold portOutcome
  rw [if_pos ha, h.port]

theorem checkIdentity_class {c : PortClass} {cls rev points channels : Nat} (h : classOf cls ≠ some c) :
    checkIdentity c [cls, rev, points, channels] = .error .classMismatch := if_pos h

/-- The points and the channels that an identity may declare (R138). -/
def identityFits (c : PortClass) (points channels : Nat) : Prop :=
  Config.minPoints c ≤ points ∧ points ≤ 16 ∧ ∀ n, Config.channels c = some n → channels = n

theorem channels_any (c : PortClass) (channels : Nat) :
    (Config.channels c).any (· ≠ channels) = true ↔ ∃ n, Config.channels c = some n ∧ channels ≠ n := by
  cases Config.channels c with
  | none => simp
  | some n => simp [ne_comm]

theorem checkIdentity_misfit {c : PortClass} {cls rev points channels : Nat} (h : classOf cls = some c)
    (hf : ¬ identityFits c points channels) :
    checkIdentity c [cls, rev, points, channels] = .error .identityMismatch := by
  unfold checkIdentity
  dsimp only
  rw [if_neg (not_not.mpr h)]
  split
  · rfl
  · rename_i hp
    rw [not_or] at hp
    refine if_pos ((channels_any c channels).mpr ?_)
    by_contra hc
    push Not at hc
    exact hf ⟨by omega, by omega, hc⟩

theorem checkIdentity_ok {c : PortClass} {cls rev points channels : Nat} (h : classOf cls = some c)
    (hf : identityFits c points channels) :
    checkIdentity c [cls, rev, points, channels] = .ok ⟨c, rev, points, channels⟩ := by
  obtain ⟨h1, h2, h3⟩ := hf
  unfold checkIdentity
  dsimp only
  rw [if_neg (not_not.mpr h), if_neg (by omega), if_neg]
  rw [channels_any]
  rintro ⟨n, hn, hne⟩
  exact hne (h3 n hn)

theorem takeIdentity_error {values : List Nat} {cause : PortCause}
    (h : checkIdentity (Config.portClass p) values = .error cause) :
    takeIdentity p values s = changePort p .refused cause none s := by
  unfold takeIdentity
  rw [h]
  rfl

theorem takeIdentity_ok {values : List Nat} {idn : Identity}
    (h : checkIdentity (Config.portClass p) values = .ok idn) : takeIdentity p values s =
      changePort p .ready .identified none
        (modPort p (fun pt => { pt with identity := some idn, stale := some (staleTime p) }) s) := by
  unfold takeIdentity
  rw [h]
  rfl

end

end Sys2Proof.Machine

/-! SUPPORT. The IDENTIFY of a port that ends in READY (R137, R138, R161, R170): the job-owned points brought to the new station,
what the output mode asks of it, and the tellings in any order. -/

namespace Sys2Proof.Machine

/-! ## The refresh of the job-owned points (R161) -/

theorem writeStands_iff (r : Requests) (p : PortNo) (i : Nat) :
    r.writeStands p i = true ↔ ∃ e ∈ r.table, e.port = p ∧ e.kind.writes i = true := by
  unfold Requests.writeStands
  simp only [List.any_eq_true, Bool.and_eq_true, beq_iff_eq]

theorem writeStands_of_table {r r' : Requests} (h : r'.table = r.table) (p : PortNo) (i : Nat) :
    r'.writeStands p i = r.writeStands p i := by
  unfold Requests.writeStands
  rw [h]

theorem refreshPoint_table (r : Requests) (normal : Bool) (p : PortNo) (i : Fin 16) :
    (r.refreshPoint normal p i).table = r.table := by
  unfold Requests.refreshPoint
  split
  · rfl
  · split <;> rfl

theorem refreshPoint_waits (r : Requests) (normal : Bool) (p : PortNo) (i : Fin 16) :
    (r.refreshPoint normal p i).waits = r.waits := by
  unfold Requests.refreshPoint
  split
  · rfl
  · split <;> rfl

/-- A point of a newly identified port that is a job's and that no write in the table names (R161). -/
def Point.refreshed (normal : Bool) (pt : Point) : Point :=
  if normal then { pt with state := .dirty } else { pt with commanded := none, state := .clean }

theorem refreshPoint_eq (r : Requests) (normal : Bool) (p : PortNo) (i : Fin 16) : r.refreshPoint normal p i =
    if Config.pointOwner p i.val ≠ .free ∧ r.writeStands p i.val = false then
      r.setPoint p i ((r.point p i).refreshed normal)
    else r := by
  unfold Requests.refreshPoint
  by_cases hc : Config.pointOwner p i.val ≠ .free ∧ r.writeStands p i.val = false
  · rw [if_neg (by simpa using hc), if_pos hc]
    cases normal <;> rfl
  · rw [if_neg hc]
    refine if_pos ?_
    rw [not_and_or] at hc
    simpa using hc

theorem refreshPoint_point (r : Requests) (normal : Bool) (p : PortNo) (i j : Fin 16) :
    (r.refreshPoint normal p i).point p j =
      if i = j ∧ Config.pointOwner p j.val ≠ .free ∧ r.writeStands p j.val = false then
        (r.point p j).refreshed normal
      else r.point p j := by
  rw [refreshPoint_eq]
  by_cases hij : i = j
  · subst hij
    split
    · rename_i hc
      rw [point_setPoint, if_pos ⟨rfl, rfl⟩, if_pos ⟨rfl, hc⟩]
    · rename_i hc
      rw [if_neg fun e => hc e.2]
  · simp only [hij, false_and, if_false]
    split
    · rw [point_setPoint, if_neg fun e => hij e.2]
    · rfl

section
variable {p : PortNo} {normal : Bool}

theorem foldl_refreshPoint_table (l : List (Fin 16)) (r : Requests) :
    (l.foldl (fun r i => r.refreshPoint normal p i) r).table = r.table := by
  induction l generalizing r with
  | nil => rfl
  | cons i l ih => rw [List.foldl_cons, ih, refreshPoint_table]

theorem foldl_refreshPoint_waits (l : List (Fin 16)) (r : Requests) :
    (l.foldl (fun r i => r.refreshPoint normal p i) r).waits = r.waits := by
  induction l generalizing r with
  | nil => rfl
  | cons i l ih => rw [List.foldl_cons, ih, refreshPoint_waits]

theorem foldl_refreshPoint_point (j : Fin 16) (l : List (Fin 16)) (hn : l.Nodup) (r : Requests) :
    (l.foldl (fun r i => r.refreshPoint normal p i) r).point p j =
      if j ∈ l ∧ Config.pointOwner p j.val ≠ .free ∧ r.writeStands p j.val = false then
        (r.point p j).refreshed normal
      else r.point p j := by
  induction l generalizing r with
  | nil => simp
  | cons i l ih =>
    obtain ⟨hi, hl⟩ := List.nodup_cons.mp hn
    rw [List.foldl_cons, ih hl, writeStands_of_table (refreshPoint_table r normal p i), refreshPoint_point]
    by_cases hij : i = j
    · subst hij
      rw [if_neg fun e => hi e.1]
      simp
    · simp [hij, Ne.symm hij]

end

theorem refreshIdentity_table (p : PortNo) (s : State) : (refreshIdentity p s).req.table = s.req.table :=
  foldl_refreshPoint_table _ _

theorem refreshIdentity_waits (p : PortNo) (s : State) : (refreshIdentity p s).req.waits = s.req.waits :=
  foldl_refreshPoint_waits _ _

theorem refreshIdentity_point (p : PortNo) (j : Fin 16) (s : State) : (refreshIdentity p s).req.point p j =
    if Config.pointOwner p j.val ≠ .free ∧ s.req.writeStands p j.val = false then
      (s.req.point p j).refreshed (s.out.mode = .normal)
    else s.req.point p j := by
  refine (foldl_refreshPoint_point j _ (List.nodup_finRange 16) s.req).trans ?_
  simp only [List.mem_finRange, true_and]

/-! ## A point brought to the new station in NORMAL -/

/-- The point waits for its write, or a write of it stands (R161). -/
def Refreshed (p : PortNo) (i : Fin 16) (r : Requests) : Prop :=
  (r.point p i).state = .dirty ∨ r.writeStands p i.val = true

theorem writes_single (i j v : Nat) : (ReqKind.write [(j, v)]).writes i = true ↔ j = i := by
  simp [ReqKind.writes]

theorem writeStands_append {r r' : Requests} {e : Entry} (h : r'.table = r.table ++ [e]) (p : PortNo) (i : Nat) :
    r'.writeStands p i = (r.writeStands p i || (e.port == p && e.kind.writes i)) := by
  unfold Requests.writeStands
  rw [h, List.any_append, List.any_cons, List.any_nil, Bool.or_false]

/-- Every job's write keeps that: of the point itself it leaves it DIRTY or has a write of it in the table. -/
theorem keptByJobs_refreshed (p : PortNo) (i : Fin 16) : KeptByJobs (Refreshed p i) := by
  intro r o org q j v _ h
  unfold Requests.jobWrite
  dsimp only
  split
  · rename_i table ht
    obtain ⟨b, x, a, h1, h2, -, h4⟩ := replaceLast_some _ _ _ ht
    obtain ⟨-, hxp, -, w, hxk⟩ := (foldable_iff _ _ _ _).mp h2
    by_cases hqj : q = p ∧ j = i
    · obtain ⟨rfl, rfl⟩ := hqj
      refine .inr ((writeStands_iff _ _ _).mpr ⟨{ x with kind := .write [(j.val, v)] }, ?_, hxp, ?_⟩)
      · rw [setPoint_table, h4]
        exact List.mem_append_right _ List.mem_cons_self
      · exact (writes_single _ _ _).mpr rfl
    · refine h.imp (fun hd => ?_) fun hw => ?_
      · rw [point_setPoint, if_neg hqj]
        exact hd
      · obtain ⟨e, he, hep, hek⟩ := (writeStands_iff _ _ _).mp hw
        refine (writeStands_iff _ _ _).mpr ⟨e, ?_, hep, hek⟩
        have hex : e ≠ x := by
          rintro rfl
          rw [hxk, writes_single] at hek
          exact hqj ⟨hxp.symm.trans hep, Fin.ext hek⟩
        rw [setPoint_table, h4]
        rw [h1] at he
        rw [List.mem_append, List.mem_cons] at he ⊢
        exact he.imp_right fun hm => .inr (hm.resolve_left hex)
  · split
    · by_cases hqj : q = p ∧ j = i
      · obtain ⟨rfl, rfl⟩ := hqj
        refine .inr ((writeStands_iff _ _ _).mpr
          ⟨⟨org, none, q, .write [(j.val, v)], .queued, 1, r.nextSeq⟩, ?_, rfl, ?_⟩)
        · exact List.mem_append_right _ (List.mem_singleton_self _)
        · exact (writes_single _ _ _).mpr rfl
      · refine h.imp (fun hd => ?_) fun hw => ?_
        · rw [point_setPoint, if_neg hqj]
          exact hd
        · rw [writeStands_append (r := r) (by rfl), hw]
          rfl
    · by_cases hqj : q = p ∧ j = i
      · obtain ⟨rfl, rfl⟩ := hqj
        refine .inl ?_
        rw [point_setPoint, if_pos ⟨rfl, rfl⟩]
        rfl
      · refine h.imp (fun hd => ?_) id
        rw [point_setPoint, if_neg hqj]
        exact hd

/-! ## A request of the Output Unit placed on a port in service (R150) -/

theorem point_modWritten_of_not_writes (r : Requests) (p : PortNo) (k : ReqKind) (f : Nat → Nat → Point → Point)
    {i : Fin 16} (h : k.writes i.val = false) : (r.modWritten p k f).point p i = r.point p i := by
  cases k with
  | write pairs =>
    refine point_modWritten_ne _ _ _ _ _ _ (.inr fun hm => ?_)
    obtain ⟨x, hx, hi⟩ := List.mem_map.mp hm
    have : (ReqKind.write pairs).writes i.val = true := List.any_eq_true.mpr ⟨x, hx, by simp [hi]⟩
    rw [h] at this
    exact absurd this nofun
  | read | action => rfl

/-- An item of origin SAFE placed: it stands in the table or waits, and points that it does not write are as they were. -/
structure SafeItemPlaced (w : WaitItem) (s t : State) : Prop where
  table : ∀ e ∈ s.req.table, e ∈ t.req.table
  waits : ∀ x ∈ s.req.waits, x ∈ t.req.waits
  asked : (∃ e ∈ t.req.table, e.origin = .safe ∧ e.port = w.port ∧ e.kind = w.kind) ∨ w ∈ t.req.waits
  point : ∀ i : Fin 16, w.kind.writes i.val = false → t.req.point w.port i = s.req.point w.port i
  stands : ∀ i, w.kind.writes i = false → t.req.writeStands w.port i = s.req.writeStands w.port i
  agree : AgreeBut [.req] s t

theorem safeItemPlaced_placeItem {w : WaitItem} {s : State} (ho : w.origin = .safe) (hu : s.portUp w.port = true) :
    SafeItemPlaced w s (placeItem w s).1 := by
  have htakes : (s.ports.get w.port).state.takes w.origin w.kind = true := by
    rw [ho, takes_action _ (o := .safe) nofun]
    exact hu
  unfold placeItem Requests.placeItem
  rw [htakes, Bool.not_true, if_neg Bool.false_ne_true]
  split
  · have ht := enter_table s.req w.origin none w.port w.kind
    refine ⟨fun e he => ?_, fun x hx => ?_,
      .inl ⟨⟨w.origin, none, w.port, w.kind, .queued, 1, s.req.nextSeq⟩, ?_, ho, rfl, rfl⟩, fun i hi => ?_,
      fun i hi => ?_, agree_setReq (by simp) _ s⟩
    · rw [State.setReq_req, ht]
      exact List.mem_append_left _ he
    · rw [State.setReq_req, show (s.req.enter w.origin none w.port w.kind).waits = s.req.waits from modWritten_waits ..]
      exact hx
    · rw [State.setReq_req, ht]
      exact List.mem_append_right _ (List.mem_singleton_self _)
    · exact point_modWritten_of_not_writes _ _ _ _ hi
    · rw [State.setReq_req, writeStands_append ht, hi, Bool.and_false, Bool.or_false]
  · refine ⟨fun e he => ?_, fun x hx => ?_, .inr ?_, fun i hi => ?_, fun i hi => ?_, agree_setReq (by simp) _ s⟩
    · rw [State.setReq_req, modWritten_table]
      exact he
    · rw [State.setReq_req, modWritten_waits]
      exact List.mem_append_left _ hx
    · rw [State.setReq_req, modWritten_waits]
      exact List.mem_append_right _ (List.mem_singleton_self _)
    · exact point_modWritten_of_not_writes _ _ _ _ hi
    · rw [State.setReq_req]
      exact writeStands_of_table (modWritten_table _ _ _ _) _ _

end Sys2Proof.Machine

/-! SUPPORT. The tellings of a port that enters READY from IDENTIFYING, and the outcomes at their owners (R155, R161, R170). -/

namespace Sys2Proof.Machine

/-! ## What the output mode asks of a new station (R170) -/

/-- The safe write asked of the port, with its points left where the pairs do not name them. -/
def newSafeItem (p : PortNo) (s : State) : WaitItem := ⟨.safe, p, .write (safePairs s p)⟩

/-- The RELINQUISH asked of the port. -/
def relinquishItem (p : PortNo) : WaitItem := ⟨.safe, p, .action .relinquish⟩

theorem askSafe_eq (joins : Bool) (p : PortNo) (s : State) : askSafe joins p s =
    if safePairs s p = [] then s
    else if joins = true then markOutstanding p (placeItem (newSafeItem p s) s).1
    else (placeItem (newSafeItem p s) s).1 := by
  unfold askSafe newSafeItem
  cases safePairs s p with
  | nil => rfl
  | cons pair pairs => cases joins <;> rfl

/-- The item was asked for: it stands in the table or waits. -/
def ItemAsked (w : WaitItem) (r : Requests) : Prop :=
  (∃ e ∈ r.table, e.origin = .safe ∧ e.port = w.port ∧ e.kind = w.kind) ∨ w ∈ r.waits

/-- What each telling of a port that enters READY keeps. -/
structure NewTold (p : PortNo) (s t : State) : Prop where
  grown : Grown s t
  agree : AgreeBut (.link :: portReach) s t
  ports : t.ports = s.ports
  out : t.out = { s.out with outstanding := t.out.outstanding }
  outstanding : s.out.outstanding.get p = true → t.out.outstanding.get p = true
  asked : s.out.mode ≠ .normal → ∀ w, ItemAsked w s.req → ItemAsked w t.req

section
variable {p : PortNo} {s t u : State}

theorem NewTold.mode (h : NewTold p s t) : t.out.mode = s.out.mode := by rw [h.out]

theorem NewTold.pairs (h : NewTold p s t) : safePairs t p = safePairs s p := by
  unfold safePairs
  rw [h.ports, show t.out.safe = s.out.safe by rw [h.out]]

theorem NewTold.trans (h : NewTold p s t) (k : NewTold p t u) : NewTold p s u where
  grown := h.grown.trans k.grown
  agree := h.agree.trans k.agree
  ports := k.ports.trans h.ports
  out := by rw [k.out, h.out]
  outstanding := k.outstanding ∘ h.outstanding
  asked hm w hw := k.asked (by rw [h.mode]; exact hm) w (h.asked hm w hw)

/-- An operation that leaves the Output Unit, and outside NORMAL the requests. -/
theorem NewTold.of_agree (hg : Grown s t) (ha : AgreeBut (.link :: permitReach) s t)
    (hr : s.out.mode ≠ .normal → t.req = s.req) : NewTold p s t where
  grown := hg
  agree := ha.mono (by simp +contextual [portReach])
  ports := ha .ports (by simp [permitReach])
  out := by rw [show t.out = s.out from ha .out (by simp [permitReach])]
  outstanding h := by rwa [show t.out = s.out from ha .out (by simp [permitReach])]
  asked hm w hw := by rwa [hr hm]

theorem newTold_setTick (v : Nat) (s : State) : NewTold p s (s.setTick v) :=
  ⟨.of_link rfl, agree_setTick (by simp [portReach]) v s, rfl, rfl, id, fun _ _ => id⟩

theorem newTold_stationTelling (s : State) : NewTold p s (stationTelling s) :=
  .of_agree (inside_writeEntry (src := .station) _ _ s nofun).grown (agree_writeEntry _ _ _ s)
    fun h => writeEntry_req_of_not_normal _ _ _ h

theorem writeScrew_of_not_normal (force : Bool) (h : s.out.mode ≠ .normal) : (writeScrew force s).req = s.req :=
  (keptIn_of_not_normal (fun r => r = s.req) h).writeScrew force rfl

theorem newTold_writeScrew (force : Bool) (s : State) : NewTold p s (writeScrew force s) :=
  .of_agree (.of_link rfl) (agree_setReq (by simp [permitReach]) _ s) (writeScrew_of_not_normal force)

theorem newTold_refreshIdentity (p : PortNo) (s : State) : NewTold p s (refreshIdentity p s) where
  grown := .of_link rfl
  agree := agree_setReq (by simp [portReach, permitReach]) _ s
  ports := rfl
  out := rfl
  outstanding := id
  asked _ w h := by
    unfold ItemAsked at h ⊢
    rw [refreshIdentity_table, refreshIdentity_waits]
    exact h

/-- An item of the Output Unit placed. -/
theorem SafeItemPlaced.newTold {w : WaitItem} (h : SafeItemPlaced w s t) : NewTold p s t where
  grown := .of_link (h.agree .link (by simp))
  agree := h.agree.mono (by simp [portReach, permitReach])
  ports := h.agree .ports (by simp)
  out := by rw [show t.out = s.out from h.agree .out (by simp)]
  outstanding k := by rwa [show t.out = s.out from h.agree .out (by simp)]
  asked _ _ k := k.imp (fun ⟨e, he, hk⟩ => ⟨e, h.table e he, hk⟩) (h.waits _)

theorem newTold_markOutstanding (s : State) : NewTold p s (markOutstanding p s) where
  grown := .of_link rfl
  agree := agree_setOut (by simp [portReach]) _ s
  ports := rfl
  out := rfl
  outstanding _ := get_put_self _ _ _
  asked _ _ := id

theorem newTold_askSafe (joins : Bool) (hu : s.portUp p = true) : NewTold p s (askSafe joins p s) := by
  have k := safeItemPlaced_placeItem (w := newSafeItem p s) rfl hu
  rw [askSafe_eq]
  split
  · exact ⟨.refl s, .refl _ s, rfl, rfl, id, fun _ _ => id⟩
  · split
    · exact k.newTold.trans (newTold_markOutstanding _)
    · exact k.newTold

theorem newTold_safeNewPort (hu : s.portUp p = true) : NewTold p s (safeNewPort p s) := by
  unfold safeNewPort
  split
  · exact ⟨.refl s, .refl _ s, rfl, rfl, id, fun _ _ => id⟩
  · exact newTold_askSafe true hu
  · exact newTold_askSafe false hu
  · unfold askRelinquish
    rw [if_pos hu]
    exact (safeItemPlaced_placeItem (w := relinquishItem p) rfl hu).newTold

/-- What the telling asks, by the mode (R170). -/
theorem asked_safeNewPort (hu : s.portUp p = true) :
    ((s.out.mode = .clamping ∨ s.out.mode = .clamped) → safePairs s p ≠ [] →
        ItemAsked (newSafeItem p s) (safeNewPort p s).req)
      ∧ (s.out.mode = .clamping → safePairs s p ≠ [] → (safeNewPort p s).out.outstanding.get p = true)
      ∧ (s.out.mode = .released → ItemAsked (relinquishItem p) (safeNewPort p s).req) := by
  have k := safeItemPlaced_placeItem (w := newSafeItem p s) rfl hu
  refine ⟨fun hm hne => ?_, fun hm hne => ?_, fun hm => ?_⟩
  · unfold safeNewPort
    rcases hm with hm | hm
    · rw [hm]
      dsimp only
      rw [askSafe_eq, if_neg hne, if_pos rfl]
      exact k.asked
    · rw [hm]
      dsimp only
      rw [askSafe_eq, if_neg hne, if_neg Bool.false_ne_true]
      exact k.asked
  · unfold safeNewPort
    rw [hm]
    dsimp only
    rw [askSafe_eq, if_neg hne, if_pos rfl]
    exact get_put_self _ _ _
  · unfold safeNewPort
    rw [hm]
    dsimp only
    unfold askRelinquish
    rw [if_pos hu]
    exact (safeItemPlaced_placeItem (w := relinquishItem p) rfl hu).asked

/-- The point stands, with no write of it in the table. -/
def PointFree (p : PortNo) (i : Fin 16) (s t : State) : Prop :=
  t.req.point p i = s.req.point p i ∧ t.req.writeStands p i.val = s.req.writeStands p i.val

/-- A point that the safe record does not name stands while a safe write or a RELINQUISH is asked. -/
theorem pointFree_safeNewPort {i : Fin 16} (hu : s.portUp p = true)
    (hi : s.out.mode = .released ∨ ∀ v, (i.val, v) ∉ s.out.safe.get p) : PointFree p i s (safeNewPort p s) := by
  have hself : PointFree p i s s := ⟨rfl, rfl⟩
  have hask : ∀ joins, (∀ v, (i.val, v) ∉ s.out.safe.get p) → PointFree p i s (askSafe joins p s) := fun joins hn => by
    have k := safeItemPlaced_placeItem (w := newSafeItem p s) rfl hu
    have hw : (newSafeItem p s).kind.writes i.val = false := by
      rw [← Bool.not_eq_true]
      intro hc
      obtain ⟨x, hx, hxi⟩ := List.any_eq_true.mp hc
      refine hn x.2 ?_
      rw [← beq_iff_eq.mp hxi]
      exact (List.mem_filter.mp hx).1
    rw [askSafe_eq]
    split
    · exact hself
    · split
      · exact ⟨k.point i hw, k.stands i.val hw⟩
      · exact ⟨k.point i hw, k.stands i.val hw⟩
  unfold safeNewPort
  cases hm : s.out.mode with
  | normal => exact hself
  | clamping => exact hask true (hi.resolve_left (by rw [hm]; exact nofun))
  | clamped => exact hask false (hi.resolve_left (by rw [hm]; exact nofun))
  | released =>
    dsimp only
    unfold askRelinquish
    rw [if_pos hu]
    have k := safeItemPlaced_placeItem (w := relinquishItem p) rfl hu
    exact ⟨k.point i rfl, k.stands i.val rfl⟩

end

/-! ## Who is told (R143) -/

section
variable {p : PortNo} {f : State → State}

theorem mem_newTellings (h : f ∈ portTellings p .identifying .ready none) :
    f = refreshIdentity p ∨ f = safeNewPort p ∨ f = stationTelling ∨ f = writeScrew true := by
  unfold portTellings recordTelling unitTellings jobTellings at h
  simp only [List.mem_append, List.mem_ite_nil_right, List.mem_ite_nil_left, List.mem_cons, List.not_mem_nil,
    or_false] at h
  rcases h with (⟨hc, -⟩ | ⟨hl, -⟩ | ⟨-, hr⟩) | ((⟨-, rfl⟩ | ⟨hn, -⟩) | ⟨-, rfl⟩) | ⟨⟨-, hr⟩, -⟩
  · exact absurd hc nofun
  · exact absurd hl nofun
  · exact hr.imp_right .inl
  · exact .inr (.inr (.inl rfl))
  · exact absurd rfl hn
  · exact .inr (.inr (.inr rfl))
  · exact absurd hr nofun

theorem refreshIdentity_mem (p : PortNo) : refreshIdentity p ∈ portTellings p .identifying .ready none := by
  rw [mem_portTellings]
  exact .inr (.inl List.mem_cons_self)

theorem safeNewPort_mem (p : PortNo) : safeNewPort p ∈ portTellings p .identifying .ready none := by
  rw [mem_portTellings]
  exact .inr (.inl (List.mem_cons_of_mem _ (List.mem_singleton_self _)))

theorem newTold_tellings (h : f ∈ portTellings p .identifying .ready none) {s : State} (hu : s.portUp p = true) :
    NewTold p s (f s) := by
  rcases mem_newTellings h with rfl | rfl | rfl | rfl
  · exact newTold_refreshIdentity p s
  · exact newTold_safeNewPort hu
  · exact newTold_stationTelling s
  · exact newTold_writeScrew true s

end

/-! ## The tellings, in any order -/

/-- All that the tellings of a port that enters READY bring (R161, R170). -/
structure NewStation (p : PortNo) (s t : State) : Prop where
  told : NewTold p s t
  refreshed : s.out.mode = .normal → ∀ i : Fin 16, Config.pointOwner p i.val ≠ .free → Refreshed p i t.req
  cleared : s.out.mode ≠ .normal → ∀ i : Fin 16, Config.pointOwner p i.val ≠ .free →
    s.req.writeStands p i.val = false → (s.out.mode = .released ∨ ∀ v, (i.val, v) ∉ s.out.safe.get p) →
    t.req.point p i = { s.req.point p i with commanded := none, state := .clean }
  safe : (s.out.mode = .clamping ∨ s.out.mode = .clamped) → safePairs s p ≠ [] → ItemAsked (newSafeItem p s) t.req
  outstanding : s.out.mode = .clamping → safePairs s p ≠ [] → t.out.outstanding.get p = true
  relinquish : s.out.mode = .released → ItemAsked (relinquishItem p) t.req

section
variable {p : PortNo} {s t : State} {f : State → State}

/-- A telling told to a state that the tellings before it have left. -/
theorem NewTold.next (hu : s.portUp p = true) (hf : f ∈ portTellings p .identifying .ready none)
    (h : NewTold p s t) : NewTold p s (f t) :=
  h.trans (newTold_tellings hf (by rw [portUp_of_ports h.ports, hu]))

theorem refreshed_tellings {i : Fin 16} (hf : f ∈ portTellings p .identifying .ready none) (hm : s.out.mode = .normal)
    (h : Refreshed p i s.req) : Refreshed p i (f s).req := by
  rcases mem_newTellings hf with rfl | rfl | rfl | rfl
  · refine h.imp (fun hd => ?_) fun hw => ?_
    · rw [refreshIdentity_point]
      split
      · rw [decide_eq_true hm]
        rfl
      · exact hd
    · rw [writeStands_of_table (refreshIdentity_table p s)]
      exact hw
  · unfold safeNewPort
    rw [hm]
    exact h
  · exact ((keptByJobs_refreshed p i).at s).writeEntry _ _ _ h
  · exact ((keptByJobs_refreshed p i).at s).writeScrew true h

theorem refreshed_refreshIdentity {i : Fin 16} (hm : s.out.mode = .normal) (ho : Config.pointOwner p i.val ≠ .free) :
    Refreshed p i (refreshIdentity p s).req := by
  unfold Refreshed
  rw [writeStands_of_table (refreshIdentity_table p s), refreshIdentity_point]
  cases hw : s.req.writeStands p i.val with
  | true => exact .inr rfl
  | false =>
    rw [if_pos ⟨ho, rfl⟩, decide_eq_true hm]
    exact .inl rfl

/-- Outside NORMAL: the point stands as it was or as the refresh leaves it, and no write of it stands. -/
def PointClearing (p : PortNo) (i : Fin 16) (pt : Point) (t : State) : Prop :=
  t.req.writeStands p i.val = false
    ∧ (t.req.point p i = pt ∨ t.req.point p i = { pt with commanded := none, state := .clean })

/-- The point the refresh leaves outside NORMAL. -/
theorem refreshIdentity_cleared {i : Fin 16} {pt : Point} (hm : s.out.mode ≠ .normal)
    (ho : Config.pointOwner p i.val ≠ .free) (h : PointClearing p i pt s) :
    (refreshIdentity p s).req.point p i = { pt with commanded := none, state := .clean } := by
  rw [refreshIdentity_point, if_pos ⟨ho, h.1⟩, decide_eq_false hm]
  rcases h.2 with e | e <;> rw [e] <;> rfl

theorem clearing_tellings {i : Fin 16} {pt : Point} (hf : f ∈ portTellings p .identifying .ready none)
    (hu : s.portUp p = true) (hm : s.out.mode ≠ .normal) (ho : Config.pointOwner p i.val ≠ .free)
    (hi : s.out.mode = .released ∨ ∀ v, (i.val, v) ∉ s.out.safe.get p) (h : PointClearing p i pt s) :
    PointClearing p i pt (f s)
      ∧ (s.req.point p i = { pt with commanded := none, state := .clean } →
        (f s).req.point p i = { pt with commanded := none, state := .clean }) := by
  rcases mem_newTellings hf with rfl | rfl | rfl | rfl
  · have hc := refreshIdentity_cleared hm ho h
    exact ⟨⟨(writeStands_of_table (refreshIdentity_table p s) _ _).trans h.1, .inr hc⟩, fun _ => hc⟩
  · obtain ⟨hp, hw⟩ := pointFree_safeNewPort hu hi
    exact ⟨⟨hw.trans h.1, by rw [hp]; exact h.2⟩, fun e => hp.trans e⟩
  · have hr : (stationTelling s).req = s.req := writeEntry_req_of_not_normal _ _ _ hm
    unfold PointClearing
    rw [hr]
    exact ⟨h, id⟩
  · have hr := writeScrew_of_not_normal true hm
    unfold PointClearing
    rw [hr]
    exact ⟨h, id⟩

theorem newStation_tellings (hu : s.portUp p = true) :
    NewStation p s (tellAll (portTellings p .identifying .ready none) s) := by
  have hstart := newTold_setTick (p := p) (s.tick + 1) s
  have hkeep : ∀ f ∈ portTellings p .identifying .ready none, ∀ t, NewTold p s t → NewTold p s (f t) :=
    fun f hf t ht => ht.next hu hf
  have hup : ∀ t, NewTold p s t → t.portUp p = true := fun t ht => by rw [portUp_of_ports ht.ports, hu]
  have hask : ∀ w, s.out.mode ≠ .normal → (∀ t, NewTold p s t → ItemAsked w (safeNewPort p t).req) →
      ItemAsked w (tellAll (portTellings p .identifying .ready none) s).req := fun w hm hb =>
    tellAll_brings (NewTold p s) (fun t => ItemAsked w t.req) hkeep
      (fun f hf t ht hq => (newTold_tellings hf (hup t ht)).asked (by rw [ht.mode]; exact hm) w hq)
      ⟨_, safeNewPort_mem p, hb⟩ hstart
  refine ⟨tellAll_keeps (NewTold p s) hkeep hstart, fun hm i ho => ?_, fun hm i ho hw hi => ?_, fun hm hne => ?_,
    fun hm hne => ?_, fun hm => ?_⟩
  · exact tellAll_brings (NewTold p s) (fun t => Refreshed p i t.req) hkeep
      (fun f hf t ht hq => refreshed_tellings hf (ht.mode.trans hm) hq)
      ⟨_, refreshIdentity_mem p, fun t ht => refreshed_refreshIdentity (ht.mode.trans hm) ho⟩ hstart
  · have hmt : ∀ t, NewTold p s t → t.out.mode ≠ .normal := fun t ht => by rw [ht.mode]; exact hm
    have hit : ∀ t, NewTold p s t → t.out.mode = .released ∨ ∀ v, (i.val, v) ∉ t.out.safe.get p := fun t ht => by
      rw [ht.mode, show t.out.safe = s.out.safe by rw [ht.out]]
      exact hi
    exact tellAll_brings (fun t => NewTold p s t ∧ PointClearing p i (s.req.point p i) t)
      (fun t => t.req.point p i = { s.req.point p i with commanded := none, state := .clean })
      (fun f hf t ht => ⟨hkeep f hf t ht.1,
        (clearing_tellings hf (hup t ht.1) (hmt t ht.1) ho (hit t ht.1) ht.2).1⟩)
      (fun f hf t ht hq => (clearing_tellings hf (hup t ht.1) (hmt t ht.1) ho (hit t ht.1) ht.2).2 hq)
      ⟨_, refreshIdentity_mem p, fun t ht => refreshIdentity_cleared (hmt t ht.1) ho ht.2⟩
      ⟨hstart, hw, .inl rfl⟩
  · refine hask _ (by rcases hm with e | e <;> rw [e] <;> exact nofun) fun t ht => ?_
    have k := (asked_safeNewPort (hup t ht)).1
    unfold newSafeItem at k ⊢
    rw [ht.mode, ht.pairs] at k
    exact k hm hne
  · refine tellAll_brings (NewTold p s) (fun t => t.out.outstanding.get p = true) hkeep
      (fun f hf t ht hq => (newTold_tellings hf (hup t ht)).outstanding hq) ⟨_, safeNewPort_mem p, fun t ht => ?_⟩ hstart
    have k := (asked_safeNewPort (hup t ht)).2.1
    rw [ht.mode, ht.pairs] at k
    exact k hm hne
  · exact hask _ (by rw [hm]; exact nofun) fun t ht => (asked_safeNewPort (hup t ht)).2.2 (ht.mode.trans hm)

end

end Sys2Proof.Machine

/-! SUPPORT. The identity accepted (R137, R138), and the outcome of the entry on a port's line at each of its owners. -/

namespace Sys2Proof.Machine

section
variable {p : PortNo} {e : Entry} {seq : Byte} {s : State}

/-- The state in which the tellings of the accepted identity begin. -/
def identified (p : PortNo) (e : Entry) (values : List Nat) (idn : Identity) (s : State) : State :=
  portEntered p .ready .identified none
    (modPort p (fun pt => { pt with identity := some idn, stale := some (staleTime p) }) (ended e (.done values) s))

/-- The entry of the port with the identity accepted. -/
def Port.identifiedAs (p : PortNo) (idn : Identity) (pt : Port) : Port :=
  { pt with
    state := .ready, cause := .identified, supply := true, identity := some idn, noAnswer := 0
    debounce := none, partialTimer := none, settle := none, stale := some (3 * Config.reportPeriod (Config.portClass p)) }

theorem put_put {α : Type} {n : Nat} (v : Vector α n) (i : Fin n) (x y : α) : put (put v i x) i y = put v i y := by
  simp [put]

variable {values : List Nat} {idn : Identity}

theorem identified_ports (h : OnLine p e seq s) : (identified p e values idn s).ports =
    put s.ports p ((s.ports.get p).identifiedAs p idn) := by
  unfold identified
  rw [portEntered_ports]
  change put (put (ended e (.done values) s).ports p _) p (((put (ended e (.done values) s).ports p _).get p).enter _ _) = _
  rw [get_put_self, put_put, ended_ports h, put_put, get_put_self]
  rfl

theorem agree_identified (p : PortNo) (e : Entry) (values : List Nat) (idn : Identity) (s : State) :
    AgreeBut [.link, .muck, .ports, .req, .tick] s (identified p e values idn s) :=
  ((agree_ended e _ s).mono (by simp +contextual)).trans
    ((agree_setPorts (by simp) _ _).trans ((agree_portEntered _ _ _ _ _).mono (by simp +contextual)))

theorem grown_identified (p : PortNo) (e : Entry) (values : List Nat) (idn : Identity) (s : State) :
    Grown s (identified p e values idn s) :=
  (grown_ended e (.done values) s).trans (Grown.trans
    (t := modPort p (fun pt => { pt with identity := some idn, stale := some (staleTime p) }) (ended e (.done values) s))
    (.of_link rfl) (grown_portEntered _ _ _ _ _))

/-- The IDENTIFY writes no point: its end leaves the requests but for the entry. -/
theorem identified_req (h : OnLine p e seq s) {a : Action} (hk : e.kind = .action a) :
    (identified p e values idn s).req = leftBy e s := by
  refine (agree_portEntered _ _ _ _ _ .req (by simp)).trans ((ended_req h).trans ?_)
  rw [hk]
  rfl

theorem writeStands_leftBy {i : Nat} (h : s.req.writeStands p i = false) : (leftBy e s).writeStands p i = false := by
  rw [← Bool.not_eq_true, writeStands_iff] at h ⊢
  rintro ⟨d, hd, hdi⟩
  exact h ⟨d, List.mem_of_mem_erase hd, hdi⟩

theorem reported_identified (h : OnLine p e seq s) (hs : (s.ports.get p).state = .identifying) :
    Reported (.port p .identifying .ready .identified true (some idn) none) (identified p e values idn s) := by
  have hr := reported_portEntered p .ready .identified none
    (modPort p (fun pt => { pt with identity := some idn, stale := some (staleTime p) }) (ended e (.done values) s))
  have hst : ((modPort p (fun pt => { pt with identity := some idn, stale := some (staleTime p) })
      (ended e (.done values) s)).ports.get p).state = .identifying := by
    change ((put (ended e (.done values) s).ports p _).get p).state = _
    rw [get_put_self, ended_ports h, get_put_self]
    exact hs
  rw [hst, if_pos ⟨rfl, rfl⟩] at hr
  have hid : (((modPort p (fun pt => { pt with identity := some idn, stale := some (staleTime p) })
      (ended e (.done values) s)).ports.get p).enter .ready .identified).identity = some idn := by
    change ((((put (ended e (.done values) s).ports p _).get p)).enter .ready .identified).identity = _
    rw [get_put_self]
    rfl
  rw [hid] at hr
  exact hr

/-- An accepted identity: the tellings of a port in READY, from the port's new entry on (R137, R143). -/
theorem finishEntry_identified (h : OnLine p e seq s) (ho : e.origin = .port) {period : Nat}
    (hk : e.kind = .action (.identify period)) (hs : (s.ports.get p).state = .identifying)
    (hc : checkIdentity (Config.portClass p) values = .ok idn) :
    finishEntry e (.done values) s
      = tellAll (portTellings p .identifying .ready none) (identified p e values idn s) := by
  have hst : ((modPort p (fun pt => { pt with identity := some idn, stale := some (staleTime p) })
      (ended e (.done values) s)).ports.get p).state = .identifying := by
    change ((put (ended e (.done values) s).ports p _).get p).state = _
    rw [get_put_self, ended_ports h, get_put_self]
    exact hs
  rw [finishEntry_identify h ho hk hs]
  change takeIdentity p values _ = _
  rw [takeIdentity_ok hc, changePort_entered, hst]
  rfl

/-- What an accepted identity does, told in any order (R137, R138, R161, R170). -/
structure Accepted (p : PortNo) (idn : Identity) (s t : State) : Prop where
  port : t.ports.get p = (s.ports.get p).identifiedAs p idn
  stands : ∀ q, q ≠ p → t.ports.get q = s.ports.get q
  reported : Reported (.port p .identifying .ready .identified true (some idn) none) t
  points : ∀ i : Fin 16, Config.pointOwner p i.val ≠ .free →
    (s.out.mode = .normal → (t.req.point p i).state = .dirty ∨ t.req.writeStands p i.val = true)
      ∧ (s.out.mode ≠ .normal → s.req.writeStands p i.val = false →
        (s.out.mode = .released ∨ ∀ v, (i.val, v) ∉ s.out.safe.get p) →
        t.req.point p i = { s.req.point p i with commanded := none, state := .clean })
  safe : (s.out.mode = .clamping ∨ s.out.mode = .clamped) → safePairs t p ≠ [] → SafeAsked p (safePairs t p) t
  outstanding : s.out.mode = .clamping → safePairs t p ≠ [] → t.out.outstanding.get p = true
  relinquish : s.out.mode = .released →
    (∃ d ∈ t.req.table, d.origin = .safe ∧ d.port = p ∧ d.kind = .action .relinquish)
      ∨ ⟨.safe, p, .action .relinquish⟩ ∈ t.req.waits
  acted : Acted portReach s t

theorem accepted_finishEntry (h : OnLine p e seq s) (ho : e.origin = .port) {period : Nat}
    (hk : e.kind = .action (.identify period)) (hs : (s.ports.get p).state = .identifying)
    (hc : checkIdentity (Config.portClass p) values = .ok idn) :
    Accepted p idn s (finishEntry e (.done values) s) := by
  rw [finishEntry_identified h ho hk hs hc]
  have hports := identified_ports h (values := values) (idn := idn)
  have hreq := identified_req h hk (values := values) (idn := idn)
  have hrep := reported_identified h hs (values := values) (idn := idn)
  have hagree := agree_identified p e values idn s
  have hgrown := grown_identified p e values idn s
  generalize identified p e values idn s = u at hports hreq hrep hagree hgrown
  have hup : u.portUp p = true := by
    unfold State.portUp
    rw [hports, get_put_self]
    rfl
  have k := newStation_tellings hup
  generalize tellAll (portTellings p .identifying .ready none) u = t at k
  obtain ⟨told, hrefreshed, hcleared, hsafe, houtstanding, hrelinquish⟩ := k
  have hout : u.out = s.out := hagree .out (by simp)
  have hpoint : ∀ i, u.req.point p i = s.req.point p i := fun i => by
    rw [hreq]
    rfl
  rw [hout] at hrefreshed hcleared hsafe houtstanding hrelinquish
  have hg := hgrown.trans told.grown
  refine ⟨?_, fun q hq => ?_, hrep.grown told.grown, fun i hi => ⟨fun hm => hrefreshed hm i hi, fun hm hw hn => ?_⟩,
    fun hm hne => ?_, fun hm hne => houtstanding hm (by rwa [← told.pairs]), fun hm => hrelinquish hm, hg.replies, hg.link,
    (hagree.mono (by simp [portReach, permitReach])).trans told.agree⟩
  · rw [told.ports, hports, get_put_self]
  · rw [told.ports, hports, get_put_ne _ (Ne.symm hq)]
  · rw [hcleared hm i hi (by rw [hreq]; exact writeStands_leftBy hw) hn, hpoint]
  · rw [told.pairs] at hne ⊢
    exact hsafe hm hne

/-- An identification that fails, and the port with it (R137, R138, R141, R143). -/
structure Rejected (p : PortNo) (new : PortState) (cause : PortCause) (outcome : Option ReqOutcome) (s t : State) :
    Prop where
  port : t.ports.get p = { s.ports.get p with
    state := new, cause := cause, supply := false, identity := none, noAnswer := (t.ports.get p).noAnswer
    debounce := none, partialTimer := none, settle := none, stale := none }
  stands : ∀ q, q ≠ p → t.ports.get q = s.ports.get q
  reported : Reported (.port p .identifying new cause false none outcome) t
  table : ∀ d ∈ t.req.table, d.port ≠ p
  acted : Acted portReach s t

theorem rejected_changePort (h : OnLine p e seq s) {new : PortState} (cause : PortCause)
    (outcome : Option ReqOutcome) (o : ReqOutcome) (hn : new = .refused ∨ new = .faulted)
    (hs : (s.ports.get p).state = .identifying) :
    Rejected p new cause outcome s (changePort p new cause outcome (ended e o s))
      ∧ ∀ c, portRecord .identifying cause outcome = some c →
        Recorded ⟨.portLost, .port, none, some p, none, c, s.ring.number, s.adv.x⟩
          (changePort p new cause outcome (ended e o s)) := by
  have hports := ended_ports h (o := o)
  have ha := agree_ended e o s
  have hg := grown_ended e o s
  have hring : (ended e o s).ring = s.ring := rfl
  have hadv : (ended e o s).adv = s.adv := rfl
  generalize ended e o s = u at hports ha hg hring hadv
  have k := identifyLost_changePort cause outcome hn (s := u) (p := p) (by rw [hports, get_put_self]; exact hs)
  generalize changePort p new cause outcome u = t at k
  obtain ⟨kports, krep, ktable, krec, kg, kagree⟩ := k
  rw [hring, hadv] at krec
  have hp : t.ports.get p = ((u.ports.get p).enter new cause) := by rw [kports, get_put_self]
  have hgt := hg.trans kg
  refine ⟨⟨?_, fun q hq => ?_, krep, ktable, hgt.replies, hgt.link,
    (ha.mono (by simp [portReach, permitReach])).trans kagree⟩, krec⟩
  · rw [hp, hports, get_put_self]
    rcases hn with rfl | rfl <;> rfl
  · rw [kports, get_put_ne _ (Ne.symm hq), hports, get_put_ne _ (Ne.symm hq)]

end

end Sys2Proof.Machine

/-! SUPPORT. O48, owner by owner (R79, R121, R137, R155, R160, R170). -/

namespace Sys2Proof.Machine

section
variable {p : PortNo} {e : Entry} {seq : Byte} {s : State}

/-! ## The writes of the host and of the jobs (R155, R159, R160) -/

theorem write_done (h : OnLine p e seq s) {pairs : List (Nat × Nat)} (hk : e.kind = .write pairs)
    (hw : e.origin = .host ∨ e.origin = .advance ∨ e.origin = .pressure) :
    ∃ t, exec (.answerFrame p seq [0]) s = .next t ∧ t.req = (leftBy e s).endWrite p e.kind (.done [])
      ∧ (∀ tag, e.origin = .host → e.tag = some tag →
        Reported (.requestDone tag e.seqNo p e.kind (.done []) e.attempts) t)
      ∧ Acted [.req, .ports, .tick] s t := by
  obtain ⟨t, ht, hrest⟩ := finishEntry_writeDone h hw []
  have hd : answerData e.kind [] = some [] := by rw [hk]; exact answerData_nil nofun nofun
  exact ⟨t, (exec_done h hd).trans (by rw [ht]), hrest⟩

theorem write_refused (h : OnLine p e seq s) {pairs : List (Nat × Nat)} (hk : e.kind = .write pairs)
    (hw : e.origin = .host ∨ e.origin = .advance ∨ e.origin = .pressure) (reason : Byte) :
    ∃ t, exec (.answerFrame p seq [1, reason]) s = .next t
      ∧ (s.out.faults.length < 8 → t.req = (leftBy e s).endWrite p e.kind (.refused reason))
      ∧ FaultAdded ⟨.writeFailed, e.origin, e.tag, some p, e.kind.firstPoint, .refused reason, s.ring.number, s.adv.x⟩ s t
      ∧ (∀ tag, e.origin = .host → e.tag = some tag →
        Reported (.requestDone tag e.seqNo p e.kind (.refused reason) e.attempts) t)
      ∧ Acted (.ports :: .out :: .tick :: permitReach) s t := by
  obtain ⟨hf, hrep⟩ := finishEntry_writeRefused h hk hw reason
  have hr := ended_req h (o := .refused reason)
  have ha := agree_ended e (.refused reason) s
  have hg := grown_ended e (.refused reason) s
  obtain ⟨hadd, hreq, hgr, hagree⟩ := hf
  rw [show (ended e (.refused reason) s).ring = s.ring from rfl, show (ended e (.refused reason) s).adv = s.adv from rfl,
    h.port] at hadd
  exact ⟨_, exec_refused h reason, fun h8 => (hreq h8).trans hr, hadd.before rfl, hrep, (hg.trans hgr).acted
    ((ha.mono (by simp [permitReach])).trans (hagree.mono (by simp +contextual)))⟩

/-! ## The step's action (R121) -/

theorem answerData_step {a : Action} (hk : e.kind = .action a) (hi : ∀ period, a ≠ .identify period) :
    answerData e.kind [] = some [] := by
  rw [hk]
  exact answerData_nil nofun fun period hc => hi period (ReqKind.action.inj hc)

theorem step_done (h : OnLine p e seq s) (hb : e.origin = .build) {a : Action} (hk : e.kind = .action a)
    (hi : ∀ period, a ≠ .identify period) {st : Step} (hs : s.build.step = some st) (hr : st.state.running = true)
    (ha : st.action = .requested e.seqNo) :
    ∃ t, exec (.answerFrame p seq [0]) s = .next t
      ∧ t.build = { s.build with step := some { st with action := .accepted } }
      ∧ Acted [.req, .ports, .build, .tick] s t := by
  have ht := finishEntry_build h (answering_done []) hb hk
  rw [stepOutcome_done (s := ended e (.done []) s) hs hr ha] at ht
  refine ⟨_, (exec_done h (answerData_step hk hi)).trans (congrArg _ ht), rfl, Grown.acted ?_ ?_⟩
  · exact (grown_ended e (.done []) s).trans (.of_link rfl)
  · exact ((agree_ended e (.done []) s).mono (by simp +contextual)).trans (agree_setBuild (by simp) _ _)

theorem step_refused (h : OnLine p e seq s) (hb : e.origin = .build) {a : Action} (hk : e.kind = .action a)
    {st : Step} (hs : s.build.step = some st) (hr : st.state.running = true) (ha : st.action = .requested e.seqNo)
    (reason : Byte) :
    ∃ t, exec (.answerFrame p seq [1, reason]) s = .next t ∧ t.build.step = some (st.faulted (.refused reason))
      ∧ FaultAdded ⟨.stepFault, .build, none, some (phasePort st.state st.sector), none, .refused reason,
          s.ring.number, s.adv.x⟩ s t
      ∧ Acted (.ports :: .out :: .tick :: permitReach) s t := by
  have ht := finishEntry_build h (answering_refused reason) hb hk
  rw [stepOutcome_refused (s := ended e (.refused reason) s) hs hr ha] at ht
  have k := stepFaulted_stepFault (s := ended e (.refused reason) s) hs hr (.refused reason)
  have hg := grown_ended e (.refused reason) s
  have hag := agree_ended e (.refused reason) s
  obtain ⟨kstep, kadd, kg, ka⟩ := k
  exact ⟨_, (exec_refused h reason).trans (congrArg _ ht), kstep, kadd.before rfl, (hg.trans kg).acted
    ((hag.mono (by simp [permitReach])).trans (ka.mono (by simp +contextual)))⟩

theorem step_ignored (h : OnLine p e seq s) (hb : e.origin = .build) {a : Action} (hk : e.kind = .action a)
    (hi : ∀ period, a ≠ .identify period) (hs : s.build.step = none ∨ ∃ st, s.build.step = some st
      ∧ (st.state.running = false ∨ st.action ≠ .requested e.seqNo)) :
    (∃ t, exec (.answerFrame p seq [0]) s = .next t ∧ Acted [.req, .ports, .tick] s t)
      ∧ ∀ reason, ∃ t, exec (.answerFrame p seq [1, reason]) s = .next t ∧ Acted [.req, .ports, .tick] s t := by
  have told : ∀ o, Answering o → finishEntry e o s = ended e o s := fun o ho =>
    (finishEntry_build h ho hb hk).trans (stepOutcome_ignored (s := ended e o s) hs)
  refine ⟨⟨_, (exec_done h (answerData_step hk hi)).trans (congrArg _ (told _ (answering_done []))), acted_ended e _ s⟩,
    fun reason => ⟨_, (exec_refused h reason).trans (congrArg _ (told _ (answering_refused reason))), acted_ended e _ s⟩⟩

/-! ## A line's stroke (R79) -/

theorem stroke_done (h : OnLine p e seq s) (hg : e.origin = .grout) {i : LineNo} {volume : Nat}
    (hk : e.kind = .action (.stroke i volume)) (hph : (s.line i).phase = .requested e.seqNo) :
    ∃ t, exec (.answerFrame p seq [0]) s = .next t ∧ t.lines = put s.lines i { s.line i with phase := .running }
      ∧ Acted [.req, .ports, .lines, .tick] s t := by
  have ht := finishEntry_stroke h hg hk hph []
  have hd : answerData e.kind [] = some [] := by rw [hk]; exact answerData_nil nofun nofun
  refine ⟨_, (exec_done h hd).trans (congrArg _ ht), rfl, Grown.acted ?_ ?_⟩
  · exact (grown_ended e (.done []) s).trans (grown_setLine _ _ _)
  · exact ((agree_ended e (.done []) s).mono (by simp +contextual)).trans ((agree_setLine _ _ _).mono (by simp))

/-! ## The IDENTIFY (R137, R138) -/

theorem exec_identity (h : OnLine p e seq s) {period : Nat} (hk : e.kind = .action (.identify period))
    (cls rev points channels : Byte) : exec (.answerFrame p seq [0, cls, rev, points, channels]) s
      = .next (finishEntry e (.done [cls.toNat, rev.toNat, points.toNat, channels.toNat]) s) :=
  exec_done h (by rw [hk]; rfl)

/-- The identity record rejected: the port is REFUSED with the cause of the check that fails (R138). -/
theorem identity_rejected (h : OnLine p e seq s) (ho : e.origin = .port) {period : Nat}
    (hk : e.kind = .action (.identify period)) (hs : (s.ports.get p).state = .identifying) {cause : PortCause}
    {cls rev points channels : Byte}
    (hc : checkIdentity (Config.portClass p) [cls.toNat, rev.toNat, points.toNat, channels.toNat] = .error cause) :
    ∃ t, exec (.answerFrame p seq [0, cls, rev, points, channels]) s = .next t ∧ Rejected p .refused cause none s t := by
  have k := (rejected_changePort h cause none (.done [cls.toNat, rev.toNat, points.toNat, channels.toNat]) (.inl rfl) hs).1
  refine ⟨_, exec_identity h hk cls rev points channels, ?_⟩
  rw [finishEntry_identify h ho hk hs]
  change Rejected p .refused cause none s (takeIdentity p _ _)
  rw [takeIdentity_error hc]
  exact k

/-- The IDENTIFY failed: the port is FAULTED, with the record of the outcome (R137, R144). -/
theorem identify_failed (h : OnLine p e seq s) (ho : e.origin = .port) {period : Nat}
    (hk : e.kind = .action (.identify period)) (hs : (s.ports.get p).state = .identifying) {o : ReqOutcome}
    (hf : (∃ reason, o = .refused reason) ∨ o = .noAnswer) :
    Rejected p .faulted .identifyFailed (some o) s (finishEntry e o s)
      ∧ Recorded ⟨.portLost, .port, none, some p, none, .identifyFailed o, s.ring.number, s.adv.x⟩
        (finishEntry e o s) := by
  have k := rejected_changePort h .identifyFailed (some o) o (.inr rfl) hs
  have ht : finishEntry e o s = changePort p .faulted .identifyFailed (some o) (ended e o s) := by
    rw [finishEntry_identify h ho hk hs]
    rcases hf with ⟨reason, rfl⟩ | rfl <;> rfl
  rw [ht]
  exact ⟨k.1, k.2 _ rfl⟩

end

/-- Settles O48, by the owner of the entry: each part by its rule above. -/
theorem outcomesReachTheirOwners : Obligations.OutcomesReachTheirOwners := by
  unfold Obligations.OutcomesReachTheirOwners
  intro p e seq s hfind hst htag
  have h : OnLine p e seq s := ⟨hfind, hst⟩
  have hnone : e.origin ≠ .host → e.tag = none := fun hn => by
    rw [← Option.not_isSome_iff_eq_none]
    exact fun k => hn (htag.mp k)
  dsimp only
  refine ⟨fun pairs hk hw => ⟨write_done h hk hw, fun reason => write_refused h hk hw reason⟩, fun hs hk => ?_,
    fun a hb hk hi => ⟨fun st hs hr ha => ⟨step_done h hb hk hi hs hr ha, step_refused h hb hk hs hr ha⟩,
      step_ignored h hb hk hi⟩, fun i volume hg hk hph => stroke_done h hg hk hph, fun period ho hk hs => ?_⟩
  · have hd : answerData e.kind [] = some [] := by
      rcases hk with ⟨pairs, hk⟩ | hk <;> rw [hk] <;> exact answerData_nil nofun nofun
    have leaves : ∀ {o : ReqOutcome} {t : State}, SafeEnded p e o s t →
        t.out.mode = (if passesToClamped p s.out then .clamped else s.out.mode) := fun k => by
      split
      · exact (k.passed ‹_›).1
      · exact k.stays ‹_›
    refine ⟨?_, fun reason => ?_⟩
    · obtain ⟨k, hfaults⟩ := safeEnded_done h hs []
      exact ⟨_, exec_done h hd, ⟨k.outstanding, k.req, leaves k, k.cause, fun hp => (k.passed hp).2, k.acted⟩, hfaults⟩
    · obtain ⟨k, hadd⟩ := safeEnded_refused h hs reason
      refine ⟨_, exec_refused h reason,
        ⟨k.outstanding, k.req, leaves k, k.cause, fun hp => (k.passed hp).2, k.acted⟩, ?_⟩
      rw [hnone (by rw [hs]; exact nofun), hs]
      exact hadd
  · refine ⟨fun cls rev points channels hc hf => ?_, fun cls rev points channels hc => ?_,
      fun cls rev points channels hc hf => ?_, fun reason => ?_, ?_⟩
    · have k := accepted_finishEntry h ho hk hs (checkIdentity_ok (rev := rev.toNat) hc hf)
      exact ⟨_, exec_identity h hk cls rev points channels, k.port, k.stands, k.reported, k.points, k.safe, k.outstanding,
        k.relinquish, k.acted⟩
    · obtain ⟨t, ht, k⟩ := identity_rejected h ho hk hs (cls := cls) (rev := rev) (points := points)
        (channels := channels) (checkIdentity_class hc)
      exact ⟨t, ht, k.port, k.stands, k.reported, k.table, k.acted⟩
    · obtain ⟨t, ht, k⟩ := identity_rejected h ho hk hs (cls := cls) (rev := rev) (points := points)
        (channels := channels) (checkIdentity_misfit hc hf)
      exact ⟨t, ht, k.port, k.stands, k.reported, k.table, k.acted⟩
    · obtain ⟨k, hrec⟩ := identify_failed h ho hk hs (.inl ⟨reason, rfl⟩)
      exact ⟨_, exec_refused h reason, ⟨k.port, k.stands, k.reported, k.table, k.acted⟩, hrec⟩
    · obtain ⟨k, hrec⟩ := identify_failed h ho hk hs (.inr rfl)
      exact ⟨_, exec_noAnswer h, ⟨k.port, k.stands, k.reported, k.table, k.acted⟩, hrec⟩

end Sys2Proof.Machine

/-! SUPPORT. The Build Plan and the Segment Queue (06): the plan of a key slot and its next entry, an event and its answer,
the tests of PIECE_ARRIVED and of PIECE_DISCARD. -/

namespace Sys2Proof.Machine

/-! ## The Build Plan (R100) -/

theorem buildPlan_names (k slot : Fin 8) : ∃ e ∈ buildPlan k, e.slot = slot := by
  revert k slot
  decide

theorem buildPlan_nodup (k : Fin 8) : ((buildPlan k).map (·.slot)).Nodup := by
  revert k
  decide

theorem next_of_closed {u : Ring} (h : u.current = none) : u.next = none := by
  unfold Ring.next
  rw [h]

/-- With a ring open the next entry is the one at the number of placed pieces (R100). -/
theorem next_of_current {u : Ring} {r : Record} (h : u.current = some r) :
    u.next = (u.plan[r.placed.length]?).map fun e => (r.placed.length, e) := by
  unfold Ring.next
  rw [h]

/-- Settles O31. -/
theorem buildPlanRule : Obligations.BuildPlanRule := by
  unfold Obligations.BuildPlanRule
  intro k
  refine ⟨rfl, buildPlan_names k, buildPlan_nodup k, fun u hu => ⟨next_of_closed, fun r hr h8 => ?_, fun r hr h8 => ?_⟩⟩
  · rw [next_of_current hr, hu, h8]
    rfl
  · have hget : (buildPlan k)[r.placed.length]? = some ((buildPlan k)[r.placed.length]'h8) :=
      List.getElem?_eq_getElem h8
    exact ⟨_, by rw [next_of_current hr, hu, hget]; rfl, hget⟩

/-! ## An event and its answer (R139) -/

/-- An event that its owner takes is answered with the owner's status (R139). -/
theorem exec_event_taken {p : PortNo} {e : StationEvent} {s t : State} {a : EventStatus} (seq : Byte)
    (hp : s.portUp p = true) (hc : Config.portClass p = e.sentBy) (h : passEvent p e s = (t, a)) :
    exec (eventRow p seq e) s = .next (sendField p (eventAnswerFrame seq a) t) :=
  (exec_eventRow p seq e s).trans (congrArg _ (takeEvent_taken seq hp hc h))

/-- An event that its owner does not expect is answered NOT_EXPECTED and changes nothing, from whatever port in service it
came (R122, R139). -/
theorem exec_event_notExpected {p : PortNo} {e : StationEvent} {s : State} (seq : Byte) (hp : s.portUp p = true)
    (h : passEvent p e s = (s, .notExpected)) :
    exec (eventRow p seq e) s = .next (sendField p (eventAnswerFrame seq .notExpected) s) := by
  by_cases hc : Config.portClass p = e.sentBy
  · exact exec_event_taken seq hp hc h
  · refine (exec_eventRow p seq e s).trans (congrArg _ ?_)
    rw [takeEvent_notExpected seq (.inr hc)]
    exact if_pos (powered_of_portUp hp)

/-! ## PIECE_ARRIVED (R110, R113) -/

theorem PieceKind.ofCode_code (named : PieceKind) : PieceKind.ofCode named.code = some named := by cases named <;> rfl

theorem PieceKind.ofCode_of_two_lt {kind : Nat} (h : 2 < kind) : PieceKind.ofCode kind = none := by
  unfold PieceKind.ofCode
  split
  case h_4 => rfl
  all_goals omega

theorem PieceKind.ofCode_of_le_two {kind : Nat} (h : kind ≤ 2) : ∃ named, PieceKind.ofCode kind = some named := by
  interval_cases kind <;> exact ⟨_, rfl⟩

/-- A serial is held in the queue or in the current record's placed list (R110). -/
theorem holdsSerial_iff (u : Ring) (serial : Nat) : u.holdsSerial serial = true ↔
    u.queue.any (·.serial == serial) = true ∨ ∃ r, u.current = some r ∧ ∃ e ∈ r.placed, e.serial = serial := by
  unfold Ring.holdsSerial
  cases u.current <;> simp

section
variable {kind serial : Nat} {named : PieceKind} {s : State}

theorem takePieceArrived_badKind (hk : PieceKind.ofCode kind = none) :
    takePieceArrived kind serial s = (pieceReport .refused kind serial .badKind s, .badKind) := by
  unfold takePieceArrived
  rw [hk]

theorem takePieceArrived_badValue (hk : PieceKind.ofCode kind = some named) (h0 : serial = 0) :
    takePieceArrived kind serial s = (pieceReport .refused kind serial .badValue s, .status .badValue) := by
  unfold takePieceArrived
  rw [hk]
  exact if_pos h0

theorem takePieceArrived_duplicate (hk : PieceKind.ofCode kind = some named) (h0 : serial ≠ 0)
    (hd : s.ring.holdsSerial serial = true) :
    takePieceArrived kind serial s = (pieceReport .refused kind serial .duplicateSerial s, .duplicateSerial) := by
  unfold takePieceArrived
  rw [hk]
  exact (if_neg h0).trans (if_pos hd)

theorem takePieceArrived_full (hk : PieceKind.ofCode kind = some named) (h0 : serial ≠ 0)
    (hd : s.ring.holdsSerial serial ≠ true) (h8 : 8 ≤ s.ring.queue.length) :
    takePieceArrived kind serial s = (pieceReport .refused kind serial .queueFull s, .queueFull) := by
  unfold takePieceArrived
  rw [hk]
  exact (if_neg h0).trans ((if_neg hd).trans (if_pos h8))

theorem takePieceArrived_joins (hk : PieceKind.ofCode kind = some named) (h0 : serial ≠ 0)
    (hd : s.ring.holdsSerial serial ≠ true) (h8 : s.ring.queue.length < 8) :
    takePieceArrived kind serial s = (pieceReport .arrived kind serial .none
      (s.setRing { s.ring with queue := s.ring.queue ++ [⟨named, serial⟩] }), .status .ok) := by
  unfold takePieceArrived
  rw [hk]
  exact (if_neg h0).trans ((if_neg hd).trans (if_neg (Nat.not_le.mpr h8)))

/-- PIECE_ARRIVED from port 11 in service is answered with what the Ring Unit decides (R110, R139). -/
theorem exec_pieceArrived {t : State} {a : EventStatus} (seq : Byte) (hp : s.portUp 11 = true)
    (h : takePieceArrived kind serial s = (t, a)) :
    exec (.pieceArrived 11 seq kind serial) s = .next (sendField 11 (eventAnswerFrame seq a) t) :=
  exec_event_taken seq hp (e := .pieceArrived kind serial) rfl h

end

/-! ## PIECE_DISCARD (R112, R113) -/

theorem takePieceDiscard_empty {s : State} (h : s.ring.queue = []) :
    takePieceDiscard s = (s, .queueEmpty, []) := by
  unfold takePieceDiscard
  rw [h]
  rfl

theorem takePieceDiscard_active {s : State} (h : s.ring.queue ≠ []) (hs : s.build.step ≠ none) :
    takePieceDiscard s = (s, .wrongState, []) := by
  unfold takePieceDiscard
  split
  · contradiction
  · exact if_pos hs

theorem takePieceDiscard_head {s : State} {piece : Piece} {rest : List Piece} (h : s.ring.queue = piece :: rest)
    (hs : s.build.step = none) : takePieceDiscard s =
      (pieceReport .discarded piece.kind.code piece.serial .none (s.setRing { s.ring with queue := rest }), .ok,
        u8 piece.kind.code ++ u32 piece.serial) := by
  unfold takePieceDiscard
  rw [h]
  exact if_neg (not_not.mpr hs)

/-- Settles O34: each test of R110, and each case of R112, by its equation above. -/
theorem segmentQueueRule : Obligations.SegmentQueueRule := by
  unfold Obligations.SegmentQueueRule
  refine ⟨fun seq kind serial s hp => ?_, fun tag s h => ⟨fun he => ?_, fun he hs => ?_, fun piece rest he hs => ?_⟩⟩
  · have free : s.ring.queue.any (·.serial == serial) = false →
        (¬ ∃ r, s.ring.current = some r ∧ ∃ e ∈ r.placed, e.serial = serial) →
        s.ring.holdsSerial serial ≠ true := fun hq hr hh =>
      ((holdsSerial_iff _ _).mp hh).elim (fun k => by rw [hq] at k; exact nomatch k) hr
    refine ⟨fun hk => ?_, fun hk h0 => ?_, fun hk h0 hd => ?_, fun hk h0 hq hr h8 => ?_, fun named hk h0 hq hr h8 => ?_⟩
    · exact exec_pieceArrived seq hp (takePieceArrived_badKind (PieceKind.ofCode_of_two_lt hk))
    · obtain ⟨named, hn⟩ := PieceKind.ofCode_of_le_two hk
      exact exec_pieceArrived seq hp (takePieceArrived_badValue hn h0)
    · obtain ⟨named, hn⟩ := PieceKind.ofCode_of_le_two hk
      exact exec_pieceArrived seq hp (takePieceArrived_duplicate hn h0 ((holdsSerial_iff _ _).mpr hd))
    · obtain ⟨named, hn⟩ := PieceKind.ofCode_of_le_two hk
      exact exec_pieceArrived seq hp (takePieceArrived_full hn h0 (free hq hr) h8)
    · have hn : PieceKind.ofCode kind = some named := hk ▸ PieceKind.ofCode_code named
      exact exec_pieceArrived seq hp (takePieceArrived_joins hn h0 (free hq hr) h8)
  · exact exec_command (c := .pieceDiscard) rfl h (takePieceDiscard_empty he)
  · exact exec_command (c := .pieceDiscard) rfl h (takePieceDiscard_active he hs)
  · exact exec_command (c := .pieceDiscard) rfl h (takePieceDiscard_head he hs)

end Sys2Proof.Machine

/-! SUPPORT. The phases of a placement step (07): a phase entered with its port in service and without, and the events that
end a phase. -/

namespace Sys2Proof.Machine

/-! ## A phase entered (R119, R120, R122) -/

/-- An action asked on a port in service is registered as the newest entry, or waits at the tail (R150). -/
theorem placeItem_up {o : Origin} {p : PortNo} {s : State} (ho : o ≠ .port) (a : Action) (hu : s.portUp p = true) :
    placeItem ⟨o, p, .action a⟩ s = (s.setReq (s.req.register o none p (.action a)), .registered s.req.nextSeq)
      ∨ placeItem ⟨o, p, .action a⟩ s
        = (s.setReq { s.req with waits := s.req.waits ++ [⟨o, p, .action a⟩] }, .waiting) := by
  have ht : (s.ports.get p).state.takes o (.action a) = true := (takes_action _ ho _).trans hu
  unfold placeItem Requests.placeItem
  dsimp only
  rw [ht, Bool.not_true, if_neg Bool.false_ne_true]
  split
  · exact .inl rfl
  · exact .inr rfl

/-- The action of the step's phase is asked: of the Build Sequencer the step record alone changes. -/
structure PhaseAsked (st : Step) (s t : State) : Prop where
  issued : PhaseIssued st t
  owners : t.build.owners = s.build.owners
  groups : t.build.groups = s.build.groups
  grant : t.build.grant = s.build.grant
  agree : AgreeBut [.build, .req] s t

theorem phaseAsked_issuePhase {st : Step} {s : State} (hs : s.build.step = some st)
    (hu : s.portUp (phasePort st.state st.sector) = true) : PhaseAsked st s (issuePhase s) := by
  have agree : ∀ (r : Requests) (v : Option Step), AgreeBut [.build, .req] s (setStep v (s.setReq r)) := fun r v =>
    (agree_setReq (by simp) r s).trans (agree_setBuild (by simp) _ _)
  unfold issuePhase
  simp only [hs, hu, Bool.not_true, if_neg Bool.false_ne_true]
  rcases placeItem_up (o := .build) nofun (phaseAction st) hu with h | h <;> rw [h]
  · exact ⟨.inl ⟨s.req.nextSeq, rfl, List.mem_append_right _ (List.mem_singleton_self _)⟩, rfl, rfl, rfl, agree _ _⟩
  · exact ⟨.inr ⟨rfl, List.mem_append_right _ (List.mem_singleton_self _)⟩, rfl, rfl, rfl, agree _ _⟩

theorem issuePhase_down {st : Step} {s : State} (hs : s.build.step = some st)
    (hd : s.portUp (phasePort st.state st.sector) = false) : issuePhase s = stepFault .portLost s := by
  unfold issuePhase
  simp only [hs, hd, Bool.not_false, if_true]

/-- A phase is entered: its action asked, the groups of the step's sector in the phase's state, and no other unit but the
Request Unit changed. -/
structure PhaseEntered (st : Step) (g : GroupState) (s t : State) : Prop where
  issued : PhaseIssued st t
  owners : t.build.owners = s.build.owners
  groups : ∀ i, t.build.groups.get i = if sectorOf i = st.sector then g else s.build.groups.get i
  grant : t.build.grant = s.build.grant
  agree : AgreeBut [.build, .req] s t

theorem phaseEntered_enterPhase (st : Step) {state : StepState} (g : GroupState) {s : State}
    (hu : s.portUp (phasePort state st.sector) = true) :
    PhaseEntered { st with state := state, action := .none, timer := none } g s (enterPhase st state g s) := by
  have k := phaseAsked_issuePhase (s := setStep (some { st with state := state, action := .none, timer := none })
    (setGroups st.sector g s)) rfl hu
  have hset : AgreeBut [.build, .req] s (setStep (some { st with state := state, action := .none, timer := none })
      (setGroups st.sector g s)) := (agree_setBuild (by simp) _ s).trans (agree_setBuild (by simp) _ _)
  exact ⟨k.issued, k.owners, fun i => (congrArg (·.get i) k.groups).trans (setGroups_get st.sector g s i), k.grant,
    hset.trans k.agree⟩

theorem PhaseEntered.own_groups {st : Step} {g : GroupState} {s t : State} (k : PhaseEntered st g s t) :
    t.build.groups.get (sectorGroups st.sector).1 = g ∧ t.build.groups.get (sectorGroups st.sector).2 = g :=
  ⟨(k.groups _).trans (if_pos (sectorOf_groups st.sector).1), (k.groups _).trans (if_pos (sectorOf_groups st.sector).2)⟩

/-- A phase whose port is out of service is entered, and the step faults (R120, R124). -/
theorem enterPhase_down (st : Step) {state : StepState} (g : GroupState) {s : State}
    (hd : s.portUp (phasePort state st.sector) = false) : enterPhase st state g s =
      stepFault .portLost (setStep (some { st with state := state, action := .none, timer := none })
        (setGroups st.sector g s)) :=
  issuePhase_down rfl hd

/-! ## The events of a step (R122) -/

/-- An event of the thrust valves or of the erector: taken when the step passes the tests, else not expected (R122). -/
def takeStepEvent (test : Step → Bool) (go : Step → State) (s : State) : State × EventStatus :=
  match s.build.step with
  | none => (s, .notExpected)
  | some st => if test st then (go st, .status .ok) else (s, .notExpected)

/-- The state in which HOLDING has ended the step (R122). -/
def stepEnded (st : Step) (s : State) : State :=
  report (.placement s.ring.number st.position st.sector st.kind st.serial
      (match st.direction with | .forward => .placed | .backout => .backedOut) st.startedBy)
    (setStep none (setOwner st.sector .none (setGroups st.sector .hold s)))

section
variable (p : PortNo) (s : State)

theorem takeRetracted_eq (sector : Nat) : takeRetracted p sector s =
    takeStepEvent (fun st => awaits .retracting p s st && st.sector.val == sector)
      (fun st => enterPhase st .placing .retracted s) s := by
  unfold takeRetracted takeStepEvent
  cases s.build.step <;> rfl

theorem takePlaced_eq (serial : Nat) : takePlaced p serial s =
    takeStepEvent (fun st => awaits .placing p s st && st.serial == serial)
      (fun st => enterPhase st .extending .extending (movePiece s)) s := by
  unfold takePlaced takeStepEvent
  cases s.build.step <;> rfl

theorem takeReturned_eq : takeReturned p s =
    takeStepEvent (fun st => awaits .returning p s st && true) (fun st => enterPhase st .extending .extending s) s := by
  have htest : (fun st => awaits .returning p s st && true) = awaits .returning p s := funext fun _ => Bool.and_true _
  rw [htest]
  unfold takeReturned takeStepEvent
  cases s.build.step <;> rfl

theorem takeHolding_eq (sector : Nat) : takeHolding p sector s =
    takeStepEvent (fun st => awaits .extending p s st && st.sector.val == sector) (fun st => stepEnded st s) s := by
  unfold takeHolding takeStepEvent
  cases s.build.step <;> rfl

end

section
variable {test : Step → Bool} {go : Step → State} {s : State}

theorem takeStepEvent_refused (h : s.build.step.any test = false) :
    takeStepEvent test go s = (s, .notExpected) := by
  unfold takeStepEvent
  split
  · rfl
  · rename_i st hs
    rw [hs] at h
    exact if_neg (by rw [show test st = false from h]; exact Bool.false_ne_true)

theorem takeStepEvent_taken {st : Step} (hs : s.build.step = some st) (h : test st = true) :
    takeStepEvent test go s = (go st, .status .ok) := by
  unfold takeStepEvent
  rw [hs]
  exact if_pos h

end

/-- The step's action has been sent to the station: accepted, or its entry is on the line (R122). -/
def actionSent (s : State) (st : Step) : Bool :=
  st.action == .accepted || s.req.table.any fun e => st.action == .requested e.seqNo && e.state.onLine

theorem actionSent_iff (s : State) (st : Step) :
    actionSent s st = true ↔ st.action = .accepted ∨ ∃ n, st.action = .requested n ∧ s.req.onLine n = true := by
  unfold actionSent Requests.onLine
  cases st.action with
  | requested n => simp [@eq_comm _ n]
  | _ => simp

theorem awaits_eq (state : StepState) (p : PortNo) (s : State) (st : Step) :
    awaits state p s st = (st.state == state && phasePort state st.sector == p && actionSent s st) := by
  unfold awaits
  congr 1
  rw [Bool.eq_iff_iff, actionSent_iff]
  cases st.action <;> simp

/-- The tests of R122 on an event that names something of the step, in the order of the statements. -/
theorem awaits_and (state : StepState) (p : PortNo) (s : State) (st : Step) (b : Bool) :
    (awaits state p s st && b) = (st.state == state && (p == phasePort state st.sector && b) && actionSent s st) := by
  rw [awaits_eq, Bool.beq_comm (a := p)]
  ac_rfl

theorem takeStepEvent_unawaited {state : StepState} {p : PortNo} {names : Step → Bool} {go : Step → State} {s : State}
    (h : (s.build.step.any fun st => st.state == state && (p == phasePort state st.sector && names st)
      && actionSent s st) = false) :
    takeStepEvent (fun st => awaits state p s st && names st) go s = (s, .notExpected) := by
  refine takeStepEvent_refused ?_
  simp only [awaits_and]
  exact h

theorem awaits_of_sent {state : StepState} {s : State} {st : Step} (hst : st.state = state)
    (ha : actionSent s st = true) : awaits state (phasePort state st.sector) s st = true := by
  simp [awaits_eq, hst, ha]

theorem portClass_thrustPort (sec : Fin 8) : Config.portClass (thrustPort sec) = .thrustValve := by
  revert sec
  decide

/-! ## RETRACTED, PLACED, RETURNED and HOLDING, taken -/

/-- The move of the head piece into the ring (R111). -/
theorem movePiece_head {s : State} {r : Record} {pos : Nat} {e : PlanEntry} {piece : Piece} {rest : List Piece}
    (hr : s.ring.current = some r) (hn : s.ring.next = some (pos, e)) (hq : s.ring.queue = piece :: rest) :
    movePiece s = s.setRing { s.ring with
      current := some { r with placed := r.placed ++ [⟨e.slot, e.kind, piece.serial⟩] }, queue := rest } := by
  unfold movePiece
  rw [hr, hn, hq]

theorem agree_movePiece (s : State) : AgreeBut [.ring] s (movePiece s) := by
  unfold movePiece
  split
  · exact agree_setRing (by simp) _ s
  · exact .refl _ s

section
variable {s : State} {st : Step} (seq : Byte) (hs : s.build.step = some st) (ha : actionSent s st = true)
include hs ha

theorem exec_retracted_taken (hst : st.state = .retracting) (hp : s.portUp (thrustPort st.sector) = true) :
    exec (.retracted (thrustPort st.sector) seq st.sector.val) s
      = .next (sendField (thrustPort st.sector) (eventAnswerFrame seq (.status .ok))
          (enterPhase st .placing .retracted s)) := by
  refine exec_event_taken seq hp (e := .retracted st.sector.val) (portClass_thrustPort _) ?_
  refine (takeRetracted_eq _ s _).trans (takeStepEvent_taken hs ?_)
  rw [beq_self_eq_true, Bool.and_true]
  exact awaits_of_sent hst ha

theorem exec_placed_taken (hst : st.state = .placing) (hp : s.portUp 10 = true) :
    exec (.placed 10 seq st.serial) s = .next (sendField 10 (eventAnswerFrame seq (.status .ok))
      (enterPhase st .extending .extending (movePiece s))) := by
  refine exec_event_taken seq hp (e := .placed st.serial) rfl ?_
  refine (takePlaced_eq 10 s _).trans (takeStepEvent_taken hs ?_)
  rw [beq_self_eq_true, Bool.and_true]
  exact awaits_of_sent hst ha

theorem exec_returned_taken (hst : st.state = .returning) (hp : s.portUp 10 = true) :
    exec (.returned 10 seq) s = .next (sendField 10 (eventAnswerFrame seq (.status .ok))
      (enterPhase st .extending .extending s)) := by
  refine exec_event_taken seq hp (e := .returned) rfl ?_
  exact (takeReturned_eq 10 s).trans (takeStepEvent_taken hs ((Bool.and_true _).trans (awaits_of_sent hst ha)))

theorem exec_holding_taken (hst : st.state = .extending) (hp : s.portUp (thrustPort st.sector) = true) :
    exec (.holding (thrustPort st.sector) seq st.sector.val) s
      = .next (sendField (thrustPort st.sector) (eventAnswerFrame seq (.status .ok)) (stepEnded st s)) := by
  refine exec_event_taken seq hp (e := .holding st.sector.val) (portClass_thrustPort _) ?_
  refine (takeHolding_eq _ s _).trans (takeStepEvent_taken hs ?_)
  rw [beq_self_eq_true, Bool.and_true]
  exact awaits_of_sent hst ha

end

/-- A phase entered on an accepted event, and the event answered. -/
theorem PhaseEntered.acted {st : Step} {g : GroupState} {s u t : State} {ps : List Part} (k : PhaseEntered st g u t)
    (h : AgreeBut ps s u) (hp : .build ∈ ps) (hr : .req ∈ ps) (hf : .fieldLine ∈ ps) (hl : u.link = s.link) (p : PortNo)
    (bytes : List Byte) : Acted ps s (sendField p bytes t) := by
  have hlink : t.link = s.link := (k.agree .link (by simp)).trans hl
  refine Grown.acted (.of_link hlink) ((h.trans ((k.agree.mono ?_).trans ((agree_sendField _ _ t).mono ?_))).link)
  · simp [hp, hr]
  · simp [hf]

/-! ## The step ended (R117, R122) -/

/-- The groups of a sector whose owner changes follow the advance, or stand (R19, R117). -/
theorem setOwner_groups (sec : Fin 8) (o : SectorOwner) (s : State) (g : Fin 16) :
    (setOwner sec o s).build.groups.get g = s.build.groups.get g
      ∨ (setOwner sec o s).build.groups.get g = groupMode s.adv.state := by
  change (setpoints _).2.get g = _ ∨ (setpoints _).2.get g = _
  unfold setpoints
  split
  · exact (foldl_writeTarget_groups _ g _ _).imp_right And.right
  · exact .inl rfl

/-- Outside BORING the groups of the freed sector stand at HOLD (R117, R122). -/
theorem stepEnded_groups {st : Step} {s : State} (h : s.adv.state ≠ .boring) {g : Fin 16}
    (hg : sectorOf g = st.sector) : (stepEnded st s).build.groups.get g = .hold := by
  rcases setOwner_groups st.sector .none (setGroups st.sector .hold s) g with k | k
  · exact k.trans ((setGroups_get st.sector .hold s g).trans (if_pos hg))
  · refine Eq.trans k ?_
    change groupMode s.adv.state = .hold
    cases hs : s.adv.state with
    | boring => exact absurd hs h
    | _ => rfl

theorem setpointsHeld_stepEnded {st : Step} {s : State} (h : s.out.mode = .normal) : SetpointsHeld (stepEnded st s) := by
  have hr : SetpointsHeld (setOwner st.sector .none (setGroups st.sector .hold s)) := setpointsHeld_refresh h
  exact hr

theorem grown_stepEnded (st : Step) (s : State) : Grown s (stepEnded st s) :=
  have h : Grown s (setStep none (setOwner st.sector .none (setGroups st.sector .hold s))) := .of_link rfl
  h.trans (grown_report _ _)

theorem agree_stepEnded (st : Step) (s : State) : AgreeBut [.link, .build, .req] s (stepEnded st s) := by
  have hb : ∀ v u, AgreeBut [.link, .build, .req] u (u.setBuild v) := fun v u => agree_setBuild (by simp) v u
  exact (hb _ s).trans ((hb _ _).trans (((agree_refresh _).mono (by simp)).trans
    ((hb _ _).trans ((agree_report _ _).mono (by simp)))))

/-- Settles O37: the tests of R122 decide (takeStepEvent); a phase that is entered has its rule, with its port in service
and without, and so has the step's end. -/
theorem stepEventsAccepted : Obligations.StepEventsAccepted := by
  unfold Obligations.StepEventsAccepted
  refine ⟨fun p seq s hp => ?_, fun seq s st hs hsent => ?_⟩
  · refine ⟨fun sector => ⟨fun h => ?_, fun h => ?_⟩, fun serial h => ?_, fun h => ?_⟩
    · exact exec_event_notExpected seq hp (e := .retracted sector)
        ((takeRetracted_eq p s sector).trans (takeStepEvent_unawaited h))
    · exact exec_event_notExpected seq hp (e := .holding sector)
        ((takeHolding_eq p s sector).trans (takeStepEvent_unawaited h))
    · exact exec_event_notExpected seq hp (e := .placed serial)
        ((takePlaced_eq p s serial).trans (takeStepEvent_unawaited h))
    · exact exec_event_notExpected seq hp (e := .returned) ((takeReturned_eq p s).trans
        (takeStepEvent_unawaited (by simp only [Bool.and_true]; exact h)))
  · have ha : actionSent s st = true := (actionSent_iff s st).mpr hsent
    obtain ⟨hg1, hg2⟩ := sectorOf_groups st.sector
    have retracted := exec_retracted_taken seq hs ha
    have placed := exec_placed_taken seq hs ha
    have returned := exec_returned_taken seq hs ha
    refine ⟨fun hst hp hd => ?_, fun r pos e piece rest hst hp hd hr hn hq => ?_, fun hst hp hd => ?_,
      fun hst hp hu => ?_, fun r pos e piece rest hst hp hu hr hn hq => ?_, fun hst hp hu => ?_, fun hst hp => ?_⟩
    · exact (retracted hst hp).trans (congrArg _ (congrArg _ (enterPhase_down st _ hd)))
    · refine (placed hst hp).trans (congrArg _ (congrArg _ ?_))
      rw [movePiece_head hr hn hq]
      exact enterPhase_down st _ hd
    · exact (returned hst hp).trans (congrArg _ (congrArg _ (enterPhase_down st _ hd)))
    · have k := phaseEntered_enterPhase st (state := .placing) .retracted hu
      exact ⟨_, retracted hst hp, ⟨k.issued, k.owners, k.own_groups.1, k.own_groups.2, k.grant⟩,
        congrArg (· ++ _) (k.agree .fieldLine (by simp)),
        k.acted (.refl _ s) (by simp) (by simp) (by simp) rfl _ _⟩
    · have hm := agree_movePiece s
      have hb := movePiece_build s
      have hu' : (movePiece s).portUp (thrustPort st.sector) = true := (portUp_of_ports (hm .ports (by simp)) _).trans hu
      have k := phaseEntered_enterPhase st (state := .extending) .extending hu'
      exact ⟨_, placed hst hp, ⟨k.issued, k.owners.trans (congrArg _ hb), k.own_groups.1, k.own_groups.2,
        k.grant.trans (congrArg _ hb)⟩,
        congrArg (· ++ _) ((k.agree .fieldLine (by simp)).trans (hm .fieldLine (by simp))),
        (k.agree .ring (by simp)).trans (congrArg State.ring (movePiece_head hr hn hq)),
        k.acted (hm.mono (by simp)) (by simp) (by simp) (by simp) (hm .link (by simp)) _ _⟩
    · have k := phaseEntered_enterPhase st (state := .extending) .extending hu
      exact ⟨_, returned hst hp, ⟨k.issued, k.owners, k.own_groups.1, k.own_groups.2, k.grant⟩,
        congrArg (· ++ _) (k.agree .fieldLine (by simp)),
        k.acted (.refl _ s) (by simp) (by simp) (by simp) rfl _ _⟩
    · exact ⟨_, exec_holding_taken seq hs ha hst hp, rfl, rfl, rfl, rfl,
        fun hb => ⟨stepEnded_groups hb hg1, stepEnded_groups hb hg2⟩, setpointsHeld_stepEnded, reported_report _ _,
        Grown.acted ((grown_stepEnded st s).trans (.of_link rfl))
          (((agree_stepEnded st s).mono (by simp)).trans ((agree_sendField _ _ _).mono (by simp)))⟩

end Sys2Proof.Machine
